-- ==== Sys2Proof/Word.lean ====
section
/-! DEFINITION. The words that the part's two serial links carry. -/

namespace Sys2Proof

/-- One byte of a frame on the management link or the matrix link (R167, section 11.7). -/
abbrev Byte := BitVec 8

/-- The tag that a reply echoes (R168, R171). -/
abbrev Tag := BitVec 16

end Sys2Proof
end

