-- ==== Sys2Proof/Config.lean ====
section
/-! DEFINITION. What an implementation fixes, and the values the spec leaves free. -/

namespace Sys2Proof.Config

/-- The READY notice reports 16 engines fitted (R22, R178). -/
def enginesFitted : Nat := 16

/-- A full 1 ms window of a lane at 1,250,000,000 bit/s (R30, R35). -/
def windowBits : Nat := 1250000

/-- Bit periods in one count of the 125 MHz counter (R30, R38). -/
def bitsPerCount : Nat := 10

/-- Counts of the 125 MHz counter in one tick of the 1 ms time base (00_scope.md, Time bases). -/
def countsPerMs : Nat := 125000

/-- FREE VALUE (log 7). The delay word is "a 64-bit pattern unique to the engine and to the probe" (R38); the
spec gives no pattern. The arguments are the engine and the number of the launch. -/
opaque delayWord : Nat → Nat → BitVec 64

end Sys2Proof.Config
end

