-- ==== Sys2Proof/Syntax.lean ====
section
/-! DEFINITION. The steps of the part: one constructor for each row of spec/opcode_table.json. -/

namespace Sys2Proof

/-- What one lane sees in the 1 ms that a tick ends: the bits received since the lane's bits were last taken, and the
optical level at the tick in tenths of a dB relative to 1 mW (R35, R37). -/
structure LaneInput where
  rx    : List Bool
  level : Int
  deriving DecidableEq, Repr

/-- An engine, and a moment in bit periods from the tick before it (log 6). -/
structure LaneEvent where
  engine : Fin 16
  moment : Nat
  deriving DecidableEq, Repr

/-- The rows of the table. A command of the host carries its tag and its payload bytes (section 11.2). -/
inductive Instr
  -- the circuit table
  | circuitDefine (tag : Tag) (payload : List Byte)
  | circuitReport (tag : Tag) (payload : List Byte)
  | circuitRetire (tag : Tag) (payload : List Byte)
  | circuitSuspend (tag : Tag) (payload : List Byte)
  | circuitResume (tag : Tag) (payload : List Byte)
  | circuitBaselineClear (tag : Tag) (payload : List Byte)
  -- the engines
  | engineEnable (tag : Tag) (payload : List Byte)
  | engineDisable (tag : Tag) (payload : List Byte)
  | engineCalibrate (tag : Tag) (payload : List Byte)
  | engineReport (tag : Tag) (payload : List Byte)
  -- campaigns
  | campaignStart (tag : Tag) (payload : List Byte)
  | campaignAdd (tag : Tag) (payload : List Byte)
  | campaignPause (tag : Tag) (payload : List Byte)
  | campaignResume (tag : Tag) (payload : List Byte)
  | campaignCancel (tag : Tag) (payload : List Byte)
  | campaignAbort (tag : Tag) (payload : List Byte)
  | campaignReport (tag : Tag) (payload : List Byte)
  | classSet (tag : Tag) (payload : List Byte)
  | probeCircuit (tag : Tag) (payload : List Byte)
  -- points and nodes
  | pointSet (tag : Tag) (payload : List Byte)
  | pointReport (tag : Tag) (payload : List Byte)
  | nodeSet (tag : Tag) (payload : List Byte)
  | nodeReport (tag : Tag) (payload : List Byte)
  | nodeHold (tag : Tag) (payload : List Byte)
  | nodeRelease (tag : Tag) (payload : List Byte)
  -- the open loop list
  | releaseRetry (tag : Tag) (payload : List Byte)
  | openLoopClear (tag : Tag) (payload : List Byte)
  | openLoopReport (tag : Tag) (payload : List Byte)
  -- the matrix link and the device
  | matrixSet (tag : Tag) (payload : List Byte)
  | matrixResync (tag : Tag) (payload : List Byte)
  | deviceStatus (tag : Tag) (payload : List Byte)
  | deviceReset (tag : Tag) (payload : List Byte)
  | unknownCommand (kind code : Byte) (tag : Tag) (payload : List Byte)
  -- pins and lines
  | coldReset (strapA strapB : Bool)
  | frameReceived (bytes : List Byte)
  | lineError
  | frameGap
  | recordSent
  | ready
  -- time and the arbiter
  | timeBaseTick (lanes : Vector LaneInput 16)
  | arbiterRun
  -- the matrix link
  | requestSent
  | matrixAnswer (bytes : List Byte)
  | matrixAnswerGap
  | matrixTimeout
  -- the phases of a probe; a moment counts bit periods from the tick before it (log 6)
  | settleEnd (ev : LaneEvent)
  | loopConfirmed (engine : Fin 16)
  | loopUpTimeout (engine : Fin 16)
  | retrySpacingEnd (engine : Fin 16)
  | aisRaised (engine : Fin 16)
  | signalDropout (engine : Fin 16)
  | checkerSyncGain (engine : Fin 16) (rx : List Bool) (moment : Nat)
  | syncLoss (ev : LaneEvent) (rx : List Bool)
  | marker (engine : Fin 16)
  | delayWordFound (engine : Fin 16) (rx : List Bool) (moment : Nat)
  | delayWordTimeout (ev : LaneEvent)
  | calibrationLimit (engine : Fin 16)
  | soakTimeEnd (engine : Fin 16)
  | releaseHoldEnd (engine : Fin 16)
  | releaseCheckEnd (engine : Fin 16)
  | courtesyHoldEnd (engine : Fin 16)
  -- the campaign's clocks
  | creditAccrual (cls : Fin 4)
  | deadlineExpiry
  | nextEligibleReached (node : Fin 64)
  deriving DecidableEq, Repr

end Sys2Proof
end

