-- ==== Sys2Proof/Machine/State.lean ====
section
/-! DEFINITION. All state the spec gives the HX-1620, as plain data, and the machine right after cold reset. -/

namespace Sys2Proof.Machine

/-! ## The circuit table (chapter 1) -/

/-- R3. -/
inductive DefState | vacant | defined | suspended
  deriving DecidableEq, Repr

/-- R10. -/
inductive ProbeStatus | idle | queued | spot | active | openLoop
  deriving DecidableEq, Repr

/-- Rate class: BASE is probed with one engine, WIDE with a bonded pair (R4). -/
inductive RateClass | base | wide
  deriving DecidableEq, Repr

/-- An activate or deactivate code: `pattern` holds the `length` bits in its low bits, the first bit sent highest
(R5, section 11.4); no code has length 0. -/
structure Code where
  length  : Nat
  pattern : BitVec 16
  deriving DecidableEq, Repr

/-- The definition fields of R4. -/
structure Definition where
  accessPoint  : Nat
  farNode      : Nat
  rate         : RateClass
  activate     : Code
  deactivate   : Code
  pacingClass  : Nat
  exponent     : Nat
  soakTime     : Nat
  markers      : Nat
  windowLow    : Nat
  windowHigh   : Nat
  minLevel     : Int
  segments     : List Nat
  deriving DecidableEq, Repr

/-- The grades of R86 in rank order, then the three outside the ranking. -/
inductive Grade
  | stuckLoop | noLoop | aisReceived | foreignEcho | signalDropout | routeFault | errorFault | lossFault
  | marginal | limited | pass | blocked | cancelled | released
  deriving DecidableEq, Repr

/-- The flag set of a verdict (R85). -/
structure VerdictFlags where
  markersMissed   : Bool
  berShort        : Bool
  routeShift      : Bool
  delayUnmeasured : Bool
  lossRise        : Bool
  levelRise       : Bool
  levelUnmeasured : Bool
  soakShortened   : Bool
  manual          : Bool
  deriving DecidableEq, Repr

/-- The verdict record of R88. -/
structure Verdict where
  grade           : Grade
  flags           : VerdictFlags
  campaignNumber  : Nat
  engine          : Option Nat
  loopAttempts    : Nat
  releaseAttempts : Nat
  bitsB           : Nat
  errorsE         : Nat
  payloadP        : Nat
  hitsH           : Nat
  expectedX       : Nat
  lossesK         : Nat
  delayDn         : Option Nat
  levelLm         : Option Int
  deriving DecidableEq, Repr

/-- A circuit record (R2). -/
structure Circuit where
  defState   : DefState
  status     : ProbeStatus
  definition : Definition
  baseDelay  : Option Nat
  baseLevel  : Option Int
  last       : Option Verdict
  deriving DecidableEq, Repr

/-! ## The engines (chapters 2 and 3) -/

/-- R23. -/
inductive EngineState
  | offline | idle | connecting | loopUp | retryWait | soak | loopDown | courtesyRelease | disconnecting
  | calibrating | quarantined | following
  deriving DecidableEq, Repr

/-- The kind of a probe context (R29). -/
inductive ContextKind | campaign | spot | releaseOnly | calibration
  deriving DecidableEq, Repr

/-- Outcomes the phases write into the context (R49 to R71). -/
inductive ProbeOutcome
  | blocked | stuckLoop | released | noLoop | aisReceived | signalDropout | soakShortened
  deriving DecidableEq, Repr

/-- The timing parameters copied at launch (R29). -/
structure Timing where
  confirmTime     : Nat
  loopUpTimeout   : Nat
  loopAttempts    : Nat
  retrySpacing    : Nat
  releaseHold     : Nat
  releaseCheck    : Nat
  releaseAttempts : Nat
  deriving DecidableEq, Repr

/-- The probe context of R29. `slot` is the deferred-reply slot of a COMPLETE spot probe or of a calibration
(R131), `measured` says that the engine entered SOAK (R77), `calDelay` is a calibration's converted delay (R41). -/
structure Context where
  kind            : ContextKind
  campaignNumber  : Nat
  circuit         : Option Nat
  rate            : RateClass
  accessPoint     : Option Nat
  farNode         : Option Nat
  activate        : Code
  deactivate      : Code
  soakTime        : Nat
  markers         : Nat
  timing          : Timing
  aborted         : Bool
  outcomes        : List ProbeOutcome
  loopAttempts    : Nat
  releaseAttempts : Nat
  releaseTotal    : Option Nat
  phaseTimer      : Nat
  slot            : Option Nat
  measured        : Bool
  calDelay        : Option Nat
  deriving DecidableEq, Repr

/-- The measurement record: the counters of R32 and R34, the delay of R38, the sums of R37. -/
structure Measurement where
  bitsB     : Nat
  errorsE   : Nat
  lossesK   : Nat
  hitsH     : Nat
  expectedX : Nat
  ticksT    : Option Nat
  levelS    : Int
  samplesN  : Nat
  deriving DecidableEq, Repr

/-- What the generator sends in place of a sequence bit: the bit inverted (R33), or a bit of the delay word (R38). -/
inductive Alteration
  | marker
  | word (i : Nat)
  deriving DecidableEq, Repr

/-- An altered bit that the generator has placed and the checker has not yet taken (R34, R38): the register as the bit
left, which is its place in the sequence, and how many bits of the sequence had left before it. -/
structure Placed where
  reg   : BitVec 31
  index : Nat
  what  : Alteration
  deriving DecidableEq, Repr

/-- The test sequence generator: its 31-stage register, stage k in bit k - 1 (R30), the bits of a repeating code sent
since it began (R5), the delay-word bits still to send (R38), the markers waiting for a sequence bit (R33), the bits of
the sequence sent since it was started (R30), and the altered bits on their way. -/
structure Generator where
  reg        : BitVec 31
  codePos    : Nat
  wordLeft   : Nat
  markersDue : Nat
  sent       : Nat
  placed     : List Placed
  deriving DecidableEq, Repr

/-- What a checker is armed for (R31). -/
inductive CheckerArm | unarmed | soak | release | calibration
  deriving DecidableEq, Repr

/-- The test sequence checker (R31). `gain` is a sync gain reported and not yet taken. -/
structure Checker where
  arm         : CheckerArm
  inSync      : Bool
  reg         : BitVec 31
  loaded      : Nat
  run         : Nat
  blockBits   : Nat
  blockErrors : Nat
  gain        : Bool
  deriving DecidableEq, Repr

/-- The code detector (R35): the armed code, whether the running window is a part-window, the wrong bits of the
running window for each phase, the count of consecutive matching windows. -/
structure CodeDetector where
  code  : Option Code
  part  : Bool
  wrong : List Nat
  count : Nat
  deriving DecidableEq, Repr

/-- The AIS detector (R36). -/
structure AisDetector where
  armed  : Bool
  part   : Bool
  ones   : Nat
  count  : Nat
  raised : Bool
  deriving DecidableEq, Repr

/-- The level meter (R37). `dropout` is a dropout reported. -/
structure Meter where
  armed        : Bool
  accumulating : Bool
  dark         : Nat
  dropout      : Bool
  deriving DecidableEq, Repr

/-- The delay timer's word detector: the counter's reading as the word's first bit left, while the word is searched for,
and the last 64 bits received since (R38). -/
structure WordDetector where
  search   : Option Nat
  hist     : BitVec 64
  histBits : Nat
  seen     : Bool
  deriving DecidableEq, Repr

/-- One test lane with its detectors; `winBits` counts the bits taken in the running 1 ms window. -/
structure Lane where
  gen       : Generator
  checker   : Checker
  codeDet   : CodeDetector
  ais       : AisDetector
  meter     : Meter
  wordDet   : WordDetector
  winBits   : Nat
  firstGain : Bool
  deriving DecidableEq, Repr

/-- An engine (R22). The pool table of R92 is the view of `state` and `disablePending`. `settleUntil`, `checkFrom`
and `limitUntil` are values of the time base: the end of a settle wait (R48), the start of a release check (R60),
the end of the calibration measurement limit (R40). -/
structure Engine where
  state          : EngineState
  disablePending : Bool
  localOffset    : Nat
  context        : Option Context
  meas           : Measurement
  lane           : Lane
  delayWord      : BitVec 64
  settleUntil    : Option Nat
  checkFrom      : Option Nat
  limitUntil     : Option Nat
  markersSent    : Nat
  deriving DecidableEq, Repr

/-! ## The probe arbiter's tables (chapters 5 and 7) -/

/-- R93. -/
inductive Service | inService | outOfService
  deriving DecidableEq, Repr

/-- An access point entry (R93). -/
structure Point where
  service : Service
  owner   : Option Nat
  deriving DecidableEq, Repr

/-- R98. -/
inductive NodeState | active | held
  deriving DecidableEq, Repr

/-- A node entry (R98, R135). `waitPending` is the model's own: the time base has a next-eligible time ahead whose
reaching has not been taken (log 19). -/
structure Node where
  state        : NodeState
  limit        : Nat
  occupancy    : Nat
  level        : Nat
  fails        : Nat
  successes    : Nat
  threshold    : Nat
  autoHold     : Bool
  nextEligible : Nat
  waitPending  : Bool
  deriving DecidableEq, Repr

/-! ## The campaign controller (chapter 6) -/

/-- R111. -/
inductive CampaignState | idle | running | paused | draining
  deriving DecidableEq, Repr

/-- R110. -/
inductive CampaignKind | verify | baseline
  deriving DecidableEq, Repr

/-- R127. -/
inductive EndCause | none | completed | cancelled | aborted | deadline
  deriving DecidableEq, Repr

/-- R130. -/
inductive NoticeMode | all | nonPass | change
  deriving DecidableEq, Repr

/-- The not-tested reasons of R128. -/
inductive NotTested | held | deadline | withdrawn | cancelled | blocked
  deriving DecidableEq, Repr

/-- The parameter set of R113. -/
structure Params where
  timing         : Timing
  shiftTolerance : Nat
  lossWarn       : Nat
  lossFail       : Nat
  cap            : Nat
  noticeMode     : NoticeMode
  deadline       : Nat
  deriving DecidableEq, Repr

/-- A number window, on when base is no greater than limit (R115). -/
structure Window where
  base  : Nat
  limit : Nat
  deriving DecidableEq, Repr

/-- The selection of R115. -/
structure Selection where
  windows : List Window
  spans   : List Nat
  nodes   : List Nat
  deriving DecidableEq, Repr

/-- The stored counters of R128; `grades` is indexed by rank (BLOCKED and CANCELLED last), `notTested` in the order
HELD, DEADLINE, WITHDRAWN, CANCELLED, BLOCKED. -/
structure Summary where
  selected   : Nat
  added      : Nat
  duplicates : Nat
  excluded   : Nat
  launched   : Nat
  grades     : Vector Nat 13
  notTested  : Vector Nat 5
  deriving DecidableEq, Repr

/-- The campaign record of R110. -/
structure Campaign where
  state      : CampaignState
  number     : Nat
  nextNumber : Nat
  kind       : CampaignKind
  params     : Params
  selection  : Selection
  deadline   : Option Nat
  endCause   : EndCause
  inFlight   : Nat
  summary    : Summary
  deriving DecidableEq, Repr

/-- A pacing record (R119) with its class queue (R118). -/
structure PacingClass where
  interval : Nat
  quota    : Nat
  credits  : Nat
  timer    : Nat
  queue    : List Nat
  deriving DecidableEq, Repr

/-- A spot queue entry (R131). A probe's `slot` is present in COMPLETE mode. -/
inductive SpotEntry
  | probe (circuit : Nat) (slot : Option Nat)
  | releaseOnly (circuit : Nat)
  | calibration (engine slot : Nat)
  deriving DecidableEq, Repr

/-! ## The open loop list (chapter 8) -/

/-- An open loop entry (R146). -/
structure OpenLoop where
  circuit      : Nat
  farNode      : Nat
  accessPoint  : Nat
  activate     : Code
  deactivate   : Code
  timeEntered  : Nat
  releaseTotal : Nat
  deriving DecidableEq, Repr

/-! ## The access matrix controller (chapter 9) -/

/-- R158. -/
inductive MatrixOp | connect | disconnect | loopPort | resetAll
  deriving DecidableEq, Repr

/-- R159. -/
inductive Reason | pointFault | laneFault | busy
  deriving DecidableEq, Repr

/-- R159. -/
inductive Completion
  | done
  | refused (reason : Reason)
  | timeout
  deriving DecidableEq, Repr

/-- Who issued a request (R158): an engine, a MATRIX_RESYNC with its deferred-reply slot, or a reset. -/
inductive Requester
  | engine (e : Nat)
  | resync (slot : Nat)
  | reset
  deriving DecidableEq, Repr

/-- A matrix request (R158). Bit k of a lane set is the lane of engine k. -/
structure Request where
  op        : MatrixOp
  point     : Option Nat
  lanes     : Option (BitVec 16)
  requester : Requester
  deriving DecidableEq, Repr

/-- The current request (R157, R159): its number, the timeout it was sent with, and its time sent once its last byte
has left (R183). -/
structure CurrentRequest where
  request : Request
  seq     : Nat
  timeout : Nat
  sentAt  : Option Nat
  deriving DecidableEq, Repr

/-- R161. -/
inductive LinkState | unsynced | synced
  deriving DecidableEq, Repr

/-- The controller's state (R157). `rx` holds the bytes of the answer frame begun, empty while hunting (R183). -/
structure Amc where
  fifo        : List Request
  current     : Option CurrentRequest
  nextSeq     : Nat
  link        : LinkState
  timeout     : Nat
  settle      : Nat
  lateAnswers : Nat
  rx          : List Byte
  rxAt        : Nat
  deriving DecidableEq, Repr

/-! ## The management link interface (chapter 10) -/

/-- R167. -/
inductive LineRate | baud115200 | baud460800 | baud921600 | baud3000000
  deriving DecidableEq, Repr

/-- The receiver of R168 with the bytes it has taken. In BODY and CHECK `len` is the stated total. -/
inductive Receiver
  | hunt
  | length (got : List Byte)
  | body (len : Nat) (got : List Byte)
  | check (len : Nat) (body got : List Byte)
  deriving DecidableEq, Repr

/-- An arrived frame (R168). The status and flag bytes of a command are spare (R180) and are not kept. -/
structure Frame where
  kind    : Byte
  code    : Byte
  tag     : Tag
  payload : List Byte
  deriving DecidableEq, Repr

/-- The record kinds the part sends (R168). -/
inductive TxKind | reply | notice
  deriving DecidableEq, Repr

/-- The statuses of R171. -/
inductive Status
  | ok | badCode | badLength | badField | campaignBusy | noCampaign | circuitBusy | notDefined | queueFull
  | nodeHeld | pointOut | notOpen | enginesActive | noEngines | calFailed | matrixUnsynced
  deriving DecidableEq, Repr

/-- A record of the transmit queue (R174); `slot` names the deferred-reply slot that its sending frees (R173). -/
structure TxRecord where
  kind      : TxKind
  code      : Byte
  tag       : Tag
  status    : Status
  clamped   : Bool
  abandoned : Bool
  payload   : List Byte
  slot      : Option Nat
  deriving DecidableEq, Repr

/-- What a deferred reply waits on (R173). -/
inductive DeferredOp
  | spotProbe (circuit : Nat)
  | calibration (engine : Nat)
  | resync
  deriving DecidableEq, Repr

/-- A held deferred-reply slot (R173): `order` is the order of acceptance, `placed` says that its reply stands in the
transmit queue. -/
structure DeferredSlot where
  code   : Byte
  tag    : Tag
  op     : DeferredOp
  order  : Nat
  placed : Bool
  deriving DecidableEq, Repr

/-- R178. -/
inductive ResetKind | cold | warm
  deriving DecidableEq, Repr

/-- Start-up (R178): `link` is the link state once the reset's RESET_ALL has completed. -/
structure Startup where
  kind  : ResetKind
  loops : Nat
  link  : Option LinkState
  deriving DecidableEq, Repr

/-- The MLI's state (R168 to R179). -/
structure Mli where
  receiver    : Receiver
  rxAt        : Nat
  rxBuffer    : List Frame
  tx          : List TxRecord
  slots       : Vector (Option DeferredSlot) 8
  nextOrder   : Nat
  frameErrors : Nat
  overruns    : Nat
  dropped     : Nat
  startup     : Option Startup
  deriving DecidableEq, Repr

/-! ## The whole part -/

/-- The state of the part, and the queue of steps that wait, first in, first out. `laneTime` is the moment at which the
sixteen lanes stand, in bit periods since the last tick (log 6). -/
structure State where
  pending      : List Instr
  now          : Nat
  freeCounter  : Nat
  laneTime     : Nat
  strapA       : Bool
  strapB       : Bool
  lineRate     : LineRate
  circuits     : Vector Circuit 2048
  engines      : Vector Engine 16
  priorityTurn : Nat
  standardTurn : Nat
  points       : Vector Point 256
  nodes        : Vector Node 64
  runDue       : Bool
  campaign     : Campaign
  classes      : Vector PacingClass 4
  spot         : List SpotEntry
  openLoops    : List OpenLoop
  amc          : Amc
  mli          : Mli
  launches     : Nat
  deriving DecidableEq, Repr

/-- The part never stops with a fault: the spec describes none. -/
inductive Fault
  deriving DecidableEq, Repr

/-- Why a step has no meaning in the model. -/
inductive Refusal
  /-- Raised by `exec`'s arm of a row that has no meaning yet; safe, since no claim follows. No arm raises it now. -/
  | notModelled (mnemonic : String)
  deriving DecidableEq, Repr

/-- The answer of a step. -/
abbrev Result := Host.Outcome State Fault Refusal

/-! ## Values after cold reset -/

def Code.none : Code := ⟨0, 0⟩

/-- The VACANT values of R4. -/
def Definition.vacant : Definition :=
  ⟨0, 0, .base, Code.none, Code.none, 0, 9, 10, 0, 1, 0, -400, []⟩

/-- R2. -/
def Circuit.vacant : Circuit := ⟨.vacant, .idle, Definition.vacant, none, none, none⟩

/-- All counters and sums zero, the delay unmeasured (R22). -/
def Measurement.zero : Measurement := ⟨0, 0, 0, 0, 0, none, 0, 0⟩

/-- The generator starts the test sequence from the all-ones register (R30); the same value stands before (log 13). -/
def Generator.start : Generator := ⟨BitVec.allOnes 31, 0, 0, 0, 0, []⟩

/-- An unarmed checker is hunting and reports nothing (R31). -/
def Checker.unarmed : Checker := ⟨.unarmed, false, 0, 0, 0, 0, 0, false⟩

def CodeDetector.unarmed : CodeDetector := ⟨none, false, [], 0⟩

def AisDetector.unarmed : AisDetector := ⟨false, false, 0, 0, false⟩

def Meter.unarmed : Meter := ⟨false, false, 0, false⟩

def WordDetector.off : WordDetector := ⟨none, 0, 0, false⟩

/-- A lane before its first use (log 13). -/
def Lane.quiet : Lane :=
  ⟨Generator.start, Checker.unarmed, CodeDetector.unarmed, AisDetector.unarmed, Meter.unarmed, WordDetector.off, 0, false⟩

/-- R22. -/
def Engine.reset : Engine :=
  ⟨.idle, false, 0, none, Measurement.zero, Lane.quiet, 0, none, none, none, 0⟩

/-- R93. -/
def Point.reset : Point := ⟨.inService, none⟩

/-- R98, R145. -/
def Node.reset : Node := ⟨.active, 2, 0, 0, 0, 0, 4, false, 0, false⟩

/-- The defaults of R113. -/
def Params.default : Params := ⟨⟨500, 3000, 3, 1000, 1000, 200, 5⟩, 20, 15, 30, 0, .nonPass, 0⟩

/-- All windows off and both lists empty (R110). -/
def Selection.reset : Selection := ⟨List.replicate 4 ⟨1, 0⟩, [], []⟩

/-- R128: zeros. -/
def Summary.zero : Summary := ⟨0, 0, 0, 0, 0, Vector.replicate 13 0, Vector.replicate 5 0⟩

/-- R110. -/
def Campaign.reset : Campaign :=
  ⟨.idle, 0, 1, .verify, Params.default, Selection.reset, none, .none, 0, Summary.zero⟩

/-- The defaults of R119. -/
def PacingClass.resets : Vector PacingClass 4 :=
  #v[⟨250, 8, 0, 0, []⟩, ⟨500, 4, 0, 0, []⟩, ⟨1000, 4, 0, 0, []⟩, ⟨2000, 2, 0, 0, []⟩]

/-- The RESET_ALL that a reset issues (R166). -/
def Request.ofReset : Request := ⟨.resetAll, none, none, .reset⟩

/-- R157 and R166: the reset's RESET_ALL is current with number 0, and the link is UNSYNCED. -/
def Amc.reset : Amc :=
  ⟨[], some ⟨Request.ofReset, 0, 2000, none⟩, 1, .unsynced, 2000, 50, 0, [], 0⟩

/-- R168, R170, R173, R174, R178, R179. -/
def Mli.reset : Mli :=
  ⟨.hunt, 0, [], [], Vector.replicate 8 none, 0, 0, 0, 0, some ⟨.cold, 0, none⟩⟩

/-- The rates of R167. -/
def LineRate.ofStraps : Bool → Bool → LineRate
  | false, false => .baud115200
  | true, false => .baud460800
  | false, true => .baud921600
  | true, true => .baud3000000

/-- The part right after a cold reset that read these straps. -/
def State.cold (strapA strapB : Bool) : State where
  pending := []
  now := 0
  freeCounter := 0
  laneTime := 0
  strapA := strapA
  strapB := strapB
  lineRate := LineRate.ofStraps strapA strapB
  circuits := Vector.replicate 2048 Circuit.vacant
  engines := Vector.replicate 16 Engine.reset
  priorityTurn := 1
  standardTurn := 3
  points := Vector.replicate 256 Point.reset
  nodes := Vector.replicate 64 Node.reset
  runDue := false
  campaign := Campaign.reset
  classes := PacingClass.resets
  spot := []
  openLoops := []
  amc := Amc.reset
  mli := Mli.reset
  launches := 0

/-- The machine right after reset, with both straps low (log 12). -/
def State.reset : State := State.cold false false

end Sys2Proof.Machine
end

