-- ==== Sys2Proof/Machine/Ops.lean ====
section
/-! DEFINITION. The named operations over the tables and queues: reading and writing an entry, placing and offering
records, the deferred-reply table, the class queues and the campaign's counters. -/

namespace Sys2Proof.Machine

/-! ## Table entries (reads outside a table: log 29) -/

def State.circuit (s : State) (c : Nat) : Circuit := (s.circuits[c]?).getD Circuit.vacant

def State.setCircuit (s : State) (c : Nat) (r : Circuit) : State :=
  { s with circuits := s.circuits.setIfInBounds c r }

def State.engine (s : State) (e : Nat) : Engine := (s.engines[e]?).getD Engine.reset

def State.setEngine (s : State) (e : Nat) (g : Engine) : State :=
  { s with engines := s.engines.setIfInBounds e g }

def State.point (s : State) (p : Nat) : Point := (s.points[p]?).getD Point.reset

def State.setPoint (s : State) (p : Nat) (x : Point) : State :=
  { s with points := s.points.setIfInBounds p x }

def State.node (s : State) (n : Nat) : Node := (s.nodes[n]?).getD Node.reset

def State.setNode (s : State) (n : Nat) (x : Node) : State :=
  { s with nodes := s.nodes.setIfInBounds n x }

def State.cls (s : State) (k : Nat) : PacingClass := (s.classes[k]?).getD ⟨1, 1, 0, 0, []⟩

def State.setCls (s : State) (k : Nat) (x : PacingClass) : State :=
  { s with classes := s.classes.setIfInBounds k x }

def State.setStatus (s : State) (c : Nat) (st : ProbeStatus) : State :=
  s.setCircuit c { s.circuit c with status := st }

/-- An arbiter run starts (R104); it is taken by ARBITER_RUN (log 20). -/
def State.startRun (s : State) : State := { s with runDue := true }

def State.startRunIf (s : State) (b : Bool) : State := if b then s.startRun else s

/-- A count that holds at its limit. -/
def satAdd (limit n k : Nat) : Nat := min (n + k) limit

/-- The bound of the link counters (R179). -/
def linkCountMax : Nat := 65535

/-- The bound of a summary counter (R128). -/
def summaryMax : Nat := 4294967295

/-! ## The transmit queue (R174) -/

/-- A record joins the tail of the transmit queue. -/
def State.place (s : State) (r : TxRecord) : State :=
  { s with mli := { s.mli with tx := s.mli.tx ++ [r] } }

/-- A notice: tag 0, status OK, no flag (chapter 10, Notices). -/
def noticeRecord (code : Byte) (payload : List Byte) : TxRecord :=
  ⟨.notice, code, 0, .ok, false, false, payload, none⟩

/-- An offered notice is placed while the queue holds fewer than 48 records, else dropped and counted (R174). -/
def State.offer (s : State) (code : Byte) (payload : List Byte) : State :=
  if s.mli.tx.length < 48 then s.place (noticeRecord code payload)
  else { s with mli := { s.mli with dropped := satAdd linkCountMax s.mli.dropped 1 } }

/-- The code and tag that a reply echoes (R171). -/
structure Cmd where
  code : Byte
  tag  : Tag
  deriving DecidableEq, Repr

/-- An immediate reply (R171); `clamped` is the CLAMPED flag (R172). -/
def State.reply (s : State) (c : Cmd) (st : Status) (payload : List Byte) (clamped : Bool) : State :=
  s.place ⟨.reply, c.code, c.tag, st, clamped, false, payload, none⟩

/-- A refusal whose reply carries no payload (R182). -/
def State.refuse (s : State) (c : Cmd) (st : Status) : State := s.reply c st [] false

/-! ## The deferred-reply table (R173) -/

def State.slot (s : State) (i : Nat) : Option DeferredSlot := (s.mli.slots[i]?).getD none

def State.setSlot (s : State) (i : Nat) (x : Option DeferredSlot) : State :=
  { s with mli := { s.mli with slots := s.mli.slots.setIfInBounds i x } }

/-- The place of the first free slot of a list whose first place is `i`. -/
def firstFree (i : Nat) : List (Option DeferredSlot) → Option Nat
  | [] => none
  | none :: _ => some i
  | some _ :: rest => firstFree (i + 1) rest

/-- The slot a deferrable command takes: the lowest free one (log 14). -/
def State.freeSlot (s : State) : Option Nat := firstFree 0 s.mli.slots.toList

/-- The slots held, whether or not their reply is placed (R175). -/
def State.slotsHeld (s : State) : Nat := s.mli.slots.toList.countP Option.isSome

/-- A slot is taken within the event that accepts the command (R173). -/
def State.takeSlot (s : State) (i : Nat) (c : Cmd) (op : DeferredOp) : State :=
  let t := s.setSlot i (some ⟨c.code, c.tag, op, s.mli.nextOrder, false⟩)
  { t with mli := { t.mli with nextOrder := t.mli.nextOrder + 1 } }

/-- The deferred reply of a held slot is composed with its command's code and tag and placed, whatever the queue's
fill; no slot is answered twice (R173). -/
def State.answer (s : State) (i : Nat) (st : Status) (abandoned : Bool) (payload : List Byte) : State :=
  match s.slot i with
  | some d =>
    if d.placed then s
    else (s.place ⟨.reply, d.code, d.tag, st, false, abandoned, payload, some i⟩).setSlot i (some { d with placed := true })
  | none => s

/-! ## Access points and nodes -/

/-- The lock of a point is cleared; a cleared lock starts a run (R94). -/
def State.unlock (s : State) (p : Nat) : State :=
  (s.setPoint p { s.point p with owner := none }).startRun

/-- A node slot is returned; a fall in occupancy starts a run (R99). -/
def State.returnSlot (s : State) (n : Nat) : State :=
  (s.setNode n { s.node n with occupancy := (s.node n).occupancy - 1 }).startRun

/-- The open loop entries at a node (R101). -/
def State.openLoopsAt (s : State) (n : Nat) : Nat := s.openLoops.countP (fun o => o.farNode == n)

def State.openLoopOf (s : State) (c : Nat) : Option OpenLoop := s.openLoops.find? (fun o => o.circuit == c)

/-- A release-only entry for the circuit waits in the spot queue (R150). -/
def State.retryWaits (s : State) (c : Nat) : Bool := s.spot.contains (SpotEntry.releaseOnly c)

/-! ## Engines -/

/-- The active states of R23. -/
def EngineState.active : EngineState → Bool
  | .connecting | .loopUp | .retryWait | .soak | .loopDown | .courtesyRelease | .disconnecting | .calibrating
  | .following => true
  | .offline | .idle | .quarantined => false

/-- The states in which a probe's verdict is still to be written (R46, R99). -/
def EngineState.inFlight : EngineState → Bool
  | .connecting | .loopUp | .retryWait | .soak | .loopDown | .courtesyRelease => true
  | .offline | .idle | .disconnecting | .calibrating | .quarantined | .following => false

/-- The count of probes in flight (R46). -/
def State.probesInFlight (s : State) : Nat := s.engines.toList.countP (fun g => g.state.inFlight)

def State.anyActive (s : State) : Bool := s.engines.toList.any (fun g => g.state.active)

def State.quarantinedCount (s : State) : Nat := s.engines.toList.countP (fun g => g.state == .quarantined)

/-- The other member of the bonded pair (R25). -/
def partner (e : Nat) : Nat := if e % 2 = 0 then e + 1 else e - 1

def Engine.kind? (g : Engine) : Option ContextKind := g.context.map Context.kind

def Engine.wide (g : Engine) : Bool :=
  match g.context with
  | some x => x.rate == .wide
  | none => false

def Engine.modContext (g : Engine) (f : Context → Context) : Engine := { g with context := g.context.map f }

/-- The detectors of a lane are disarmed, its checker with them; the generator is not touched (R57, R65). -/
def Lane.disarmed (l : Lane) : Lane :=
  { l with checker := Checker.unarmed, codeDet := CodeDetector.unarmed, ais := AisDetector.unarmed,
           meter := Meter.unarmed, wordDet := WordDetector.off }

/-- An engine that leaves a probe or calibration drops its context (R65, R66); the measurement record stays. -/
def Engine.resting (g : Engine) (st : EngineState) : Engine :=
  { g with state := st, context := none, lane := g.lane.disarmed, settleUntil := none, checkFrom := none, limitUntil := none }

def State.modEngine (s : State) (e : Nat) (f : Engine → Engine) : State := s.setEngine e (f (s.engine e))

/-- What is done on the lane of a lead is done on its follower's lane too (R25). -/
def State.onLanes (s : State) (e : Nat) (f : Engine → Engine) : State :=
  if (s.engine e).wide then (s.modEngine e f).modEngine (e + 1) f else s.modEngine e f

/-- The lane set of a probe (R45): bit k stands for the lane of engine k (section 11.3). -/
def laneSet (e : Nat) (wide : Bool) : BitVec 16 :=
  let own : BitVec 16 := 1#16 <<< e
  if wide then own ||| (1#16 <<< (e + 1)) else own

/-! ## The campaign's counters and queues -/

def State.modCampaign (s : State) (f : Campaign → Campaign) : State := { s with campaign := f s.campaign }

def NotTested.index : NotTested → Nat
  | .held => 0
  | .deadline => 1
  | .withdrawn => 2
  | .cancelled => 3
  | .blocked => 4

/-- The place of a grade's counter: rank order, then BLOCKED and CANCELLED (R128, section 11.4). -/
def Grade.counter : Grade → Nat
  | .stuckLoop => 0
  | .noLoop => 1
  | .aisReceived => 2
  | .foreignEcho => 3
  | .signalDropout => 4
  | .routeFault => 5
  | .errorFault => 6
  | .lossFault => 7
  | .marginal => 8
  | .limited => 9
  | .pass => 10
  | .blocked => 11
  | .cancelled => 12
  | .released => 13

def bump {n : Nat} (v : Vector Nat n) (i : Nat) : Vector Nat n :=
  v.setIfInBounds i (satAdd summaryMax ((v[i]?).getD 0) 1)

def Summary.countNotTested (m : Summary) (r : NotTested) : Summary := { m with notTested := bump m.notTested r.index }

def Summary.countGrade (m : Summary) (g : Grade) : Summary := { m with grades := bump m.grades g.counter }

def State.modSummary (s : State) (f : Summary → Summary) : State :=
  s.modCampaign (fun k => { k with summary := f k.summary })

/-- The live count of queued entries (R128). -/
def State.queuedCount (s : State) : Nat := (s.classes.toList.map (fun k => k.queue.length)).sum

def State.queuesEmpty (s : State) : Bool := s.classes.toList.all (fun k => k.queue.isEmpty)

/-- The entries of the four class queues, from class 0 to class 3, head to tail (R124, R140). -/
def State.queuedCircuits (s : State) : List Nat := s.classes.toList.flatMap PacingClass.queue

/-- The circuit's entry leaves whichever class queue holds it; the others keep their order (R118). -/
def State.dequeue (s : State) (c : Nat) : State :=
  { s with classes := s.classes.map (fun k => { k with queue := k.queue.filter (fun x => x != c) }) }

/-- The circuit joins the tail of a class queue (R118). -/
def State.enqueue (s : State) (k c : Nat) : State :=
  s.setCls k { s.cls k with queue := (s.cls k).queue ++ [c] }

/-- On entry to DRAINING, at the end and at a reset every class's credits and timer become 0 (R119). -/
def State.zeroCredits (s : State) : State :=
  { s with classes := s.classes.map (fun k => { k with credits := 0, timer := 0 }) }

/-- An entry leaves its class queue other than by launch: its circuit becomes IDLE, the summary counts the reason, a
run starts (R118). -/
def State.removeQueued (s : State) (r : NotTested) (c : Nat) : State :=
  (((s.dequeue c).setStatus c .idle).modSummary (fun m => m.countNotTested r)).startRun

/-! ## The spot queue (R131) -/

/-- An entry joins at the tail and starts a run. -/
def State.joinSpot (s : State) (x : SpotEntry) : State := ({ s with spot := s.spot ++ [x] }).startRun

/-- An entry leaves the spot queue, the others keeping their order. -/
def State.leaveSpot (s : State) (x : SpotEntry) : State := { s with spot := s.spot.erase x }

/-! ## Nodes: HELD circuits -/

def State.heldNode (s : State) (n : Nat) : Bool := (s.node n).state == .held

/-- The far node a circuit record names (R4). -/
def State.farNodeOf (s : State) (c : Nat) : Nat := (s.circuit c).definition.farNode

/-- A command is taken from the head of the receive buffer only when the part has placed READY since its last reset,
the transmit queue holds fewer than 56 records, and the head is this frame (R171, log 4). -/
def State.takeFrame (s : State) (f : Frame) : Option State :=
  if s.mli.startup = none ∧ s.mli.tx.length < 56 ∧ s.mli.rxBuffer.head? = some f then
    some { s with mli := { s.mli with rxBuffer := s.mli.rxBuffer.tail } }
  else none

/-- The record kind COMMAND (section 11.3). -/
def kindCommand : Byte := 0x01

/-- A command of the host is handled whole as one event (R171); a step that cannot be taken changes nothing (log 2). -/
def hostCommand (code : Byte) (tag : Tag) (payload : List Byte) (s : State) (body : Cmd → State → State) : Result :=
  match s.takeFrame ⟨kindCommand, code, tag, payload⟩ with
  | some t => .next (body ⟨code, tag⟩ t)
  | none => .next s

/-- A command with a fixed layout must carry exactly that many bytes (R181). -/
def fixedLength (n : Nat) (payload : List Byte) (c : Cmd) (body : State → State) (s : State) : State :=
  if payload.length = n then body s else s.refuse c .badLength

/-- An event of the part or its pins; where its condition does not hold it does not happen (log 2). -/
def event (b : Bool) (s : State) (f : State → State) : Result := .next (if b then f s else s)

end Sys2Proof.Machine
end

