-- ==== Sys2Proof/Machine/Lanes.lean ====
section
/-! DEFINITION. What an engine does on its lane, bit by bit and window by window: the test sequence generator (R30, R33),
the checker (R31, R32, R34), the code and AIS detectors (R35, R36), the level meter (R37), the delay word (R38). -/

namespace Sys2Proof.Machine

/-! ## The generator -/

/-- Bit `k` of a code, counted from the first bit sent (R5, section 11.4). -/
def Code.bit (c : Code) (k : Nat) : Bool := c.pattern.getLsbD (c.length - 1 - k)

/-- A 31-stage register moved on by one, the new bit in its first stage. -/
def shiftIn (r : BitVec 31) (b : Bool) : BitVec 31 := (r.setWidth 30).concat b

/-- Feedback from the 31st and 28th stages (R30). -/
def feedback (r : BitVec 31) : Bool := r.getLsbD 30 ^^ r.getLsbD 27

/-- The four sources of R30; the activate and the deactivate code are both codes. -/
inductive Source
  | dark
  | code (c : Code)
  | test
  deriving DecidableEq, Repr

/-- Bit `i` of the delay word, its first bit the most significant (log 30). -/
def wordBit (w : BitVec 64) (i : Nat) : Bool := w.getMsbD i

/-- The register moved on by one bit of the sequence (R30). -/
def sequenceNext (r : BitVec 31) : BitVec 31 := shiftIn r (feedback r)

/-- The bit a lane sends, none on a dark one. The test sequence sends the register's last stage, or a bit of the delay
word in its place (R38), or the stage inverted at a marker; a marker that falls in the word waits for the first sequence
bit behind it (R33). -/
def Generator.output (src : Source) (w : BitVec 64) (g : Generator) : Option Bool :=
  match src with
  | .dark => none
  | .code c => some (c.bit (g.codePos % c.length))
  | .test =>
    some (if 0 < g.wordLeft then wordBit w (64 - g.wordLeft)
      else if 0 < g.markersDue then !g.reg.getLsbD 30
      else g.reg.getLsbD 30)

/-- The alteration of the bit that leaves next joins those on their way. -/
def Generator.place (g : Generator) (what : Alteration) : Generator :=
  { g with placed := g.placed ++ [⟨g.reg, g.sent, what⟩] }

/-- A bit of the test sequence has left. -/
def Generator.next (g : Generator) : Generator :=
  let h :=
    if 0 < g.wordLeft then { g.place (.word (64 - g.wordLeft)) with wordLeft := g.wordLeft - 1 }
    else if 0 < g.markersDue then { g.place .marker with markersDue := g.markersDue - 1 }
    else g
  { h with reg := sequenceNext g.reg, sent := g.sent + 1 }

/-- `n` bit periods of a lane (R30); nothing moves on a dark one. -/
def Generator.run : Source → Nat → Generator → Generator
  | .dark, _, g => g
  | .code _, n, g => { g with codePos := g.codePos + n }
  | .test, n, g => Generator.next^[n] g

/-- The lane turns to the test sequence: it starts from the all-ones register (R30). -/
def Lane.turnToTest (l : Lane) : Lane := { l with gen := Generator.start }

/-- The lane turns to a code, sent from its first bit (R5, R51). -/
def Lane.turnToCode (l : Lane) : Lane :=
  { l with gen := { l.gen with codePos := 0, wordLeft := 0, markersDue := 0, placed := [] } }

/-! ## Arming -/

def Lane.armChecker (l : Lane) (a : CheckerArm) : Lane :=
  { l with checker := { Checker.unarmed with arm := a }, firstGain := false }

/-- The running window is a part-window for what is armed now: the lanes stand behind its tick, or bits of it have been
taken (R35). -/
def Lane.inWindow (l : Lane) (time : Nat) : Bool := 0 < time || 0 < l.winBits

/-- The first window judged is the first full one that begins at or after the arming (R35); `time` is `laneTime`. -/
def Lane.armCode (l : Lane) (c : Code) (time : Nat) : Lane :=
  { l with codeDet := ⟨some c, l.inWindow time, List.replicate c.length 0, 0⟩ }

/-- The same windows as the code detector's (R36). -/
def Lane.armAis (l : Lane) (time : Nat) : Lane := { l with ais := ⟨true, l.inWindow time, 0, 0, false⟩ }

def Lane.armMeter (l : Lane) : Lane := { l with meter := ⟨true, false, 0, false⟩ }

/-! ## Receiving one bit -/

/-- Hunting (R31). The checker loads 31 bits, then predicts; an all-zero register, which the test sequence never has,
predicts nothing (log 9). -/
def Checker.hunt (k : Checker) (v : Bool) : Checker :=
  let reg := shiftIn k.reg v
  if k.loaded < 31 then { k with reg := reg, loaded := k.loaded + 1, run := 0 }
  else
    let run := if v = feedback k.reg ∧ k.reg ≠ 0 then k.run + 1 else 0
    if run = 1024 then { k with reg := reg, run := run, inSync := true, blockBits := 0, blockErrors := 0, gain := true }
    else { k with reg := reg, run := run }

/-- The bits of the test sequence before it repeats, 2^31 - 1 (R30). -/
def sequencePeriod : Nat := 2147483647

/-- The place in the sequence of the bit that a checker in sync takes next. Its register holds the 31 bits before that
one, so it stands 31 bits behind the register with which the generator sent the bit (R30, R31). -/
def Checker.nextPlace (k : Checker) : BitVec 31 := sequenceNext^[31] k.reg

/-- What the lane's own generator placed where the checker takes its next bit (R34, R38). A place recurs after a period;
the last one sent is the one that arrives (log 5). -/
def Lane.arriving (l : Lane) : Option Placed :=
  l.gen.placed.find? (fun p => decide (l.gen.sent < p.index + sequencePeriod) && p.reg == l.checker.nextPlace)

/-- The bit the checker in sync expects: its own next bit, or the delay word's (R31, R38). -/
def Checker.expects (k : Checker) (w : BitVec 64) : Option Alteration → Bool
  | some (.word i) => wordBit w i
  | some .marker => feedback k.reg
  | none => feedback k.reg

/-- The block holds 128 or more errors in its 1,024 bits (R31). -/
def Checker.blockLost (bits errors : Nat) : Bool := bits == 1024 && 128 ≤ errors

/-- In sync (R31): the register runs on its own; a bad block ends sync and hunting starts anew (log 10). -/
def Checker.check (k : Checker) (err : Bool) : Checker :=
  let bits := k.blockBits + 1
  let errors := k.blockErrors + (if err then 1 else 0)
  let reg := shiftIn k.reg (feedback k.reg)
  if Checker.blockLost bits errors then { k with reg := 0, inSync := false, loaded := 0, run := 0, blockBits := 0, blockErrors := 0 }
  else if bits = 1024 then { k with reg := reg, blockBits := 0, blockErrors := 0 }
  else { k with reg := reg, blockBits := bits, blockErrors := errors }

def bitsMax : Nat := 281474976710655
def errorsMax : Nat := 4294967295
def lossesMax : Nat := 255

def oneIf (b : Bool) : Nat := if b then 1 else 0

/-- A checked bit of a soak is counted (R32), a marker position with it (R34), the end of sync last. -/
def Measurement.count (m : Measurement) (isMarker err lost : Bool) : Measurement :=
  { m with bitsB := satAdd bitsMax m.bitsB 1
           errorsE := satAdd errorsMax m.errorsE (oneIf err)
           expectedX := m.expectedX + oneIf isMarker
           hitsH := m.hitsH + oneIf (isMarker && err)
           lossesK := satAdd lossesMax m.lossesK (oneIf lost) }

/-- The altered bit that has arrived is on its way no more. -/
def Generator.taken (g : Generator) : Option Placed → Generator
  | some p => { g with placed := g.placed.erase p }
  | none => g

/-- A checker in sync takes a bit; only one armed for soak counts (R31). -/
def Engine.checkInSync (g : Engine) (v : Bool) : Engine :=
  let k := g.lane.checker
  let arrived := g.lane.arriving
  let what := arrived.map Placed.what
  let err := v != k.expects g.delayWord what
  let lost := Checker.blockLost (k.blockBits + 1) (k.blockErrors + oneIf err)
  { g with lane := { g.lane with checker := k.check err, gen := g.lane.gen.taken arrived }
           meas := if k.arm = .soak then g.meas.count (what == some .marker) err lost else g.meas }

/-- The checker takes a bit (R31). -/
def Engine.checkBit (g : Engine) (v : Bool) : Engine :=
  if g.lane.checker.arm = .unarmed then g
  else if g.lane.checker.inSync then g.checkInSync v
  else { g with lane := { g.lane with checker := g.lane.checker.hunt v } }

/-- The word detector watches for the exact 64 bits while the delay word is searched for (R38). -/
def WordDetector.take (d : WordDetector) (w : BitVec 64) (v : Bool) : WordDetector :=
  match d.search with
  | none => d
  | some _ =>
    let hist := (d.hist.setWidth 63).concat v
    let n := min (d.histBits + 1) 64
    { d with hist := hist, histBits := n, seen := d.seen || (n == 64 && hist == w) }

/-- The wrong-bit counts of the phases of a code, for the window's bit number `k` (R35). -/
def countWrong (c : Code) (k : Nat) (v : Bool) (wrong : List Nat) : List Nat :=
  wrong.mapIdx (fun phase n => if v = c.bit ((phase + k) % c.length) then n else n + 1)

/-- The window's detectors take a bit. -/
def Lane.windowBit (l : Lane) (v : Bool) : Lane :=
  { l with
    codeDet := match l.codeDet.code with
      | some c => { l.codeDet with wrong := countWrong c l.winBits v l.codeDet.wrong }
      | none => l.codeDet
    ais := if l.ais.armed then { l.ais with ones := l.ais.ones + oneIf v } else l.ais
    winBits := l.winBits + 1 }

/-- One received bit on an engine's lane. -/
def Engine.takeBit (g : Engine) (v : Bool) : Engine :=
  let h := g.checkBit v
  { h with lane := { h.lane.windowBit v with wordDet := h.lane.wordDet.take h.delayWord v } }

/-- The bits received on an engine's lane, in order (log 6). -/
def Engine.receive (g : Engine) (rx : List Bool) : Engine := rx.foldl Engine.takeBit g

/-! ## The end of a window and the level sample (R35, R36, R37) -/

/-- The fewest wrong bits over the phases. -/
def fewest : List Nat → Nat
  | [] => 0
  | [n] => n
  | n :: m :: rest => min n (fewest (m :: rest))

/-- No more than floor(b / 64) bits wrong in the best phase; a window without light has no bits (R35). -/
def CodeDetector.windowMatches (d : CodeDetector) (b : Nat) : Bool := 0 < b && fewest d.wrong ≤ b / 64

def CodeDetector.judge (d : CodeDetector) (b : Nat) : CodeDetector :=
  match d.code with
  | none => d
  | some c =>
    { code := some c, part := false, wrong := List.replicate c.length 0
      count := if d.part then d.count else if d.windowMatches b then d.count + 1 else 0 }

/-- At least 999 of every 1,000 bits are ones (R36). -/
def AisDetector.windowIsAis (d : AisDetector) (b : Nat) : Bool := 0 < b && 999 * b ≤ 1000 * d.ones

def AisDetector.judge (d : AisDetector) (b : Nat) : AisDetector :=
  if d.armed then
    let count := if d.part then d.count else if d.windowIsAis b then d.count + 1 else 0
    { armed := true, part := false, ones := 0, count := count, raised := d.raised || decide (10 ≤ count) }
  else d

/-- The detectors judge the window that the tick ends, and a new window begins. -/
def Lane.judgeWindow (l : Lane) : Lane :=
  { l with codeDet := l.codeDet.judge l.winBits, ais := l.ais.judge l.winBits, winBits := 0 }

/-- A sample below -400 reads -400 and is dark; one above +50 reads +50 (R37). -/
def readLevel (level : Int) : Int := max (-400) (min level 50)

def Meter.sample (m : Meter) (level : Int) : Meter :=
  let dark := if level < -400 then m.dark + 1 else 0
  { m with dark := dark, dropout := m.dropout || decide (10 ≤ dark) }

/-- The armed meter takes its sample at the tick, and accumulates it from the first tick after the first sync gain
(R37). -/
def Engine.sampleLevel (g : Engine) (level : Int) : Engine :=
  if g.lane.meter.armed then
    { g with lane := { g.lane with meter := g.lane.meter.sample level }
             meas := if g.lane.meter.accumulating then
               { g.meas with levelS := g.meas.levelS + readLevel level, samplesN := g.meas.samplesN + 1 }
             else g.meas }
  else g

/-! ## The source of a lane (R23, R25, R30) -/

/-- The source an engine that leads or runs alone sends from, by the lane output column of R23. -/
def Engine.source (g : Engine) : Source :=
  match g.state, g.context with
  | .loopUp, some x => .code x.activate
  | .retryWait, _ => .test
  | .soak, _ => .test
  | .loopDown, some x => if g.checkFrom.isSome then .test else .code x.deactivate
  | .courtesyRelease, some x => .code x.deactivate
  | .calibrating, _ => if g.lane.checker.arm = .calibration then .test else .dark
  | _, _ => .dark

/-- A follower's lane mirrors its lead's source (R25). -/
def State.laneSource (s : State) (e : Nat) : Source :=
  if (s.engine e).state = .following then (s.engine (partner e)).source else (s.engine e).source

/-- The lead of an engine: its even partner while it is FOLLOWING (R25). -/
def State.leadOf (s : State) (e : Nat) : Nat := if (s.engine e).state = .following then partner e else e

/-- `n` bit periods of an engine's lane, `src` being what it sends. -/
def Engine.sends (g : Engine) (src : Source) (n : Nat) : Engine :=
  { g with lane := { g.lane with gen := g.lane.gen.run src n } }

/-- All sixteen lanes send on to one moment of the running ms (R30, log 6). -/
def State.moveTo (s : State) (moment : Nat) : State :=
  { s with
    laneTime := moment
    engines := Vector.ofFn (fun i : Fin 16 => (s.engine i.val).sends (s.laneSource i.val) (moment - s.laneTime)) }

/-- A moment of the running ms at which the lanes stand or that is still to come. -/
def State.ahead (s : State) (moment : Nat) : Bool := s.laneTime ≤ moment && moment < Config.windowBits

/-- The 125 MHz counter at the moment at which the lanes stand (R38, log 8). -/
def State.counterNow (s : State) : Nat := s.freeCounter + s.laneTime / Config.bitsPerCount

/-- The phase timer counts in ms (R45). -/
def Engine.tickTimer (g : Engine) : Engine := g.modContext (fun x => { x with phaseTimer := x.phaseTimer + 1 })

/-- What a tick does to one engine: its lane sends the `rest` of the ms, the bits of the window are taken, the window is
judged, the level sampled. -/
def Engine.tick (g : Engine) (src : Source) (rest : Nat) (inp : LaneInput) : Engine :=
  let h := (g.sends src rest).receive inp.rx
  (({ h with lane := h.lane.judgeWindow }).sampleLevel inp.level).tickTimer

end Sys2Proof.Machine
end

