-- ==== Sys2Proof/Machine/Flags.lean ====
section
/-! DEFINITION. Verdict arithmetic (chapter 4): the five stages, the flags they set, the grade. Exact and integer
throughout; every quotient is a floor. -/

namespace Sys2Proof.Machine

/-- The check mode of R76. -/
abbrev CheckMode := CampaignKind

/-- The measurements handed over at the release end, combined for a pair (R43); `lanes` gives each lane's S and n. -/
structure Measured where
  bitsB     : Nat
  errorsE   : Nat
  hitsH     : Nat
  expectedX : Nat
  lossesK   : Nat
  ticksT    : Option Nat
  lanes     : List (Int × Nat)
  deriving DecidableEq, Repr

/-- The record of a BASE probe is the engine's own. -/
def Measurement.alone (m : Measurement) : Measured :=
  ⟨m.bitsB, m.errorsE, m.hitsH, m.expectedX, m.lossesK, m.ticksT, [(m.levelS, m.samplesN)]⟩

/-- The combined record of a pair (R43): sums, those of E, H, X and K held at their limits, the lead's T, both lanes' sums. -/
def Measurement.pair (lead follower : Measurement) : Measured :=
  { bitsB := lead.bitsB + follower.bitsB
    errorsE := satAdd errorsMax lead.errorsE follower.errorsE
    hitsH := satAdd 30 lead.hitsH follower.hitsH
    expectedX := satAdd 30 lead.expectedX follower.expectedX
    lossesK := satAdd lossesMax lead.lossesK follower.lossesK
    ticksT := lead.ticksT
    lanes := [(lead.levelS, lead.samplesN), (follower.levelS, follower.samplesN)] }

/-- What the VU reads of the circuit record, the lead engine and the governing set (R75). -/
structure GradeLimits where
  mode           : CheckMode
  exponent       : Nat
  windowLow      : Nat
  windowHigh     : Nat
  minLevel       : Int
  baseDelay      : Option Nat
  baseLevel      : Option Int
  offset         : Nat
  shiftTolerance : Nat
  lossWarn       : Nat
  lossFail       : Nat
  deriving DecidableEq, Repr

/-- Low no greater than high (R4). -/
def GradeLimits.windowOn (q : GradeLimits) : Bool := q.windowLow ≤ q.windowHigh

/-! ## Stage 1 (R78, R79) -/

def misses (m : Measured) : Nat := m.expectedX - m.hitsH

def saturatedE (m : Measured) : Bool := m.errorsE == errorsMax

/-- P as stage 1 forms it: E - H, the misses added when both are present; 2^32 - 1 when E stands at its limit. -/
def payloadErrors (m : Measured) : Nat :=
  if saturatedE m then errorsMax
  else if misses m = 0 ∨ m.errorsE - m.hitsH = 0 then m.errorsE - m.hitsH
  else satAdd errorsMax (m.errorsE - m.hitsH) (misses m)

def foreignEcho (m : Measured) : Bool := !saturatedE m && 0 < misses m && m.errorsE - m.hitsH == 0

def markersMissed (m : Measured) : Bool := 0 < misses m && (saturatedE m || 0 < m.errorsE - m.hitsH)

/-! ## Stage 2 (R80) -/

def allowance (m : Measured) (exponent : Nat) : Nat := m.bitsB / 10 ^ exponent

def errorFault (m : Measured) (exponent : Nat) : Bool :=
  allowance m exponent < payloadErrors m || 0 < m.lossesK

def berShort (m : Measured) (exponent : Nat) : Bool := !errorFault m exponent && m.bitsB < 10 ^ exponent

/-! ## Stage 3 (R81, R82) -/

/-- D = floor((4T + 25) / 50). -/
def delayUnits (t : Nat) : Nat := (4 * t + 25) / 50

/-- D less the lead's local offset, limited to 0 to 65535. -/
def normalizedDelay (t offset : Nat) : Nat := min (delayUnits t - offset) 65535

def delayOf (m : Measured) (q : GradeLimits) : Option Nat := m.ticksT.map (fun t => normalizedDelay t q.offset)

def routeFault (dn : Option Nat) (q : GradeLimits) : Bool :=
  match dn with
  | some d => q.windowOn && (d < q.windowLow || q.windowHigh < d)
  | none => false

def distance (a b : Nat) : Nat := if a ≤ b then b - a else a - b

def routeShift (dn : Option Nat) (q : GradeLimits) : Bool :=
  match q.mode, dn, q.baseDelay with
  | .verify, some d, some b => q.shiftTolerance < distance d b
  | _, _, _ => false

/-! ## Stage 4 (R83, R84) -/

/-- floor((2S + n) / (2n)), limited to -400 to +50. -/
def laneMean (lane : Int × Nat) : Int :=
  max (-400) (min ((2 * lane.1 + (lane.2 : Int)) / (2 * (lane.2 : Int))) 50)

/-- The lower of the means of the lanes with n > 0; absent when no lane has any. -/
def meanLevel : List (Int × Nat) → Option Int
  | [] => none
  | lane :: rest =>
    if lane.2 = 0 then meanLevel rest
    else match meanLevel rest with
      | some other => some (min (laneMean lane) other)
      | none => some (laneMean lane)

/-- The loss against the baseline, positive for a loss; only in VERIFY mode with a baseline level (R84). -/
def lossDelta (lm : Option Int) (q : GradeLimits) : Option Int :=
  match q.mode, lm, q.baseLevel with
  | .verify, some l, some b => some (b - l)
  | _, _, _ => none

def belowFloor (lm : Option Int) (q : GradeLimits) : Bool :=
  match lm with
  | some l => l < q.minLevel
  | none => false

def lossFault (lm : Option Int) (q : GradeLimits) : Bool :=
  belowFloor lm q ||
    (match lossDelta lm q with
     | some d => (q.lossFail : Int) < d
     | none => false)

def lossRise (lm : Option Int) (q : GradeLimits) : Bool :=
  match lossDelta lm q with
  | some d => d ≤ (q.lossFail : Int) && (q.lossWarn : Int) < d
  | none => false

def levelRise (lm : Option Int) (q : GradeLimits) : Bool :=
  match lossDelta lm q with
  | some d => d < -30
  | none => false

/-! ## Flags and grade (R85 to R87) -/

/-- The flags of stages 1 to 4 for a measured probe. -/
def measuredFlags (m : Measured) (q : GradeLimits) (shortened : Bool) : VerdictFlags where
  markersMissed := markersMissed m
  berShort := berShort m q.exponent
  routeShift := routeShift (delayOf m q) q
  delayUnmeasured := (delayOf m q).isNone
  lossRise := lossRise (meanLevel m.lanes) q
  levelRise := levelRise (meanLevel m.lanes) q
  levelUnmeasured := (meanLevel m.lanes).isNone
  soakShortened := shortened
  manual := false

/-- An unmeasured probe carries no flag of stages 1 to 4 (R77, R85). -/
def noFlags : VerdictFlags := ⟨false, false, false, false, false, false, false, false, false⟩

/-- The faults of stages 1 to 4 with their grades, in rank order together with the outcomes of the phases (R86). -/
def rankedFaults (outcomes : List ProbeOutcome) (foreign route error loss : Bool) : List (Bool × Grade) :=
  [(outcomes.contains .noLoop, .noLoop), (outcomes.contains .aisReceived, .aisReceived), (foreign, .foreignEcho),
   (outcomes.contains .signalDropout, .signalDropout), (route, .routeFault), (error, .errorFault), (loss, .lossFault)]

/-- The first fault present. -/
def worstFault : List (Bool × Grade) → Option Grade
  | [] => none
  | (true, g) :: _ => some g
  | (false, _) :: rest => worstFault rest

/-- The cases of R87 in order. `fault` is the fault outcome of highest rank, `limiting` is case 7. -/
def chooseGrade (outcomes : List ProbeOutcome) (fault : Option Grade) (aborted : Bool) (f : VerdictFlags)
    (limiting : Bool) : Grade :=
  if outcomes.contains .blocked then .blocked
  else if outcomes.contains .stuckLoop then .stuckLoop
  else if outcomes.contains .released then .released
  else match fault with
    | some g => g
    | none =>
      if aborted then .cancelled
      else if f.routeShift || f.lossRise || f.levelRise then .marginal
      else if limiting then .limited
      else .pass

/-- Case 7 of R87. -/
def limitingFlags (f : VerdictFlags) (q : GradeLimits) : Bool :=
  f.berShort || (f.delayUnmeasured && (q.windowOn || q.baseDelay.isSome))

/-- The grade of a measured probe (R77, R87). -/
def gradeMeasured (outcomes : List ProbeOutcome) (aborted : Bool) (m : Measured) (q : GradeLimits) : Grade :=
  let f := measuredFlags m q (outcomes.contains .soakShortened)
  chooseGrade outcomes
    (worstFault (rankedFaults outcomes (foreignEcho m) (routeFault (delayOf m q) q) (errorFault m q.exponent)
      (lossFault (meanLevel m.lanes) q)))
    aborted f (limitingFlags f q)

/-- The grade of an unmeasured probe follows from its outcomes and abort mark alone (R77). -/
def gradeUnmeasured (outcomes : List ProbeOutcome) (aborted : Bool) : Grade :=
  chooseGrade outcomes (worstFault (rankedFaults outcomes false false false false)) aborted noFlags false

/-- The verdict record of a probe (R88, R91), `engine` being the lead. -/
def verdictOf (x : Context) (engine : Nat) (m : Measured) (q : GradeLimits) : Verdict :=
  if x.measured then
    { grade := gradeMeasured x.outcomes x.aborted m q
      flags := measuredFlags m q (x.outcomes.contains .soakShortened)
      campaignNumber := x.campaignNumber
      engine := some engine
      loopAttempts := x.loopAttempts
      releaseAttempts := x.releaseAttempts
      bitsB := m.bitsB
      errorsE := m.errorsE
      payloadP := payloadErrors m
      hitsH := m.hitsH
      expectedX := m.expectedX
      lossesK := m.lossesK
      delayDn := delayOf m q
      levelLm := meanLevel m.lanes }
  else
    { grade := gradeUnmeasured x.outcomes x.aborted
      flags := noFlags
      campaignNumber := x.campaignNumber
      engine := some engine
      loopAttempts := x.loopAttempts
      releaseAttempts := x.releaseAttempts
      bitsB := 0, errorsE := 0, payloadP := 0, hitsH := 0, expectedX := 0, lossesK := 0
      delayDn := none, levelLm := none }

/-- The verdict that OPEN_LOOP_CLEAR writes (R91). -/
def manualVerdict : Verdict where
  grade := .released
  flags := { noFlags with manual := true }
  campaignNumber := 0
  engine := none
  loopAttempts := 0
  releaseAttempts := 0
  bitsB := 0
  errorsE := 0
  payloadP := 0
  hitsH := 0
  expectedX := 0
  lossesK := 0
  delayDn := none
  levelLm := none

/-! ## Baselines and notices (R90, R130) -/

/-- In BASELINE mode a probe graded PASS or LIMITED writes its measurements as baselines; a baseline whose measurement
is absent is left as it stood (R90). -/
def writesBaselines (mode : CheckMode) (g : Grade) : Bool := mode == .baseline && (g == .pass || g == .limited)

def newBaseDelay (mode : CheckMode) (v : Verdict) (old : Option Nat) : Option Nat :=
  if writesBaselines mode v.grade && v.delayDn.isSome then v.delayDn else old

def newBaseLevel (mode : CheckMode) (v : Verdict) (old : Option Int) : Option Int :=
  if writesBaselines mode v.grade && v.levelLm.isSome then v.levelLm else old

/-- The groups of R130. -/
inductive GradeGroup | pass | marginal | fault | stuck | other
  deriving DecidableEq, Repr

def Grade.group : Grade → GradeGroup
  | .pass | .limited | .released => .pass
  | .marginal => .marginal
  | .noLoop | .aisReceived | .foreignEcho | .signalDropout | .routeFault | .errorFault | .lossFault => .fault
  | .stuckLoop => .stuck
  | .blocked | .cancelled => .other

/-- Whether a campaign verdict is offered under a notice mode (R130). -/
def offersCampaignVerdict (mode : NoticeMode) (last : Option Verdict) (g : Grade) : Bool :=
  match mode with
  | .all => true
  | .nonPass => g != .pass
  | .change =>
    match last with
    | some v => v.grade.group != g.group
    | none => true

end Sys2Proof.Machine
end

