-- ==== Sys2Proof/Decode.lean ====
section
/-! DEFINITION. The decoder over the table's bits. The rows of spec/opcode_table.json give no bits, so no word spells
a command; the command codes of section 11.5 stand here. The bytes of the two links are read where they are received (Machine/Operands.lean). -/

namespace Sys2Proof

/-- No row of the table has bits, so no word spells a row. -/
def decodeTableWord (_nbits _w : Nat) : Option Instr := none

/-- Command codes of section 11.5. -/
def knownCode (code : Byte) : Bool :=
  let c := code.toNat
  (0x10 ≤ c && c ≤ 0x15) || (0x20 ≤ c && c ≤ 0x23) || (0x30 ≤ c && c ≤ 0x38) || (0x40 ≤ c && c ≤ 0x45) ||
    (0x50 ≤ c && c ≤ 0x52) || (0x60 ≤ c && c ≤ 0x61) || (0x70 ≤ c && c ≤ 0x71)

end Sys2Proof
end

