-- ==== Sys2Proof/Machine/Operands.lean ====
section
/-! DEFINITION. The bytes of chapter 11: reading the operands of a command, the encoding of every record the part sends,
and the frames of the two links. -/

namespace Sys2Proof.Machine

/-! ## Reading (R180: most significant byte first) -/

def rd8 (p : List Byte) (i : Nat) : Nat := (p.getD i 0).toNat

def rd16 (p : List Byte) (i : Nat) : Nat := rd8 p i * 256 + rd8 p (i + 1)

def rd32 (p : List Byte) (i : Nat) : Nat := rd16 p i * 65536 + rd16 p (i + 2)

/-- A two's complement field of two bytes (R180). -/
def rdS16 (p : List Byte) (i : Nat) : Int := (BitVec.ofNat 16 (rd16 p i)).toInt

/-! ## Writing -/

def be8 (n : Nat) : List Byte := [BitVec.ofNat 8 n]

def be16 (n : Nat) : List Byte := [BitVec.ofNat 8 (n / 256), BitVec.ofNat 8 n]

def be24 (n : Nat) : List Byte := BitVec.ofNat 8 (n / 65536) :: be16 n

def be32 (n : Nat) : List Byte := be16 (n / 65536) ++ be16 n

def be48 (n : Nat) : List Byte := be16 (n / 4294967296) ++ be32 n

def beS16 (i : Int) : List Byte := be16 (BitVec.ofInt 16 i).toNat

def beS32 (i : Int) : List Byte := be32 (BitVec.ofInt 32 i).toNat

/-- A field that carries a number of ms is held at 2^32 - 1 (R1). -/
def msField (n : Nat) : List Byte := be32 (min n 4294967295)

/-- A field that carries a value of the time base carries its low 32 bits (R1). -/
def timeField (n : Nat) : List Byte := be32 (n % 4294967296)

def bit (b : Bool) (i : Nat) : Nat := if b then 2 ^ i else 0

def zeros (n : Nat) : List Byte := List.replicate n 0

/-! ## Enumerated values (section 11.3) -/

def Status.byte : Status → Nat
  | .ok => 0x00
  | .badCode => 0x01
  | .badLength => 0x02
  | .badField => 0x03
  | .campaignBusy => 0x04
  | .noCampaign => 0x05
  | .circuitBusy => 0x06
  | .notDefined => 0x07
  | .queueFull => 0x08
  | .nodeHeld => 0x09
  | .pointOut => 0x0A
  | .notOpen => 0x0B
  | .enginesActive => 0x0C
  | .noEngines => 0x0D
  | .calFailed => 0x0E
  | .matrixUnsynced => 0x0F

def TxKind.byte : TxKind → Nat
  | .reply => 0x02
  | .notice => 0x03

/-- The rank of R86; BLOCKED, CANCELLED and RELEASED follow. -/
def Grade.byte : Grade → Nat
  | .stuckLoop => 1
  | .noLoop => 2
  | .aisReceived => 3
  | .foreignEcho => 4
  | .signalDropout => 5
  | .routeFault => 6
  | .errorFault => 7
  | .lossFault => 8
  | .marginal => 9
  | .limited => 10
  | .pass => 11
  | .blocked => 12
  | .cancelled => 13
  | .released => 14

def DefState.byte : DefState → Nat
  | .vacant => 0
  | .defined => 1
  | .suspended => 2

def ProbeStatus.byte : ProbeStatus → Nat
  | .idle => 0
  | .queued => 1
  | .spot => 2
  | .active => 3
  | .openLoop => 4

def EngineState.byte : EngineState → Nat
  | .offline => 0
  | .idle => 1
  | .connecting => 2
  | .loopUp => 3
  | .retryWait => 4
  | .soak => 5
  | .loopDown => 6
  | .courtesyRelease => 7
  | .disconnecting => 8
  | .calibrating => 9
  | .quarantined => 10
  | .following => 11

def ContextKind.byte : ContextKind → Nat
  | .campaign => 1
  | .spot => 2
  | .releaseOnly => 3
  | .calibration => 4

def CampaignState.byte : CampaignState → Nat
  | .idle => 0
  | .running => 1
  | .paused => 2
  | .draining => 3

def CampaignKind.byte : CampaignKind → Nat
  | .verify => 0
  | .baseline => 1

def EndCause.byte : EndCause → Nat
  | .none => 0
  | .completed => 1
  | .cancelled => 2
  | .aborted => 3
  | .deadline => 4

def NoticeMode.byte : NoticeMode → Nat
  | .all => 0
  | .nonPass => 1
  | .change => 2

def RateClass.byte : RateClass → Nat
  | .base => 0
  | .wide => 1

def Service.byte : Service → Nat
  | .inService => 0
  | .outOfService => 1

def NodeState.byte : NodeState → Nat
  | .active => 0
  | .held => 1

def LinkState.byte : LinkState → Nat
  | .unsynced => 0
  | .synced => 1

def ResetKind.byte : ResetKind → Nat
  | .cold => 0
  | .warm => 1

def MatrixOp.byte : MatrixOp → Nat
  | .connect => 1
  | .disconnect => 2
  | .loopPort => 3
  | .resetAll => 4

def Reason.byte : Reason → Nat
  | .pointFault => 1
  | .laneFault => 2
  | .busy => 3

def Completion.byte : Completion → Nat
  | .done => 0
  | .refused _ => 1
  | .timeout => 2

/-- The reason field beside a completion: 0 none (section 11.3). -/
def Completion.reasonByte : Completion → Nat
  | .done => 0
  | .refused r => r.byte
  | .timeout => 0

/-- The dispositions of CAMPAIGN_ADD (R122). -/
inductive AddDisposition | appended | duplicate | busy | held | suspended | notDefined
  deriving DecidableEq, Repr

def AddDisposition.byte : AddDisposition → Nat
  | .appended => 0
  | .duplicate => 1
  | .busy => 2
  | .held => 3
  | .suspended => 4
  | .notDefined => 5

/-- Absent engine numbers read 0xFF and absent circuits 0xFFFF (R180). -/
def engineField (e : Option Nat) : List Byte := be8 (e.getD 0xFF)

def circuitField (c : Option Nat) : List Byte := be16 (c.getD 0xFFFF)

/-! ## Shared blocks (section 11.4) -/

def VerdictFlags.word (f : VerdictFlags) : Nat :=
  bit f.markersMissed 0 + bit f.berShort 1 + bit f.routeShift 2 + bit f.delayUnmeasured 3 + bit f.lossRise 4 +
    bit f.levelRise 5 + bit f.levelUnmeasured 6 + bit f.soakShortened 7 + bit f.manual 8

/-- The verdict block, 30 bytes. -/
def Verdict.block (v : Verdict) : List Byte :=
  be8 v.grade.byte ++ be8 (bit v.delayDn.isSome 0 + bit v.levelLm.isSome 1) ++ be16 v.flags.word ++
    be16 v.campaignNumber ++ engineField v.engine ++ be8 v.loopAttempts ++ be8 v.releaseAttempts ++ be48 v.bitsB ++
    be32 v.errorsE ++ be32 v.payloadP ++ be8 v.hitsH ++ be8 v.expectedX ++ be8 v.lossesK ++
    be16 (v.delayDn.getD 0) ++ beS16 (v.levelLm.getD 0)

/-- The bits of a pattern above its length are spare and are sent as zero (R180). -/
def Code.bits (c : Code) : Nat := c.pattern.toNat % 2 ^ c.length

/-- Activate length, pattern, deactivate length, pattern (sections 11.4). -/
def codeFields (a d : Code) : List Byte := be8 a.length ++ be16 a.bits ++ be8 d.length ++ be16 d.bits

/-- Eight 9-bit span fields, the first in the top 9 bits of the 72. -/
def spanBits (segments : List Nat) : Nat :=
  (List.range 8).foldl (fun acc i => acc * 512 + (segments.getD i 0) % 512) 0

/-- The circuit report record, 63 bytes. -/
def Circuit.reportRecord (r : Circuit) : List Byte :=
  let d := r.definition
  be8 (r.defState.byte + r.status.byte * 4 + d.rate.byte * 32) ++
    be8 (bit r.baseDelay.isSome 0 + bit r.baseLevel.isSome 1 + bit r.last.isSome 2) ++
    be8 d.accessPoint ++ be8 (d.farNode + d.pacingClass * 64) ++ codeFields d.activate d.deactivate ++
    be8 (d.exponent * 16 + d.markers) ++ be16 d.soakTime ++ be16 d.windowLow ++ be16 d.windowHigh ++
    beS16 d.minLevel ++ be8 d.segments.length ++
    (be8 (spanBits d.segments / 2 ^ 64) ++ be32 (spanBits d.segments / 2 ^ 32) ++ be32 (spanBits d.segments)) ++
    be16 (r.baseDelay.getD 0) ++ beS16 (r.baseLevel.getD 0) ++
    (match r.last with
     | some v => v.block
     | none => zeros 30)

/-- The parameter block, 24 bytes. -/
def Params.block (p : Params) : List Byte :=
  be16 p.timing.confirmTime ++ be16 p.timing.loopUpTimeout ++ be8 p.timing.loopAttempts ++ be16 p.timing.retrySpacing ++
    be16 p.timing.releaseHold ++ be16 p.timing.releaseCheck ++ be8 p.timing.releaseAttempts ++ be16 p.shiftTolerance ++
    be16 p.lossWarn ++ be16 p.lossFail ++ be8 p.cap ++ be8 p.noticeMode.byte ++ be32 p.deadline

/-- The selection block in fixed form, 114 bytes, unused slots zero. -/
def Selection.block (x : Selection) : List Byte :=
  (List.range 4).flatMap (fun i => be16 (x.windows.getD i ⟨1, 0⟩).base ++ be16 (x.windows.getD i ⟨1, 0⟩).limit) ++
    be8 x.spans.length ++ (List.range 16).flatMap (fun i => be16 (x.spans.getD i 0)) ++
    be8 x.nodes.length ++ (List.range 64).flatMap (fun i => be8 (x.nodes.getD i 0))

/-- The summary block, 25 counters of 4 bytes; queued and in flight are live (R128). -/
def State.summaryBlock (s : State) : List Byte :=
  let m := s.campaign.summary
  be32 m.selected ++ be32 m.added ++ be32 m.duplicates ++ be32 m.excluded ++ be32 m.launched ++
    m.grades.toList.flatMap be32 ++ m.notTested.toList.flatMap be32 ++ be32 s.queuedCount ++ be32 s.campaign.inFlight

/-- The open loop entry of 15 bytes: `flag` is bit 15 of its circuit word, `time` its last four bytes. -/
def OpenLoop.block (o : OpenLoop) (flag : Bool) (time : List Byte) : List Byte :=
  be16 (o.circuit + bit flag 15) ++ be8 o.farNode ++ be8 o.accessPoint ++ be8 o.releaseTotal ++ be8 o.activate.length ++
    be8 o.deactivate.length ++ be16 o.activate.bits ++ be16 o.deactivate.bits ++ time

/-! ## CRC and frames (section 11.2) -/

/-- One bit of the 16-bit cyclic check with polynomial 0x1021. -/
def crcBit (crc : BitVec 16) : BitVec 16 := if crc.msb then (crc <<< 1) ^^^ 0x1021#16 else crc <<< 1

/-- One byte, its most significant bit first. -/
def crcByte (crc : BitVec 16) (b : Byte) : BitVec 16 :=
  (List.range 8).foldl (fun c _ => crcBit c) (crc ^^^ (b.setWidth 16 <<< 8))

/-- The CRC over some bytes, initial value 0xFFFF (R168). -/
def crc16 (bytes : List Byte) : BitVec 16 := bytes.foldl crcByte 0xFFFF#16

def crcBytes (bytes : List Byte) : List Byte := be16 (crc16 bytes).toNat

/-- The frame with which the line sends a record (R168, R174). -/
def TxRecord.frame (r : TxRecord) : List Byte :=
  let body := be8 r.kind.byte ++ [r.code] ++ be16 r.tag.toNat ++ be8 r.status.byte ++
    be8 (bit r.clamped 0 + bit r.abandoned 1) ++ r.payload
  let covered := be16 (body.length + 5) ++ body
  0xA5#8 :: covered ++ crcBytes covered

/-- The frame with which the host sends a command (R168). -/
def Frame.bytes (f : Frame) : List Byte :=
  let body := [f.kind, f.code] ++ be16 f.tag.toNat ++ [0, 0] ++ f.payload
  let covered := be16 (body.length + 5) ++ body
  0xA5#8 :: covered ++ crcBytes covered

/-- The request frame of 8 bytes (section 11.7). -/
def CurrentRequest.frame (q : CurrentRequest) : List Byte :=
  let covered := be8 q.request.op.byte ++ be8 q.seq ++ be8 (q.request.point.getD 0) ++ be16 (q.request.lanes.getD 0).toNat
  0x5A#8 :: covered ++ crcBytes covered

/-- An answer read from the matrix link (R183). -/
structure Answer where
  completion : Completion
  seq        : Nat
  op         : MatrixOp
  deriving DecidableEq, Repr

def opOfByte : Nat → Option MatrixOp
  | 1 => some .connect
  | 2 => some .disconnect
  | 3 => some .loopPort
  | 4 => some .resetAll
  | _ => none

def reasonOfByte : Nat → Option Reason
  | 1 => some .pointFault
  | 2 => some .laneFault
  | 3 => some .busy
  | _ => none

/-- A frame of seven bytes is read as an answer when its CRC agrees, its answer byte is DONE or REFUSED, its op byte is
1 to 4 and, for REFUSED, its reason is 1 to 3 (R183). -/
def readAnswer (f : List Byte) : Option Answer :=
  if f.length = 7 ∧ crcBytes ((f.drop 1).take 4) = f.drop 5 then
    match opOfByte (rd8 f 3), rd8 f 1, reasonOfByte (rd8 f 4) with
    | some op, 1, _ => some ⟨.done, rd8 f 2, op⟩
    | some op, 2, some r => some ⟨.refused r, rd8 f 2, op⟩
    | _, _, _ => none
  else none

/-! ## Operands of the range commands (R11) -/

/-- The range check of R11 after the length check: the refusing offset, or none. -/
def rangeFault (first count : Nat) : Option Nat :=
  if count = 0 ∨ 16 < count then some 0
  else if first + count ≤ 2048 then none
  else some (2048 - first)

/-! ## Definition entries (section 11.4, R4, R5, R6) -/

/-- A definition as carried: every field as its bytes give it. -/
structure CarriedDef where
  accessPoint : Nat
  farNode     : Nat
  rate        : Nat
  actLength   : Nat
  actPattern  : Nat
  deLength    : Nat
  dePattern   : Nat
  pacingClass : Nat
  exponent    : Nat
  markers     : Nat
  soakTime    : Nat
  windowLow   : Nat
  windowHigh  : Nat
  minLevel    : Int
  segCount    : Nat
  slots       : List Nat
  deriving DecidableEq, Repr

/-- The definition entry that starts at byte `i`. -/
def readDef (p : List Byte) (i : Nat) : CarriedDef where
  accessPoint := rd8 p i
  farNode := rd8 p (i + 1)
  rate := rd8 p (i + 2)
  actLength := rd8 p (i + 3)
  actPattern := rd16 p (i + 4)
  deLength := rd8 p (i + 6)
  dePattern := rd16 p (i + 7)
  pacingClass := rd8 p (i + 9)
  exponent := rd8 p (i + 10)
  markers := rd8 p (i + 11)
  soakTime := rd16 p (i + 12)
  windowLow := rd16 p (i + 14)
  windowHigh := rd16 p (i + 16)
  minLevel := rdS16 p (i + 18)
  segCount := rd8 p (i + 20)
  slots := (List.range 8).map (fun k => rd16 p (i + 21 + 2 * k))

/-- The entry at offset k of a CIRCUIT_DEFINE payload (R181). -/
def defAt (p : List Byte) (k : Nat) : CarriedDef := readDef p (3 + 37 * k)

/-- The spans carried; slots beyond the count are spare. -/
def CarriedDef.spans (d : CarriedDef) : List Nat := d.slots.take d.segCount

/-- A code of R5: length 6 to 16, neither all zeros nor all ones in its length bits. -/
def codeSound (len pat : Nat) : Bool :=
  6 ≤ len && len ≤ 16 && pat % 2 ^ len != 0 && pat % 2 ^ len != 2 ^ len - 1

/-- The pattern of `len` bits started `k` bits on and continued cyclically (R5). -/
def rotation (len pat k : Nat) : Nat := (pat % 2 ^ len * 2 ^ k + pat % 2 ^ len / 2 ^ (len - k)) % 2 ^ len

/-- The two codes have equal lengths and one is a rotation of the other (R5). -/
def codesCollide (d : CarriedDef) : Bool :=
  d.actLength == d.deLength &&
    (List.range d.actLength).any (fun k => rotation d.actLength d.actPattern k == d.dePattern % 2 ^ d.deLength)

/-- Checks 1 to 9 of R12; each failure is BAD_FIELD. -/
def CarriedDef.sound (d : CarriedDef) : Bool :=
  d.farNode ≤ 63 && d.rate ≤ 1 && codeSound d.actLength d.actPattern && codeSound d.deLength d.dePattern &&
    !codesCollide d && d.pacingClass ≤ 3 && d.segCount ≤ 8 && d.spans.all (fun x => x ≤ 511) && decide d.spans.Nodup

def clampNat (lo hi n : Nat) : Nat := max lo (min n hi)

def clampInt (lo hi i : Int) : Int := max lo (min i hi)

def makeCode (len pat : Nat) : Code := ⟨len, BitVec.ofNat 16 (pat % 2 ^ len)⟩

/-- The definition stored, timing and threshold fields clamped (R4, R7). -/
def CarriedDef.stored (d : CarriedDef) : Definition where
  accessPoint := d.accessPoint
  farNode := d.farNode
  rate := if d.rate = 1 then .wide else .base
  activate := makeCode d.actLength d.actPattern
  deactivate := makeCode d.deLength d.dePattern
  pacingClass := d.pacingClass
  exponent := clampNat 6 12 d.exponent
  soakTime := clampNat 1 600 d.soakTime
  markers := clampNat 0 15 d.markers
  windowLow := d.windowLow
  windowHigh := d.windowHigh
  minLevel := clampInt (-400) 50 d.minLevel
  segments := d.spans

/-- At least one field of the record was clamped (R7). -/
def CarriedDef.wasClamped (d : CarriedDef) : Bool :=
  d.exponent != clampNat 6 12 d.exponent || d.soakTime != clampNat 1 600 d.soakTime ||
    d.markers != clampNat 0 15 d.markers || d.minLevel != clampInt (-400) 50 d.minLevel

/-! ## The parameter set and selection of CAMPAIGN_START (R113, R115, R181) -/

def noticeModeOf : Nat → Option NoticeMode
  | 0 => some .all
  | 1 => some .nonPass
  | 2 => some .change
  | _ => none

def campaignKindOf : Nat → Option CampaignKind
  | 0 => some .verify
  | 1 => some .baseline
  | _ => none

/-- The set as carried; the payload's parameter block starts at byte 1. -/
def carriedParams (p : List Byte) (mode : NoticeMode) : Params where
  timing :=
    { confirmTime := rd16 p 1, loopUpTimeout := rd16 p 3, loopAttempts := rd8 p 5, retrySpacing := rd16 p 6,
      releaseHold := rd16 p 8, releaseCheck := rd16 p 10, releaseAttempts := rd8 p 12 }
  shiftTolerance := rd16 p 13
  lossWarn := rd16 p 15
  lossFail := rd16 p 17
  cap := rd8 p 19
  noticeMode := mode
  deadline := rd32 p 21

/-- The set stored: each field clamped alone, then the loop-up timeout raised to the confirm time plus 500 ms and the
loss warn lowered to the loss fail (R113). -/
def Params.limited (q : Params) : Params :=
  let confirm := clampNat 50 5000 q.timing.confirmTime
  let fail := clampNat 0 300 q.lossFail
  { timing :=
      { confirmTime := confirm
        loopUpTimeout := max (clampNat 500 30000 q.timing.loopUpTimeout) (confirm + 500)
        loopAttempts := clampNat 1 15 q.timing.loopAttempts
        retrySpacing := clampNat 100 10000 q.timing.retrySpacing
        releaseHold := clampNat 200 10000 q.timing.releaseHold
        releaseCheck := clampNat 50 2000 q.timing.releaseCheck
        releaseAttempts := clampNat 1 15 q.timing.releaseAttempts }
    shiftTolerance := clampNat 0 1000 q.shiftTolerance
    lossWarn := min (clampNat 0 200 q.lossWarn) fail
    lossFail := fail
    cap := clampNat 0 16 q.cap
    noticeMode := q.noticeMode
    deadline := clampNat 0 86400 q.deadline }

/-- The span count stands at byte 41, the spans behind it, then the node count and the nodes (section 11.4). -/
def spanCount (p : List Byte) : Nat := rd8 p 41

def nodeCount (p : List Byte) : Nat := rd8 p (42 + 2 * spanCount p)

/-- The length rule of R181: a count out of its range needs only the bytes up to and including it. -/
def startLengthOk (p : List Byte) : Bool :=
  42 ≤ p.length &&
    (16 < spanCount p ||
      (43 + 2 * spanCount p ≤ p.length && (64 < nodeCount p || p.length == 43 + 2 * spanCount p + nodeCount p)))

def carriedSelection (p : List Byte) : Selection where
  windows := (List.range 4).map (fun i => ⟨rd16 p (25 + 4 * i), rd16 p (27 + 4 * i)⟩)
  spans := (List.range (spanCount p)).map (fun i => rd16 p (42 + 2 * i))
  nodes := (List.range (nodeCount p)).map (fun i => rd8 p (43 + 2 * spanCount p + i))

/-- Checks 4 to 6 of R115. A span count out of range is refused without the node count being read (R181). -/
def selectionSound (p : List Byte) : Bool :=
  (carriedSelection p).windows.all (fun w => w.base ≤ 2047 && w.limit ≤ 2047) &&
    spanCount p ≤ 16 && (carriedSelection p).spans.all (fun x => x ≤ 511) &&
    nodeCount p ≤ 64 && (carriedSelection p).nodes.all (fun x => x ≤ 63)

/-! ## Replies that several rules share -/

/-- The 8-byte payload of ENGINE_CALIBRATE's deferred reply (section 11.5, R41). -/
def calibrationPayload (e : Nat) (d : Option Nat) (offset : Nat) (st : EngineState) : List Byte :=
  be8 e ++ be8 (bit d.isSome 0) ++ be24 (d.getD 0) ++ be16 offset ++ be8 st.byte

/-- A REMOVED VERDICT notice (section 11.6). -/
def removedPayload (c : Nat) (st : Status) : List Byte := be16 c ++ be8 1 ++ be8 st.byte

/-- A GRADED VERDICT notice (section 11.6). -/
def gradedPayload (c : Nat) (v : Verdict) : List Byte := be16 c ++ be8 0 ++ be8 0 ++ v.block

/-- Notice codes of section 11.6. -/
def noticeReady : Byte := 0x80
def noticeVerdict : Byte := 0x81
def noticeCampaignEnd : Byte := 0x82
def noticeStuckLoop : Byte := 0x83
def noticeNodeHold : Byte := 0x84
def noticeMatrixFault : Byte := 0x85
def noticeEngineQuarantine : Byte := 0x86

end Sys2Proof.Machine
end

