-- ==== Sys2Proof/Machine/Probe.lean ====
section
/-! DEFINITION. Operations that several steps share: issuing a matrix request, the campaign's end, the node reports and
holds, the phases of a probe, grading, the release end, and an engine's leaving. -/

namespace Sys2Proof.Machine

/-! ## The matrix FIFO (R158, R159, R161) -/

/-- When no request is current the AMC makes the head request current, numbers it and sends it (R159, log 17). -/
def State.pump (s : State) : State :=
  match s.amc.current, s.amc.fifo with
  | none, r :: rest =>
    { s with amc := { s.amc with fifo := rest, current := some ⟨r, s.amc.nextSeq, s.amc.timeout, none⟩,
                                 nextSeq := (s.amc.nextSeq + 1) % 256 } }
  | _, _ => s

/-- A request joins the tail of the FIFO (R158); a RESET_ALL makes the link UNSYNCED as it is issued (R161). -/
def State.issue (s : State) (r : Request) : State :=
  State.pump
    { s with amc := { s.amc with fifo := s.amc.fifo ++ [r],
                                 link := if r.op = .resetAll then .unsynced else s.amc.link } }

/-! ## The campaign's end (R127) -/

def State.campaignOver (s : State) : Bool :=
  (s.campaign.state == .running || s.campaign.state == .draining) && s.queuesEmpty && s.campaign.inFlight == 0

/-- COMPLETED from RUNNING; from DRAINING the cause already set is kept (R127). -/
def Campaign.finalCause (k : Campaign) : EndCause := if k.state = .draining then k.endCause else .completed

/-- The campaign ends (R127): the record becomes IDLE and keeps its summary, and CAMPAIGN_END is offered. -/
def State.endCampaign (s : State) : State :=
  let t := (s.modCampaign (fun k => { k with state := .idle, endCause := k.finalCause, deadline := none })).zeroCredits
  t.offer noticeCampaignEnd
    (be16 t.campaign.number ++ be8 t.campaign.kind.byte ++ be8 t.campaign.endCause.byte ++ t.summaryBlock)

/-- The end condition is tested after each event that can make it true (R127). -/
def State.testEnd (s : State) : State := if s.campaignOver then s.endCampaign else s

/-- A class entry is withdrawn by a command (R15, R16, R17), which may end the campaign. -/
def State.withdraw (s : State) (r : NotTested) (c : Nat) : State := (s.removeQueued r c).testEnd

/-- Every entry of the class queues leaves, class 0 to class 3 (R124, R126). -/
def State.flushQueues (s : State) (r : NotTested) : State := s.queuedCircuits.foldl (fun t c => t.removeQueued r c) s

/-- CANCEL, ABORT and the deadline (R124 to R126): the queues empty, no deadline, DRAINING with the cause, no credits. -/
def State.drain (s : State) (r : NotTested) (cause : EndCause) : State :=
  ((s.flushQueues r).modCampaign (fun k => { k with state := .draining, endCause := cause, deadline := none })).zeroCredits

/-! ## Spot entries removed before launch (R133, R152) -/

/-- A waiting probe or release-only entry is removed and the host answered with the status of the cause. -/
def State.removeSpot (s : State) (st : Status) (x : SpotEntry) : State :=
  match x with
  | .probe c none => (((s.leaveSpot x).setStatus c .idle).offer noticeVerdict (removedPayload c st)).startRun
  | .probe c (some i) => (((s.leaveSpot x).setStatus c .idle).answer i st false (be16 c)).startRun
  | .releaseOnly c => ((s.leaveSpot x).offer noticeVerdict (removedPayload c st)).startRun
  | .calibration _ _ => s

/-- The entry is a probe or release-only entry whose circuit has the node as far node (R140). -/
def State.spotAtNode (s : State) (n : Nat) : SpotEntry → Bool
  | .probe c _ => s.farNodeOf c == n
  | .releaseOnly c => s.farNodeOf c == n
  | .calibration _ _ => false

/-! ## Node hold and backoff (R136 to R144) -/

/-- The cause of a hold (R144, section 11.3). -/
inductive HoldCause | command | auto
  deriving DecidableEq, Repr

def HoldCause.byte : HoldCause → Nat
  | .command => 0
  | .auto => 1

/-- The class entries and the spot entries that a hold of the node removes (R140). -/
def State.heldClassEntries (s : State) (n : Nat) : List Nat := s.queuedCircuits.filter (fun c => s.farNodeOf c == n)

def State.heldSpotEntries (s : State) (n : Nat) : List SpotEntry := s.spot.filter (s.spotAtNode n)

/-- The payload of the NODE_HOLD notice (R144, section 11.6). -/
def State.holdPayload (s : State) (n : Nat) (cause : HoldCause) (nClass nSpot : Nat) : List Byte :=
  be8 n ++ be8 cause.byte ++ be8 (s.node n).level ++ be8 (s.node n).occupancy ++ be8 (s.openLoopsAt n) ++ be16 nClass ++
    be8 nSpot

/-- A node becomes HELD (R140), in the order of its five steps. -/
def State.holdNode (s : State) (n : Nat) (cause : HoldCause) : State :=
  let entries := s.heldClassEntries n
  let waiting := s.heldSpotEntries n
  let t := s.setNode n { s.node n with state := .held }
  let t := entries.foldl (fun u c => u.removeQueued .held c) t
  let t := waiting.foldl (fun u x => u.removeSpot .nodeHeld x) t
  let t := t.offer noticeNodeHold (t.holdPayload n cause entries.length waiting.length)
  if entries.isEmpty then t else t.testEnd

/-- The counts after a "loop confirmed" report (R136). -/
def Node.confirmed (x : Node) : Node :=
  if x.threshold ≤ x.successes + 1 then { x with fails := 0, successes := 0, level := x.level - 1 }
  else { x with fails := 0, successes := x.successes + 1 }

/-- A wait begins: the next-eligible time, whose reaching is still to be taken. -/
def Node.waits (x : Node) (t : Nat) : Node := { x with nextEligible := t, waitPending := true }

/-- The counts, level and wait after a NO_LOOP report (R137); at level 4 with auto-hold on R138 leaves the wait. -/
def Node.noLoop (x : Node) (now : Nat) : Node :=
  if x.fails + 1 < 2 then { x with successes := 0, fails := x.fails + 1 }
  else if x.level < 4 then
    ({ x with successes := 0, fails := 0, level := x.level + 1 }).waits (now + 5000 * 2 ^ (x.level + 1))
  else if x.autoHold then { x with successes := 0, fails := 0 }
  else ({ x with successes := 0, fails := 0 }).waits (now + 80000)

/-- The report brings the fail count to 2 at level 4 with auto-hold on (R138). -/
def Node.autoHolds (x : Node) : Bool := 2 ≤ x.fails + 1 && 4 ≤ x.level && x.autoHold && x.state == .active

def State.reportConfirmed (s : State) (n : Nat) : State := s.setNode n (s.node n).confirmed

def State.reportNoLoop (s : State) (n : Nat) : State :=
  let t := s.setNode n ((s.node n).noLoop s.now)
  if (s.node n).autoHolds then t.holdNode n .auto else t

/-! ## Engines that leave a probe or calibration (R26, R28, R65, R66) -/

/-- The calibration entries of the spot queue pinned to an engine (R28). -/
def State.pinnedTo (s : State) (e : Nat) : List SpotEntry :=
  s.spot.filter (fun x =>
    match x with
    | .calibration e' _ => e' == e
    | .probe _ _ => false
    | .releaseOnly _ => false)

/-- A pinned calibration entry is removed and answered CAL_FAILED with the offset unchanged and OFFLINE (R28, R41). -/
def State.removeCalibration (s : State) (x : SpotEntry) : State :=
  match x with
  | .calibration e i =>
    ((s.leaveSpot x).answer i .calFailed false (calibrationPayload e none (s.engine e).localOffset .offline)).startRun
  | .probe _ _ => s
  | .releaseOnly _ => s

/-- An engine enters OFFLINE: its pinned calibration entries are removed at that moment (R28). -/
def State.goOffline (s : State) (e : Nat) : State :=
  let t := s.setEngine e { (s.engine e).resting .offline with disablePending := false }
  (t.pinnedTo e).foldl State.removeCalibration t

/-- An engine enters IDLE, which starts a run (R24). -/
def State.goIdle (s : State) (e : Nat) : State := (s.setEngine e ((s.engine e).resting .idle)).startRun

/-- IDLE, or OFFLINE with disable pending (R28). -/
def State.engineLeaves (s : State) (e : Nat) : State :=
  if (s.engine e).disablePending then s.goOffline e else s.goIdle e

/-- The state an engine will take when it leaves (R41). -/
def Engine.leavesFor (g : Engine) : EngineState := if g.disablePending then .offline else .idle

/-- The lead leaves and its follower with it, each by its own disable pending (R26). Where both go OFFLINE, the lead's
removed calibration entries are answered before the follower's (the model's choice, log 15). -/
def State.pairLeaves (s : State) (e : Nat) : State :=
  if (s.engine e).wide then (s.engineLeaves e).engineLeaves (e + 1) else s.engineLeaves e

/-- The deferred reply of the calibration `x` of an engine that it leaves in `st` (R41). -/
def State.answerCalibrationOf (s : State) (e : Nat) (x : Context) (st : EngineState) : State :=
  match x.slot with
  | some i =>
    s.answer i (if x.calDelay.isSome then .ok else .calFailed) false
      (calibrationPayload e x.calDelay (s.engine e).localOffset st)
  | none => s

/-! ## The phases (chapter 3) -/

/-- A phase begins: the phase timer at zero, the detectors of the engine's lanes disarmed, then `f` on each lane
(R45, R25). -/
def Engine.enter (g : Engine) (st : EngineState) : Engine :=
  ({ g with state := st, settleUntil := none, checkFrom := none, limitUntil := none }).modContext
    (fun x => { x with phaseTimer := 0 })

def State.enterPhase (s : State) (e : Nat) (st : EngineState) (f : Lane → Lane) : State :=
  (s.modEngine e (fun g => g.enter st)).onLanes e (fun g => { g with lane := f g.lane.disarmed })

def State.writeOutcome (s : State) (e : Nat) (o : ProbeOutcome) : State :=
  s.modEngine e (fun g => g.modContext (fun x => { x with outcomes := x.outcomes ++ [o] }))

/-- R51. The code detector is judged on the lead's lane (R35). -/
def State.startLoopUp (s : State) (e : Nat) : State :=
  let t := s.enterPhase e .loopUp (fun l => l.turnToCode.armAis s.laneTime)
  t.modEngine e (fun g =>
    { g.modContext (fun x => { x with loopAttempts := x.loopAttempts + 1 }) with
      lane := match g.context with
        | some x => g.lane.armCode x.activate s.laneTime
        | none => g.lane })

/-- R54. -/
def State.startRetryWait (s : State) (e : Nat) : State := s.enterPhase e .retryWait (fun l => l.turnToTest.armAis s.laneTime)

/-- R56. The probe is measured from here on (R77). -/
def State.startSoak (s : State) (e : Nat) : State :=
  let t := s.enterPhase e .soak (fun l => ((l.turnToTest.armChecker .soak).armAis s.laneTime).armMeter)
  t.modEngine e (fun g => { g.modContext (fun x => { x with measured := true }) with markersSent := 0 })

/-- R60, the hold of a release attempt. -/
def State.startRelease (s : State) (e : Nat) : State :=
  (s.enterPhase e .loopDown Lane.turnToCode).modEngine e
    (fun g => g.modContext (fun x => { x with releaseAttempts := x.releaseAttempts + 1 }))

/-- R60, the check of a release attempt, on both lanes of a pair. -/
def State.startCheck (s : State) (e : Nat) : State :=
  (s.modEngine e (fun g => { g with checkFrom := some s.now })).onLanes e
    (fun g => { g with lane := g.lane.turnToTest.armChecker .release })

/-- R63. -/
def State.startCourtesy (s : State) (e : Nat) : State := s.enterPhase e .courtesyRelease Lane.turnToCode

/-- R40: the measurement of a calibration begins with a 1 s limit. -/
def State.startMeasurement (s : State) (e : Nat) : State :=
  s.modEngine e (fun g =>
    { g with settleUntil := none, limitUntil := some (s.now + 1000), lane := g.lane.turnToTest.armChecker .calibration })

/-- The engine asks for a DISCONNECT and waits in DISCONNECTING (R50, R64, R40). -/
def State.startDisconnect (s : State) (e : Nat) : State :=
  let g := s.engine e
  (s.enterPhase e .disconnecting (fun l => l)).issue
    ⟨.disconnect, g.context.bind Context.accessPoint, some (laneSet e g.wide), .engine e⟩

/-- The delay word leaves from the moment at which the lanes stand, and the timer reads the counter (R38, log 8). -/
def State.sendWord (s : State) (e : Nat) : State :=
  s.modEngine e (fun g =>
    { g with lane := { g.lane with gen := { g.lane.gen with wordLeft := 64 }
                                   wordDet := ⟨some s.counterNow, 0, 0, false⟩
                                   firstGain := true } })

/-! ## Grading (R64, R75, R89) -/

/-- A SPOT probe is graded in VERIFY mode, a CAMPAIGN probe in its campaign's (R76). -/
def State.checkMode (s : State) (x : Context) : CheckMode := if x.kind = .campaign then s.campaign.kind else .verify

def State.gradeLimits (s : State) (e : Nat) (x : Context) (r : Circuit) : GradeLimits where
  mode := s.checkMode x
  exponent := r.definition.exponent
  windowLow := r.definition.windowLow
  windowHigh := r.definition.windowHigh
  minLevel := r.definition.minLevel
  baseDelay := r.baseDelay
  baseLevel := r.baseLevel
  offset := (s.engine e).localOffset
  shiftTolerance := s.campaign.params.shiftTolerance
  lossWarn := s.campaign.params.lossWarn
  lossFail := s.campaign.params.lossFail

/-- The record handed over: the engine's own, or the pair's combined (R43). -/
def State.measuredOf (s : State) (e : Nat) : Measured :=
  if (s.engine e).wide then (s.engine e).meas.pair (s.engine (e + 1)).meas else (s.engine e).meas.alone

/-- The status after a verdict: OPEN_LOOP after STUCK_LOOP and after the BLOCKED verdict of a RELEASE_ONLY probe, IDLE
otherwise (R89). -/
def statusAfter (k : ContextKind) (g : Grade) : ProbeStatus :=
  if g = .stuckLoop ∨ (k = .releaseOnly ∧ g = .blocked) then .openLoop else .idle

/-- The circuit record after the grading (R89, R90). -/
def Circuit.graded (r : Circuit) (mode : CheckMode) (k : ContextKind) (v : Verdict) : Circuit :=
  { r with
    baseDelay := newBaseDelay mode v r.baseDelay
    baseLevel := newBaseLevel mode v r.baseLevel
    last := some v
    status := statusAfter k v.grade }

/-- A campaign probe is counted under its grade and ceases to be in flight; a fall below the cap starts a run (R89,
R121). -/
def State.countGraded (s : State) (g : Grade) : State :=
  let k := s.campaign
  (s.modCampaign (fun k => { k with summary := k.summary.countGrade g, inFlight := k.inFlight - 1 })).startRunIf
    (k.params.cap != 0 && k.params.cap ≤ k.inFlight && k.inFlight - 1 < k.params.cap)

/-- The verdict is offered under the notice mode, or as a spot verdict, or completes a deferred reply (R130, R133). -/
def State.reportVerdict (s : State) (x : Context) (c : Nat) (last : Option Verdict) (v : Verdict) : State :=
  if x.kind = .campaign then
    if offersCampaignVerdict s.campaign.params.noticeMode last v.grade then s.offer noticeVerdict (gradedPayload c v) else s
  else match x.slot with
    | some i => s.answer i .ok false (be16 c ++ v.block)
    | none => s.offer noticeVerdict (gradedPayload c v)

/-- The verdict of an engine's probe, from the state at the moment of grading. -/
def State.verdictFor (s : State) (e : Nat) (x : Context) (c : Nat) : Verdict :=
  verdictOf x e (s.measuredOf e) (s.gradeLimits e x (s.circuit c))

/-- The VU grades the probe of an engine (R89). -/
def State.gradeProbe (s : State) (e : Nat) : State :=
  match (s.engine e).context with
  | none => s
  | some x =>
    match x.circuit with
    | none => s
    | some c =>
      let v := s.verdictFor e x c
      let t := s.setCircuit c ((s.circuit c).graded (s.checkMode x) x.kind v)
      let t := if x.kind = .campaign then t.countGraded v.grade else t
      t.reportVerdict x c (s.circuit c).last v

def Engine.isCampaign (g : Engine) : Bool := g.kind? == some .campaign

/-- The campaign may end when a campaign probe is graded (R127). -/
def State.testEndIf (s : State) (b : Bool) : State := if b then s.testEnd else s

/-! ## The release end (R62, R64, R68) -/

/-- The open loop entry a probe's context makes; `total` its release attempts total (R148). -/
def Context.openLoop (x : Context) (now total : Nat) : OpenLoop :=
  ⟨x.circuit.getD 0, x.farNode.getD 0, x.accessPoint.getD 0, x.activate, x.deactivate, now, total⟩

/-- For a RELEASE_ONLY probe the total carried plus the attempts used, held at 255 (R148). -/
def Context.stuckTotal (x : Context) : Nat := satAdd 255 (x.releaseTotal.getD 0) x.releaseAttempts

/-- A new entry joins the tail of the list (R146). -/
def State.joinOpenLoops (s : State) (o : OpenLoop) : State := { s with openLoops := s.openLoops ++ [o] }

/-- The payload of the STUCK_LOOP notice (R149, section 11.6); `inList` counts this entry too. -/
def stuckPayload (x : Context) (inList : Nat) : List Byte :=
  circuitField x.circuit ++ be8 (x.farNode.getD 0) ++ be8 (x.accessPoint.getD 0) ++ be8 x.kind.byte ++ be16 x.campaignNumber ++
    be8 x.releaseAttempts ++ be8 x.stuckTotal ++ be8 inList

/-- The release end with the node slot returned (R64). -/
def State.releaseEnd (s : State) (e : Nat) : State :=
  match (s.engine e).context with
  | none => s
  | some x =>
    let t := s.returnSlot (x.farNode.getD 0)
    let t := (t.gradeProbe e).testEndIf (x.kind == .campaign)
    t.startDisconnect e

/-- The release end after STUCK_LOOP: the slot passes to a new open loop entry (R62, R148, R149, R184). -/
def State.stuckEnd (s : State) (e : Nat) : State :=
  match (s.engine e).context with
  | none => s
  | some x =>
    let t := s.writeOutcome e .stuckLoop
    let t := t.joinOpenLoops (x.openLoop s.now x.stuckTotal)
    let t := t.gradeProbe e
    let t := (t.offer noticeStuckLoop (stuckPayload x t.openLoops.length)).testEndIf (x.kind == .campaign)
    t.startDisconnect e

/-- A release attempt fails: the next one begins at once, or the last one has failed (R61, R62). -/
def State.releaseAttemptFailed (s : State) (e : Nat) : State :=
  match (s.engine e).context with
  | none => s
  | some x => if x.releaseAttempts < x.timing.releaseAttempts then s.startRelease e else s.stuckEnd e

/-- The soak ends: the detectors are disarmed, the record stands, LOOP_DOWN begins (R57). -/
def State.endSoak (s : State) (e : Nat) : State := s.startRelease e

end Sys2Proof.Machine
end

