-- ==== Sys2Proof/Machine/Arbiter.lean ====
section
/-! DEFINITION. The probe arbiter (chapter 5): eligibility, engine choice, the look-ahead, launches, and a run. -/

namespace Sys2Proof.Machine

/-! ## Engine choice (R108) -/

def State.idleEngine (s : State) (e : Nat) : Bool := (s.engine e).state == .idle

def State.pairIdle (s : State) (p : Nat) : Bool := s.idleEngine (2 * p) && s.idleEngine (2 * p + 1)

/-- The lowest IDLE engine whose partner is not IDLE, else the lowest IDLE engine. -/
def State.chooseBase (s : State) : Option Nat :=
  match (List.range 16).find? (fun e => s.idleEngine e && !s.idleEngine (partner e)) with
  | some e => some e
  | none => (List.range 16).find? s.idleEngine

/-- The even engine of the lowest pair whose members are both IDLE. -/
def State.chooseWide (s : State) : Option Nat := ((List.range 8).find? s.pairIdle).map (fun p => 2 * p)

def State.chooseEngine (s : State) : RateClass → Option Nat
  | .base => s.chooseBase
  | .wide => s.chooseWide

/-! ## Launch conditions (R103) -/

def State.pointFree (s : State) (p : Nat) : Bool := (s.point p).service == .inService && (s.point p).owner.isNone

def State.pointOut (s : State) (p : Nat) : Bool := (s.point p).service == .outOfService

/-- The far node is ACTIVE and past next-eligible (R98). -/
def State.nodeOpen (s : State) (n : Nat) : Bool := (s.node n).state == .active && (s.node n).nextEligible ≤ s.now

def State.nodeHasRoom (s : State) (n : Nat) : Bool := (s.node n).occupancy < (s.node n).limit

/-- The launch would not raise probes in flight plus open loop entries above 64. -/
def State.flightRoom (s : State) : Bool := s.probesInFlight + s.openLoops.length < 64

/-- The conditions that a class entry and a spot probe entry share. -/
def State.circuitMayLaunch (s : State) (c : Nat) : Bool :=
  let d := (s.circuit c).definition
  s.amc.link == .synced && s.pointFree d.accessPoint && s.nodeOpen d.farNode && s.nodeHasRoom d.farNode && s.flightRoom

/-- The engine on which a circuit's probe can launch now. -/
def State.circuitEngine (s : State) (c : Nat) : Option Nat :=
  if s.circuitMayLaunch c then s.chooseEngine (s.circuit c).definition.rate else none

/-- The same for a release-only entry; the node's occupancy is not tested (R151). -/
def State.retryEngine (s : State) (c : Nat) : Option Nat :=
  match s.openLoopOf c with
  | none => none
  | some o =>
    if s.amc.link == .synced && s.pointFree o.accessPoint && s.nodeOpen o.farNode then
      s.chooseEngine (s.circuit c).definition.rate
    else none

/-- A calibration entry takes its pinned engine alone (R39, R108). -/
def State.calibrationEngine (s : State) (e : Nat) : Option Nat :=
  if s.amc.link == .synced && s.idleEngine e then some e else none

/-- The access point a spot entry names (R102), if any. -/
def State.spotPoint (s : State) : SpotEntry → Option Nat
  | .probe c _ => some (s.circuit c).definition.accessPoint
  | .releaseOnly c => (s.openLoopOf c).map OpenLoop.accessPoint
  | .calibration _ _ => none

def State.spotEngine (s : State) : SpotEntry → Option Nat
  | .probe c _ => s.circuitEngine c
  | .releaseOnly c => s.retryEngine c
  | .calibration e _ => s.calibrationEngine e

/-- A class queue may be examined while the campaign is RUNNING, the class holds a credit and the campaign's probes in
flight are below the cap (R105). -/
def State.examinable (s : State) (k : Nat) : Bool :=
  s.campaign.state == .running && 0 < (s.cls k).credits &&
    (s.campaign.params.cap == 0 || s.campaign.inFlight < s.campaign.params.cap)

/-! ## Launches (R29, R45, R109) -/

/-- The engine as a launch finds it: record cleared, lanes quiet, the delay word of this launch (R38, R45). -/
def Engine.launched (g : Engine) (st : EngineState) (x : Option Context) (word : BitVec 64) : Engine :=
  { g with state := st, context := x, meas := Measurement.zero, lane := { Lane.quiet with winBits := g.lane.winBits }
           delayWord := word, settleUntil := none, checkFrom := none, limitUntil := none, markersSent := 0 }

/-- The engine takes its context; the odd engine of a pair enters FOLLOWING at the same moment (R25). -/
def State.seat (s : State) (e : Nat) (st : EngineState) (x : Context) : State :=
  let t := s.setEngine e ((s.engine e).launched st (some x) (Config.delayWord e s.launches))
  let t := if x.rate = .wide then t.setEngine (e + 1) ((t.engine (e + 1)).launched .following none 0) else t
  { t with launches := t.launches + 1 }

def circuitContext (s : State) (c : Nat) (kind : ContextKind) (number : Nat) (slot : Option Nat) : Context :=
  let d := (s.circuit c).definition
  { kind := kind, campaignNumber := number, circuit := some c, rate := d.rate, accessPoint := some d.accessPoint
    farNode := some d.farNode, activate := d.activate, deactivate := d.deactivate, soakTime := d.soakTime
    markers := d.markers, timing := s.campaign.params.timing, aborted := false, outcomes := [], loopAttempts := 0
    releaseAttempts := 0, releaseTotal := none, phaseTimer := 0, slot := slot, measured := false, calDelay := none }

/-- A RELEASE_ONLY context takes its place and codes from the open loop entry, its rate class from the circuit record
(R29, R67). -/
def retryContext (s : State) (o : OpenLoop) : Context :=
  { circuitContext s o.circuit .releaseOnly 0 none with
    accessPoint := some o.accessPoint, farNode := some o.farNode, activate := o.activate, deactivate := o.deactivate
    releaseTotal := some o.releaseTotal }

/-- A calibration has no circuit record to take codes, soak time and M from; they are empty and 0, and nothing reads them
(the model's choice, log 31). -/
def calibrationContext (s : State) (slot : Nat) : Context :=
  { kind := .calibration, campaignNumber := 0, circuit := none, rate := .base, accessPoint := none, farNode := none
    activate := Code.none, deactivate := Code.none, soakTime := 0, markers := 0, timing := s.campaign.params.timing
    aborted := false, outcomes := [], loopAttempts := 0, releaseAttempts := 0, releaseTotal := none, phaseTimer := 0
    slot := some slot, measured := false, calDelay := none }

def State.takeLock (s : State) (p e : Nat) : State := s.setPoint p { s.point p with owner := some e }

def State.claimSlot (s : State) (n : Nat) : State := s.setNode n { s.node n with occupancy := (s.node n).occupancy + 1 }

/-- Lock written, engine seated in CONNECTING, CONNECT asked for (R109, R47). -/
def State.launchProbe (s : State) (e p : Nat) (x : Context) : State :=
  ((s.takeLock p e).seat e .connecting x).issue ⟨.connect, some p, some (laneSet e (x.rate == .wide)), .engine e⟩

/-- The bank turn record names the class of the bank's last launch (R92, R105). -/
def State.writeTurn (s : State) (k : Nat) : State :=
  if k < 2 then { s with priorityTurn := k } else { s with standardTurn := k }

/-- Launch of a class entry (R109). -/
def State.launchClass (s : State) (k c e : Nat) : State :=
  let d := (s.circuit c).definition
  let x := circuitContext s c .campaign s.campaign.number none
  let t := (s.dequeue c).setStatus c .active
  let t := t.setCls k { t.cls k with credits := (t.cls k).credits - 1 }
  let t := t.modCampaign (fun m =>
    { m with inFlight := m.inFlight + 1, summary := { m.summary with launched := satAdd summaryMax m.summary.launched 1 } })
  ((t.writeTurn k).claimSlot d.farNode).launchProbe e d.accessPoint x

/-- Launch of a spot queue entry (R109). -/
def State.launchSpot (s : State) (entry : SpotEntry) (e : Nat) : State :=
  match entry with
  | .probe c slot =>
    let d := (s.circuit c).definition
    ((s.leaveSpot entry).claimSlot d.farNode).launchProbe e d.accessPoint (circuitContext s c .spot 0 slot)
  | .releaseOnly c =>
    match s.openLoopOf c with
    | none => s
    | some o =>
      let t := s.leaveSpot entry
      let t := { t with openLoops := t.openLoops.filter (fun q => q.circuit != c) }
      ((t.setStatus c .active).startRun).launchProbe e o.accessPoint (retryContext s o)
  | .calibration e' slot =>
    ((s.leaveSpot entry).seat e' .calibrating (calibrationContext s slot)).issue
      ⟨.loopPort, none, some (laneSet e' false), .engine e'⟩

/-! ## The look-ahead (R106, R107) -/

/-- A class entry at an OUT_OF_SERVICE point is removed as BLOCKED, which may end the campaign (R107). -/
def State.blockClassEntry (s : State) (c : Nat) : State := s.withdraw .blocked c

/-- The look through a class queue from place `pos`; at most 8 entries that are not removed are examined. The answer says
whether an entry was launched. -/
def State.scanClass (k : Nat) : Nat → Nat → State → Bool × State
  | 0, _, s => (false, s)
  | fuel + 1, pos, s =>
    if 8 ≤ pos then (false, s)
    else match (s.cls k).queue[pos]? with
      | none => (false, s)
      | some c =>
        if s.pointOut (s.circuit c).definition.accessPoint then State.scanClass k fuel pos (s.blockClassEntry c)
        else match s.circuitEngine c with
          | some e => (true, s.launchClass k c e)
          | none => State.scanClass k fuel (pos + 1) s

/-- The look through the spot queue from place `pos`. -/
def State.scanSpot : Nat → Nat → State → Bool × State
  | 0, _, s => (false, s)
  | fuel + 1, pos, s =>
    if 8 ≤ pos then (false, s)
    else match s.spot[pos]? with
      | none => (false, s)
      | some x =>
        if (s.spotPoint x).any s.pointOut then State.scanSpot fuel pos (s.removeSpot .pointOut x)
        else match s.spotEngine x with
          | some e => (true, s.launchSpot x e)
          | none => State.scanSpot fuel (pos + 1) s

/-! ## A run (R105) -/

/-- The spot queue is looked at again from its head after each launch. -/
def State.serveSpot : Nat → State → State
  | 0, s => s
  | fuel + 1, s =>
    let r := State.scanSpot (s.spot.length + 1) 0 s
    if r.1 then State.serveSpot fuel r.2 else r.2

/-- One turn of a class: its first eligible entry is launched, if it may be examined and has one. -/
def State.classTurn (s : State) (k : Nat) : Bool × State :=
  if s.examinable k then State.scanClass k ((s.cls k).queue.length + 1) 0 s else (false, s)

/-- One class keeps its turns alone until it finishes. -/
def State.serveAlone (k : Nat) : Nat → State → State
  | 0, s => s
  | fuel + 1, s =>
    let r := s.classTurn k
    if r.1 then State.serveAlone k fuel r.2 else r.2

/-- Turns alternate, class `a` having the next; a class that launches nothing is finished for the run. -/
def State.serveBank : Nat → Nat → Nat → State → State
  | 0, _, _, s => s
  | fuel + 1, a, b, s =>
    let r := s.classTurn a
    if r.1 then State.serveBank fuel b a r.2 else State.serveAlone b fuel r.2

/-- Sixteen engines allow sixteen launches in a run; one more turn finds nothing. -/
def runFuel : Nat := 20

/-- The bank begins with the class that its turn record does not name (R105). -/
def State.servePriority (s : State) : State :=
  if s.priorityTurn = 0 then State.serveBank runFuel 1 0 s else State.serveBank runFuel 0 1 s

def State.serveStandard (s : State) : State :=
  if s.standardTurn = 2 then State.serveBank runFuel 3 2 s else State.serveBank runFuel 2 3 s

/-- A run, taken whole (R104, R105). -/
def State.runArbiter (s : State) : State :=
  ((State.serveSpot runFuel { s with runDue := false }).servePriority).serveStandard

/-- ARBITER_RUN (R105): a run that an event has started is taken. -/
def execArbiterRun (s : State) : Result := event s.runDue s State.runArbiter

end Sys2Proof.Machine
end

