-- ==== Sys2Proof/Machine/CampaignCommands.lean ====
section
/-! DEFINITION. The commands on campaigns, pacing and the spot queue (chapter 6), and the campaign's clocks. -/

namespace Sys2Proof.Machine

/-! ## Selection (R116) -/

def Window.on (w : Window) : Bool := w.base ≤ w.limit

def Window.admits (w : Window) (c : Nat) : Bool := w.on && w.base ≤ c && c ≤ w.limit

/-- Windows, spans and nodes of R116. -/
def Selection.passes (x : Selection) (c : Nat) (d : Definition) : Bool :=
  (!x.windows.any Window.on || x.windows.any (fun w => w.admits c)) &&
    (x.spans.isEmpty || d.segments.any (fun k => x.spans.contains k)) &&
    (x.nodes.isEmpty || x.nodes.contains d.farNode)

/-- The numbers of the DEFINED circuits that pass the filters, ascending. -/
def State.filtered (s : State) (x : Selection) : List Nat :=
  (s.circuits.toList.zipIdx.filter (fun p => p.1.defState == .defined && x.passes p.2 p.1.definition)).map Prod.snd

/-- The picked circuits: their probe status is IDLE. -/
def State.picked (s : State) (x : Selection) : List Nat :=
  (s.filtered x).filter (fun c => (s.circuit c).status == .idle)

/-- The excluded circuits: SPOT, ACTIVE or OPEN_LOOP. -/
def State.excludedBy (s : State) (x : Selection) : List Nat :=
  (s.filtered x).filter (fun c =>
    match (s.circuit c).status with
    | .spot | .active | .openLoop => true
    | .idle | .queued => false)

/-! ## CAMPAIGN_START (R115, R117) -/

/-- An engine is enabled when it is not OFFLINE and has no disable pending (R115). -/
def Engine.enabled (g : Engine) : Bool := g.state != .offline && !g.disablePending

/-- Check 7 of R115. -/
def State.enginesFor (s : State) (x : Selection) : Bool :=
  s.engines.toList.any Engine.enabled &&
    (!(s.picked x).any (fun c => (s.circuit c).definition.rate == .wide) ||
      (List.range 8).any (fun p => (s.engine (2 * p)).enabled && (s.engine (2 * p + 1)).enabled))

/-- The checks of R115 in order. -/
def startCheck (s : State) (p : List Byte) : Option Status :=
  if s.campaign.state ≠ .idle then some .campaignBusy
  else if campaignKindOf (rd8 p 0) = none then some .badField
  else if noticeModeOf (rd8 p 20) = none then some .badField
  else if !selectionSound p then some .badField
  else if !s.enginesFor (carriedSelection p) then some .noEngines
  else none

/-- From 65535 the next number returns to 1 (R112). -/
def numberAfter (n : Nat) : Nat := if n = 65535 then 1 else n + 1

/-- Steps 1 and 2 of R117, with the counts of step 3. -/
def Campaign.started (k : Campaign) (kind : CampaignKind) (q : Params) (x : Selection) (selected excluded held : Nat) :
    Campaign :=
  { state := .running
    number := k.nextNumber
    nextNumber := numberAfter k.nextNumber
    kind := kind
    params := q
    selection := x
    deadline := none
    endCause := .none
    inFlight := 0
    summary :=
      { Summary.zero with
        selected := selected
        excluded := excluded
        notTested := Summary.zero.notTested.setIfInBounds NotTested.held.index held } }

/-- A picked circuit joins the queue of its pacing class (step 3 of R117). -/
def State.queueCircuit (s : State) (c : Nat) : State :=
  (s.setStatus c .queued).enqueue (s.circuit c).definition.pacingClass c

/-- Step 4 of R117. -/
def State.fillCredits (s : State) : State :=
  { s with classes := s.classes.map (fun k => { k with credits := k.quota, timer := 0 }) }

/-- The picked circuits that are queued: those whose far node is not HELD (step 3 of R117). -/
def State.toQueue (s : State) (x : Selection) : List Nat := (s.picked x).filter (fun c => !s.heldNode (s.farNodeOf c))

/-- An accepted start (R117), its reply placed first. -/
def carryStart (c : Cmd) (kind : CampaignKind) (carried : Params) (x : Selection) (s : State) : State :=
  let q := carried.limited
  let selected := (s.picked x).length
  let excluded := (s.excludedBy x).length
  let entries := s.toQueue x
  let held := selected - entries.length
  let t := s.reply c .ok (be16 s.campaign.nextNumber ++ be16 selected ++ be16 excluded ++ be16 held) (decide (carried ≠ q))
  let t := t.modCampaign (fun k => k.started kind q x selected excluded held)
  let t := (entries.foldl State.queueCircuit t).fillCredits
  let t := t.modCampaign (fun k =>
    { k with deadline := if q.deadline = 0 then none else some (s.now + 1000 * q.deadline) })
  (if entries.isEmpty then t.endCampaign else t).startRun

def campaignStartBody (p : List Byte) (c : Cmd) (s : State) : State :=
  if !startLengthOk p then s.refuse c .badLength
  else match startCheck s p with
    | some st => s.refuse c st
    | none =>
      match campaignKindOf (rd8 p 0), noticeModeOf (rd8 p 20) with
      | some kind, some mode => carryStart c kind (carriedParams p mode) (carriedSelection p) s
      | _, _ => s

/-- CAMPAIGN_START (R117). -/
def execCampaignStart (tag : Tag) (payload : List Byte) (s : State) : Result :=
  hostCommand 0x30 tag payload s (campaignStartBody payload)

/-! ## CAMPAIGN_ADD (R122) -/

def addLengthOk (p : List Byte) : Bool :=
  1 ≤ p.length && (rd8 p 0 == 0 || 32 < rd8 p 0 || p.length == 1 + 2 * rd8 p 0)

/-- The numbers carried, in order. -/
def addNumbers (p : List Byte) : List Nat := (List.range (rd8 p 0)).map (fun i => rd16 p (1 + 2 * i))

/-- The disposition of one number (R122). -/
def State.disposition (s : State) (c : Nat) : AddDisposition :=
  match (s.circuit c).defState, (s.circuit c).status with
  | .vacant, _ => .notDefined
  | .suspended, _ => .suspended
  | .defined, .queued => .duplicate
  | .defined, .spot => .busy
  | .defined, .active => .busy
  | .defined, .openLoop => .busy
  | .defined, .idle => if s.heldNode (s.farNodeOf c) then .held else .appended

def Summary.countAdd (m : Summary) : AddDisposition → Summary
  | .notDefined => m
  | .suspended => m
  | .duplicate => { m with duplicates := satAdd summaryMax m.duplicates 1 }
  | .busy => { m with excluded := satAdd summaryMax m.excluded 1 }
  | .held => { m with added := satAdd summaryMax m.added 1 }.countNotTested .held
  | .appended => { m with added := satAdd summaryMax m.added 1 }

/-- The effect of one number. -/
def State.addOne (s : State) (c : Nat) : State :=
  let t := s.modSummary (fun m => m.countAdd (s.disposition c))
  if s.disposition c = .appended then (t.queueCircuit c).startRun else t

/-- The dispositions of the numbers in the order carried, each seeing what those before it did. -/
def State.dispositions : List Nat → State → List AddDisposition
  | [], _ => []
  | c :: rest, s => s.disposition c :: State.dispositions rest (s.addOne c)

def campaignAddBody (p : List Byte) (c : Cmd) (s : State) : State :=
  if !addLengthOk p then s.refuse c .badLength
  else if rd8 p 0 = 0 ∨ 32 < rd8 p 0 ∨ (addNumbers p).any (fun n => 2047 < n) then s.refuse c .badField
  else if s.campaign.state ≠ .running ∧ s.campaign.state ≠ .paused then s.refuse c .noCampaign
  else
    (addNumbers p).foldl State.addOne
      (s.reply c .ok (be8 (rd8 p 0) ++ (State.dispositions (addNumbers p) s).flatMap (fun d => be8 d.byte)) false)

/-- CAMPAIGN_ADD (R122). -/
def execCampaignAdd (tag : Tag) (payload : List Byte) (s : State) : Result :=
  hostCommand 0x31 tag payload s (campaignAddBody payload)

/-! ## CAMPAIGN_PAUSE and CAMPAIGN_RESUME (R123) -/

/-- A campaign command without fields; in IDLE it is refused with NO_CAMPAIGN (R123 to R125). -/
def campaignCommand (payload : List Byte) (c : Cmd) (body : State → State) (s : State) : State :=
  fixedLength 0 payload c (fun t => if t.campaign.state = .idle then t.refuse c .noCampaign else body t) s

def CampaignState.afterPause : CampaignState → CampaignState
  | .running => .paused
  | st => st

def campaignPauseBody (c : Cmd) (s : State) : State :=
  (s.reply c .ok (be8 s.campaign.state.afterPause.byte) false).modCampaign (fun k => { k with state := k.state.afterPause })

/-- CAMPAIGN_PAUSE (R123). -/
def execCampaignPause (tag : Tag) (payload : List Byte) (s : State) : Result :=
  hostCommand 0x32 tag payload s (fun c => campaignCommand payload c (campaignPauseBody c))

/-- The state the reply of a resume carries: after a resume that ends the campaign it is IDLE (R111, R123). -/
def State.afterResume (s : State) : CampaignState :=
  if s.campaign.state = .paused then
    if s.queuesEmpty ∧ s.campaign.inFlight = 0 then .idle else .running
  else s.campaign.state

def campaignResumeBody (c : Cmd) (s : State) : State :=
  let t := s.reply c .ok (be8 s.afterResume.byte) false
  if s.campaign.state = .paused then ((t.modCampaign (fun k => { k with state := .running })).testEnd).startRun
  else t.startRun

/-- CAMPAIGN_RESUME (R123). -/
def execCampaignResume (tag : Tag) (payload : List Byte) (s : State) : Result :=
  hostCommand 0x33 tag payload s (fun c => campaignCommand payload c (campaignResumeBody c))

/-! ## CAMPAIGN_CANCEL (R124) -/

def campaignCancelBody (c : Cmd) (s : State) : State :=
  if s.campaign.state = .draining then s.reply c .ok (be16 0) false
  else ((s.reply c .ok (be16 s.queuedCount) false).drain .cancelled .cancelled).testEnd

/-- CAMPAIGN_CANCEL (R124). -/
def execCampaignCancel (tag : Tag) (payload : List Byte) (s : State) : Result :=
  hostCommand 0x34 tag payload s (fun c => campaignCommand payload c (campaignCancelBody c))

/-! ## CAMPAIGN_ABORT (R71, R125) -/

/-- The abort would set the mark of this engine's probe: a CAMPAIGN probe not yet marked, before LOOP_DOWN and
COURTESY_RELEASE (R71). -/
def Engine.abortable (g : Engine) : Bool :=
  g.isCampaign && !((g.context.map Context.aborted).getD false) &&
    (match g.state with
     | .connecting | .loopUp | .retryWait | .soak => true
     | _ => false)

def State.markAborted (s : State) (e : Nat) : State :=
  s.modEngine e (fun g => g.modContext (fun x => { x with aborted := true }))

/-- The effect of an abort on one engine, by its phase (R71). The abort carries no bits and no moment: it is taken where
the lanes stand, and bits received since then are not counted (the model's choice, log 6). -/
def State.abortEngine (s : State) (e : Nat) : State :=
  if (s.engine e).abortable then
    match (s.engine e).state with
    | .loopUp => (s.markAborted e).startCourtesy e
    | .retryWait => (s.markAborted e).startCourtesy e
    | .soak => ((s.markAborted e).writeOutcome e .soakShortened).endSoak e
    | _ => s.markAborted e
  else s

def State.abortProbes (s : State) : State := (List.range 16).foldl State.abortEngine s

def State.abortCount (s : State) : Nat := s.engines.toList.countP Engine.abortable

/-- All that a cancel does with the cause ABORTED; in DRAINING only the cause changes. -/
def State.abortQueues (s : State) : State :=
  if s.campaign.state = .draining then s.modCampaign (fun k => { k with endCause := .aborted })
  else (s.drain .cancelled .aborted).testEnd

def campaignAbortBody (c : Cmd) (s : State) : State :=
  let cancelled := if s.campaign.state = .draining then 0 else s.queuedCount
  ((s.reply c .ok (be16 cancelled ++ be8 s.abortCount) false).abortQueues).abortProbes

/-- CAMPAIGN_ABORT (R125). -/
def execCampaignAbort (tag : Tag) (payload : List Byte) (s : State) : Result :=
  hostCommand 0x35 tag payload s (fun c => campaignCommand payload c (campaignAbortBody c))

/-! ## CAMPAIGN_REPORT (R129) -/

/-- A pacing record of 8 bytes (section 11.5). -/
def PacingClass.block (k : PacingClass) : List Byte :=
  be16 k.interval ++ be8 k.quota ++ be8 k.credits ++ be16 k.timer ++ be16 k.queue.length

/-- The 280 bytes of section 11.5. -/
def State.campaignReport (s : State) : List Byte :=
  let k := s.campaign
  be8 k.state.byte ++ be16 k.number ++ be8 k.kind.byte ++ be8 k.endCause.byte ++ k.params.block ++ k.selection.block ++
    (match k.deadline with
     | some t => msField (t - s.now)
     | none => be32 4294967295) ++
    s.summaryBlock ++ s.classes.toList.flatMap PacingClass.block ++ be8 s.spot.length

/-- CAMPAIGN_REPORT (R129). -/
def execCampaignReport (tag : Tag) (payload : List Byte) (s : State) : Result :=
  hostCommand 0x36 tag payload s (fun c => fixedLength 0 payload c (fun t => t.reply c .ok t.campaignReport false))

/-! ## CLASS_SET (R120) -/

def PacingClass.configured (k : PacingClass) (interval quota : Nat) : PacingClass :=
  { k with interval := interval, quota := quota, credits := min k.credits quota, timer := 0 }

def classSetBody (p : List Byte) (c : Cmd) (s : State) : State :=
  let interval := clampNat 1 60000 (rd16 p 1)
  let quota := clampNat 1 32 (rd8 p 3)
  if 3 < rd8 p 0 then s.refuse c .badField
  else
    let k := (s.cls (rd8 p 0)).configured interval quota
    ((s.reply c .ok (be8 k.credits) (interval != rd16 p 1 || quota != rd8 p 3)).setCls (rd8 p 0) k).startRun

/-- CLASS_SET (R120). -/
def execClassSet (tag : Tag) (payload : List Byte) (s : State) : Result :=
  hostCommand 0x37 tag payload s (fun c => fixedLength 4 payload c (classSetBody payload c))

/-! ## PROBE_CIRCUIT (R132) -/

/-- The checks of R132 in order; mode 1 is COMPLETE. -/
def probeCheck (s : State) (c mode : Nat) : Option Status :=
  if 2047 < c then some .badField
  else if 1 < mode then some .badField
  else if (s.circuit c).defState ≠ .defined then some .notDefined
  else if (s.circuit c).status ≠ .idle then some .circuitBusy
  else if s.heldNode (s.farNodeOf c) then some .nodeHeld
  else if (s.point (s.circuit c).definition.accessPoint).service = .outOfService then some .pointOut
  else if mode = 1 ∧ s.freeSlot = none then some .queueFull
  else if 8 ≤ s.spot.length then some .queueFull
  else none

/-- An accepted probe: the entry joins, the circuit becomes SPOT; in COMPLETE mode the slot is taken and the reply is
deferred. -/
def State.queueProbe (s : State) (cmd : Cmd) (c mode : Nat) : State :=
  if mode = 1 then
    match s.freeSlot with
    | some i => ((s.takeSlot i cmd (.spotProbe c)).setStatus c .spot).joinSpot (.probe c (some i))
    | none => s
  else ((s.reply cmd .ok [] false).setStatus c .spot).joinSpot (.probe c none)

def probeCircuitBody (p : List Byte) (cmd : Cmd) (s : State) : State :=
  match probeCheck s (rd16 p 0) (rd8 p 2) with
  | some st => s.refuse cmd st
  | none => s.queueProbe cmd (rd16 p 0) (rd8 p 2)

/-- PROBE_CIRCUIT (R132). -/
def execProbeCircuit (tag : Tag) (payload : List Byte) (s : State) : Result :=
  hostCommand 0x38 tag payload s (fun c => fixedLength 3 payload c (probeCircuitBody payload c))

/-! ## The campaign's clocks (R119, R126, R139) -/

/-- The expiry of a class's interval: the timer returns to zero and a class below its quota gains a credit (R119). -/
def State.accrue (s : State) (k : Nat) : State :=
  let x := s.cls k
  (s.setCls k { x with timer := 0, credits := if x.credits < x.quota then x.credits + 1 else x.credits }).startRunIf
    (x.credits < x.quota)

/-- The class's interval timer has reached its interval while the campaign is RUNNING. -/
def State.accrualDue (s : State) (k : Nat) : Bool :=
  s.campaign.state == .running && (s.cls k).interval ≤ (s.cls k).timer

/-- CREDIT_ACCRUAL (R119). -/
def execCreditAccrual (k : Fin 4) (s : State) : Result := event (s.accrualDue k.val) s (fun t => t.accrue k.val)

/-- The time base has reached the deadline time in RUNNING or PAUSED (R126). -/
def State.deadlineDue (s : State) : Bool :=
  (s.campaign.state == .running || s.campaign.state == .paused) && s.campaign.deadline.any (fun t => t ≤ s.now)

/-- DEADLINE_EXPIRY (R126). -/
def execDeadlineExpiry (s : State) : Result := event s.deadlineDue s (fun t => (t.drain .deadline .deadline).testEnd)

/-- The time base has reached a node's next-eligible time, and that has not been taken (R98, log 19). -/
def State.eligibleDue (s : State) (n : Nat) : Bool := (s.node n).waitPending && (s.node n).nextEligible ≤ s.now

/-- NEXT_ELIGIBLE_REACHED (R139): a run starts. -/
def execNextEligibleReached (n : Fin 64) (s : State) : Result :=
  event (s.eligibleDue n.val) s (fun t => (t.setNode n.val { t.node n.val with waitPending := false }).startRun)

end Sys2Proof.Machine
end

