-- ==== Sys2Proof/Machine/CircuitTable.lean ====
section
/-! DEFINITION. The six commands on the circuit table (chapter 1). -/

namespace Sys2Proof.Machine

/-- The reply of a range command after the length check: count and offset (R11, R182). -/
def State.replyRange (s : State) (c : Cmd) (st : Status) (count offset : Nat) (clamped : Bool) : State :=
  s.reply c st (be8 count ++ be8 offset) clamped

/-- The first failing check over a list of offsets, in ascending order (R11). -/
def firstFailure (check : Nat → Option Status) : List Nat → Option (Status × Nat)
  | [] => none
  | k :: rest =>
    match check k with
    | some st => some (st, k)
    | none => firstFailure check rest

/-- Range check, then the record checks, then the command (R11). `first` and `count` are the carried range. -/
def rangeCommand (first count : Nat) (c : Cmd) (check : State → Nat → Option Status) (carryOut : State → State) (s : State) :
    State :=
  match rangeFault first count with
  | some k => s.replyRange c .badField count k false
  | none =>
    match firstFailure (check s) (List.range count) with
    | some (st, k) => s.replyRange c st count k false
    | none => carryOut s

/-- A range command with the fixed 3-byte layout. -/
def rangeBody (payload : List Byte) (c : Cmd) (check : State → Nat → Option Status)
    (carryOut : Nat → Nat → State → State) (s : State) : State :=
  fixedLength 3 payload c
    (rangeCommand (rd16 payload 0) (rd8 payload 2) c (fun t k => check t (rd16 payload 0 + k))
      (carryOut (rd16 payload 0) (rd8 payload 2))) s

/-- The circuits of a range in ascending order. -/
def rangeOf (first count : Nat) : List Nat := (List.range count).map (fun k => first + k)

/-! ## CIRCUIT_DEFINE (R12 to R15) -/

/-- The checks of R12 on one record: 1 to 9, then 10. -/
def defineCheck (d : CarriedDef) (status : ProbeStatus) : Option Status :=
  if !d.sound then some .badField
  else if status = .idle ∨ status = .queued then none
  else some .circuitBusy

/-- Access point, far node or rate class differs (R14). -/
def Definition.moved (a b : Definition) : Bool :=
  a.accessPoint != b.accessPoint || a.farNode != b.farNode || a.rate != b.rate

/-- The record after an accepted define (R13, R14). -/
def Circuit.redefined (r : Circuit) (d : Definition) : Circuit :=
  if r.defState = .vacant then { Circuit.vacant with defState := .defined, definition := d }
  else
    { r with
      definition := d
      baseDelay := if r.definition.moved d then none else r.baseDelay
      baseLevel := if r.definition.moved d then none else r.baseLevel }

/-- The place of a QUEUED circuit in the campaign after its redefinition (R15); `old` is its pacing class before. -/
def State.requeue (s : State) (c old : Nat) : State :=
  let d := (s.circuit c).definition
  if s.heldNode d.farNode then s.withdraw .held c
  else if d.pacingClass = old then s
  else ((s.dequeue c).enqueue d.pacingClass c).startRun

/-- One record of an accepted define. -/
def State.defineOne (s : State) (c : Nat) (d : Definition) : State :=
  let r := s.circuit c
  let t := s.setCircuit c (r.redefined d)
  if r.status = .queued then t.requeue c r.definition.pacingClass else t

/-- The accepted command: the reply, then the records in ascending order (R11, R171). -/
def carryDefine (payload : List Byte) (c : Cmd) (s : State) : State :=
  let count := rd8 payload 2
  (List.range count).foldl
    (fun t k => t.defineOne (rd16 payload 0 + k) (defAt payload k).stored)
    (s.replyRange c .ok count 0 ((List.range count).any (fun k => (defAt payload k).wasClamped)))

/-- The length rule of R181: a count out of its range needs only the bytes up to it. -/
def defineLengthOk (payload : List Byte) : Bool :=
  3 ≤ payload.length && (rd8 payload 2 == 0 || 16 < rd8 payload 2 || payload.length == 3 + 37 * rd8 payload 2)

def circuitDefineBody (payload : List Byte) (c : Cmd) (s : State) : State :=
  if defineLengthOk payload then
    rangeCommand (rd16 payload 0) (rd8 payload 2) c
      (fun t k => defineCheck (defAt payload k) (t.circuit (rd16 payload 0 + k)).status) (carryDefine payload c) s
  else s.refuse c .badLength

/-- CIRCUIT_DEFINE (R12). -/
def execCircuitDefine (tag : Tag) (payload : List Byte) (s : State) : Result :=
  hostCommand 0x10 tag payload s (circuitDefineBody payload)

/-! ## CIRCUIT_REPORT (R20) -/

def carryReport (c : Cmd) (first count : Nat) (s : State) : State :=
  s.reply c .ok (be8 count ++ be8 0 ++ (rangeOf first count).flatMap (fun k => (s.circuit k).reportRecord)) false

/-- CIRCUIT_REPORT (R20). -/
def execCircuitReport (tag : Tag) (payload : List Byte) (s : State) : Result :=
  hostCommand 0x11 tag payload s (fun c => rangeBody payload c (fun _ _ => none) (carryReport c))

/-! ## CIRCUIT_RETIRE (R16) -/

def retireCheck (s : State) (k : Nat) : Option Status :=
  match (s.circuit k).status with
  | .spot | .active | .openLoop => some .circuitBusy
  | .idle | .queued => none

/-- A QUEUED record is first withdrawn; the record becomes VACANT. -/
def State.retireOne (s : State) (c : Nat) : State :=
  (if (s.circuit c).status = .queued then s.withdraw .withdrawn c else s).setCircuit c Circuit.vacant

def carryRetire (c : Cmd) (first count : Nat) (s : State) : State :=
  (rangeOf first count).foldl State.retireOne (s.replyRange c .ok count 0 false)

/-- CIRCUIT_RETIRE (R16). -/
def execCircuitRetire (tag : Tag) (payload : List Byte) (s : State) : Result :=
  hostCommand 0x12 tag payload s (fun c => rangeBody payload c retireCheck (carryRetire c))

/-! ## CIRCUIT_SUSPEND (R17) -/

/-- A spot probe entry of the circuit waits in the spot queue. -/
def State.spotWaits (s : State) (c : Nat) : Bool :=
  s.spot.any (fun x =>
    match x with
    | .probe c' _ => c' == c
    | .releaseOnly _ => false
    | .calibration _ _ => false)

def suspendCheck (s : State) (k : Nat) : Option Status :=
  if (s.circuit k).defState = .vacant then some .notDefined
  else if (s.circuit k).status = .spot ∧ s.spotWaits k then some .circuitBusy
  else none

def State.suspendOne (s : State) (c : Nat) : State :=
  let t := s.setCircuit c { s.circuit c with defState := .suspended }
  if (s.circuit c).status = .queued then t.withdraw .withdrawn c else t

def carrySuspend (c : Cmd) (first count : Nat) (s : State) : State :=
  (rangeOf first count).foldl State.suspendOne (s.replyRange c .ok count 0 false)

/-- CIRCUIT_SUSPEND (R17). -/
def execCircuitSuspend (tag : Tag) (payload : List Byte) (s : State) : Result :=
  hostCommand 0x13 tag payload s (fun c => rangeBody payload c suspendCheck (carrySuspend c))

/-! ## CIRCUIT_RESUME (R18) -/

/-- A VACANT record refuses the command. -/
def definedCheck (s : State) (k : Nat) : Option Status :=
  if (s.circuit k).defState = .vacant then some .notDefined else none

def State.resumeOne (s : State) (c : Nat) : State := s.setCircuit c { s.circuit c with defState := .defined }

def carryResume (c : Cmd) (first count : Nat) (s : State) : State :=
  (rangeOf first count).foldl State.resumeOne (s.replyRange c .ok count 0 false)

/-- CIRCUIT_RESUME (R18). -/
def execCircuitResume (tag : Tag) (payload : List Byte) (s : State) : Result :=
  hostCommand 0x14 tag payload s (fun c => rangeBody payload c definedCheck (carryResume c))

/-! ## CIRCUIT_BASELINE_CLEAR (R19) -/

def State.clearBaselines (s : State) (c : Nat) : State :=
  s.setCircuit c { s.circuit c with baseDelay := none, baseLevel := none }

def carryBaselineClear (c : Cmd) (first count : Nat) (s : State) : State :=
  (rangeOf first count).foldl State.clearBaselines (s.replyRange c .ok count 0 false)

/-- CIRCUIT_BASELINE_CLEAR (R19). -/
def execCircuitBaselineClear (tag : Tag) (payload : List Byte) (s : State) : Result :=
  hostCommand 0x15 tag payload s (fun c => rangeBody payload c definedCheck (carryBaselineClear c))

end Sys2Proof.Machine
end

