-- ==== Sys2Proof/Machine/Matrix.lean ====
section
/-! DEFINITION. The matrix link (chapter 9): completions and what each requester does with them, the answer receiver,
the timeout, MATRIX_SET and MATRIX_RESYNC. -/

namespace Sys2Proof.Machine

/-! ## Completions of an engine's request (R160) -/

/-- DONE of a CONNECT or LOOP_PORT: the settle time that the AMC now holds begins to run (R48, R40). -/
def State.settleBegins (s : State) (e : Nat) : State :=
  s.modEngine e (fun g => { g with settleUntil := some (s.now + s.amc.settle) })

/-- The slot of a probe whose connect failed: returned, or for a RELEASE_ONLY probe passed to a fresh open loop entry
that carries the total unchanged (R49, R50, R69, R148). -/
def State.slotAfterConnect (s : State) (x : Context) : State :=
  if x.kind = .releaseOnly then s.joinOpenLoops (x.openLoop s.now (x.releaseTotal.getD 0))
  else s.returnSlot (x.farNode.getD 0)

/-- A failed connect ends the probe as BLOCKED (R49, R50, R69). -/
def State.connectFails (s : State) (e : Nat) (x : Context) : State :=
  (((s.slotAfterConnect x).writeOutcome e .blocked).gradeProbe e).testEndIf (x.kind == .campaign)

/-- The point of a refused CONNECT goes OUT_OF_SERVICE and its lock is cleared (R49, R95). -/
def State.pointRefused (s : State) (p : Nat) : State :=
  (s.setPoint p { s.point p with service := .outOfService }).unlock p

def State.connectCompleted (s : State) (e : Nat) (x : Context) : Completion → State
  | .done => s.settleBegins e
  | .refused _ => ((s.pointRefused (x.accessPoint.getD 0)).connectFails e x).pairLeaves e
  | .timeout => (s.connectFails e x).startDisconnect e

/-- R40; a refused loop port takes no point out of service. -/
def State.loopPortCompleted (s : State) (e : Nat) (x : Context) : Completion → State
  | .done => s.settleBegins e
  | .refused _ => (s.answerCalibrationOf e x (s.engine e).leavesFor).engineLeaves e
  | .timeout => s.startDisconnect e

/-- DONE of a DISCONNECT (R65, R40, R41). -/
def State.disconnected (s : State) (e : Nat) (x : Context) : State :=
  if x.kind = .calibration then (s.answerCalibrationOf e x (s.engine e).leavesFor).engineLeaves e
  else (s.unlock (x.accessPoint.getD 0)).pairLeaves e

/-- The lead enters QUARANTINED and its follower with it (R26, R163). -/
def State.quarantineEngines (s : State) (e : Nat) (wide : Bool) : State :=
  let t := s.setEngine e ((s.engine e).resting .quarantined)
  if wide then t.setEngine (e + 1) ((t.engine (e + 1)).resting .quarantined) else t

/-- The payload of the ENGINE_QUARANTINE notice (R163, section 11.6). -/
def quarantinePayload (e : Nat) (x : Context) (k : Completion) (count : Nat) : List Byte :=
  be8 e ++ engineField (if x.rate = .wide then some (e + 1) else none) ++ be8 (bit x.accessPoint.isSome 0) ++
    be8 (x.accessPoint.getD 0) ++ circuitField x.circuit ++ be8 k.byte ++ be8 k.reasonByte ++ be8 count

/-- A failed DISCONNECT (R163); a calibration's reply follows the notice (log 16). -/
def State.disconnectFails (s : State) (e : Nat) (x : Context) (k : Completion) : State :=
  let t := s.quarantineEngines e (x.rate == .wide)
  let t := t.offer noticeEngineQuarantine (quarantinePayload e x k t.quarantinedCount)
  if x.kind = .calibration then t.answerCalibrationOf e x .quarantined else t

def State.disconnectCompleted (s : State) (e : Nat) (x : Context) : Completion → State
  | .done => s.disconnected e x
  | .refused r => s.disconnectFails e x (.refused r)
  | .timeout => s.disconnectFails e x .timeout

/-! ## Completion of a RESET_ALL (R161, R165, R166) -/

/-- A quarantined engine clears the lock it holds (R165). -/
def State.unlockOwned (s : State) (e : Nat) : State :=
  ({ s with points := s.points.map (fun (p : Point) => if p.owner = some e then { p with owner := none } else p) }).startRunIf
    (s.points.toList.any (fun p => p.owner == some e))

def State.endQuarantine (s : State) (e : Nat) : State :=
  if (s.engine e).state = .quarantined then (s.unlockOwned e).engineLeaves e else s

def State.endQuarantines (s : State) : State := (List.range 16).foldl State.endQuarantine s

/-- The payload of MATRIX_RESYNC's reply (section 11.5); completion 3 stands for none (R182). -/
def resyncPayload (link : LinkState) (returned completion reason : Nat) : List Byte :=
  be8 link.byte ++ be8 returned ++ be8 completion ++ be8 reason

def State.resyncAnswer (s : State) (i : Nat) : Completion → State
  | .done => s.answer i .ok false (resyncPayload s.amc.link s.quarantinedCount 0 0)
  | .refused r => s.answer i .matrixUnsynced false (resyncPayload s.amc.link 0 1 r.byte)
  | .timeout => s.answer i .matrixUnsynced false (resyncPayload s.amc.link 0 2 0)

/-- The completion of the reset's RESET_ALL ends the wait for it (R178). -/
def State.startupCompletes (s : State) : State :=
  { s with mli := { s.mli with startup := s.mli.startup.map (fun u => { u with link := some s.amc.link }) } }

/-- A RESET_ALL has completed: its requester hears of it, and DONE ends the quarantines (log 15). -/
def State.resetAllCompleted (s : State) (r : Requester) (k : Completion) : State :=
  let t := match r with
    | .resync i => s.resyncAnswer i k
    | .reset => s.startupCompletes
    | .engine _ => s
  if k = .done then t.endQuarantines else t

/-! ## Completion of the current request (R159) -/

/-- SYNCED at a DONE with no later RESET_ALL waiting (R161). -/
def linkAfter (a : Amc) (r : Request) (k : Completion) : LinkState :=
  if r.op = .resetAll then
    if k = .done ∧ a.fifo.all (fun q => q.op != .resetAll) then .synced else .unsynced
  else a.link

/-- The payload of the MATRIX_FAULT notice (R164, section 11.6). -/
def matrixFaultPayload (q : CurrentRequest) (k : Completion) (link : LinkState) : List Byte :=
  let engine : Option Nat := match q.request.requester with
    | .engine e => some e
    | .resync _ => none
    | .reset => none
  be8 q.request.op.byte ++ be8 q.seq ++
    be8 (bit q.request.point.isSome 0 + bit q.request.lanes.isSome 1 + bit engine.isSome 2) ++
    be8 (q.request.point.getD 0) ++ be16 (q.request.lanes.getD 0).toNat ++ be8 (engine.getD 0) ++ be8 k.byte ++
    be8 k.reasonByte ++ be8 link.byte

/-- A REFUSED or TIMEOUT offers a MATRIX_FAULT notice, except for a reset's RESET_ALL (R164, R166). -/
def State.faultNotice (s : State) (q : CurrentRequest) (k : Completion) : State :=
  if k = .done ∨ q.request.requester = .reset then s
  else s.offer noticeMatrixFault (matrixFaultPayload q k s.amc.link)

/-- The request is no longer current, the link state is decided, and the next request of the FIFO becomes current at
once (R159, R161). -/
def State.closeRequest (s : State) (q : CurrentRequest) (k : Completion) : State :=
  (State.pump { s with amc := { s.amc with current := none, link := linkAfter s.amc q.request k } }).startRunIf
    (decide (q.request.op = .resetAll) && decide (linkAfter s.amc q.request k = .synced))

/-- The requester acts on its completion (R160). -/
def State.requesterActs (s : State) (r : Request) (k : Completion) : State :=
  match r.requester with
  | .engine e =>
    match (s.engine e).context with
    | none => s
    | some x =>
      match r.op with
      | .connect => s.connectCompleted e x k
      | .loopPort => s.loopPortCompleted e x k
      | .disconnect => s.disconnectCompleted e x k
      | .resetAll => s
  | .resync _ => s.resetAllCompleted r.requester k
  | .reset => s.resetAllCompleted r.requester k

/-- The current request completes (R159); the fault notice is the first record of the event (R164, R184). -/
def State.complete (s : State) (q : CurrentRequest) (k : Completion) : State :=
  ((s.closeRequest q k).faultNotice q k).requesterActs q.request k

/-! ## The answer receiver (R183) -/

def State.countLate (s : State) : State :=
  { s with amc := { s.amc with lateAnswers := satAdd linkCountMax s.amc.lateAnswers 1 } }

/-- An answer read is matched by its number first and then by its op (R159, R183). -/
def State.takeAnswer (s : State) (a : Answer) : State :=
  match s.amc.current with
  | none => s.countLate
  | some q =>
    if q.seq ≠ a.seq then s.countLate
    else if q.request.op ≠ a.op then s
    else s.complete q a.completion

def State.setAnswerRx (s : State) (rx : List Byte) : State := { s with amc := { s.amc with rx := rx, rxAt := s.now } }

/-- 10 ms have passed since the last byte of an answer frame begun (R183). -/
def State.answerGapDue (s : State) : Bool := !s.amc.rx.isEmpty && s.amc.rxAt + 10 ≤ s.now

/-- The answer frame begun is discarded without count, and the receiver hunts (R183). -/
def State.dropAnswer (s : State) : State := { s with amc := { s.amc with rx := [] } }

/-- A byte goes to the receiver as it stands: hunting for 0x5A, then six further bytes (R183). -/
def State.takeAnswerByte (s : State) (b : Byte) : State :=
  match s.amc.rx with
  | [] => if b = 0x5A then s.setAnswerRx [b] else s
  | r :: rest =>
    let got := r :: rest ++ [b]
    if got.length < 7 then s.setAnswerRx got
    else match readAnswer got with
      | some a => (s.setAnswerRx []).takeAnswer a
      | none => s.setAnswerRx []

/-- A byte arrives. Behind a gap of 10 ms the frame begun cannot be read: it is discarded, and the byte is hunted in
(R183). -/
def State.answerByte (s : State) (b : Byte) : State :=
  if s.answerGapDue then s.dropAnswer.takeAnswerByte b else s.takeAnswerByte b

/-- MATRIX_ANSWER (R159): bytes arrive on the matrix link. -/
def execMatrixAnswer (bytes : List Byte) (s : State) : Result := .next (bytes.foldl State.answerByte s)

/-- MATRIX_ANSWER_GAP (R183). -/
def execMatrixAnswerGap (s : State) : Result := event s.answerGapDue s State.dropAnswer

/-! ## Sending and timeout (R159, R183) -/

def State.requestUnsent (s : State) : Bool := s.amc.current.any (fun q => q.sentAt.isNone)

/-- The last byte of the request frame has left: the matrix timeout runs from now. -/
def State.noteSent (s : State) : State :=
  { s with amc := { s.amc with current := s.amc.current.map (fun q => { q with sentAt := some s.now }) } }

/-- REQUEST_SENT (R159, R183). -/
def execRequestSent (s : State) : Result := event s.requestUnsent s State.noteSent

/-- The current request has waited the timeout it was sent with. -/
def CurrentRequest.expired (q : CurrentRequest) (now : Nat) : Bool := q.sentAt.any (fun t => t + q.timeout ≤ now)

def State.timeoutDue (s : State) : Bool := s.amc.current.any (fun q => q.expired s.now)

def State.timeOut (s : State) : State :=
  match s.amc.current with
  | some q => s.complete q .timeout
  | none => s

/-- MATRIX_TIMEOUT (R159). -/
def execMatrixTimeout (s : State) : Result := event s.timeoutDue s State.timeOut

/-! ## MATRIX_SET (R162) -/

def matrixSetBody (p : List Byte) (c : Cmd) (s : State) : State :=
  let timeout := clampNat 100 10000 (rd16 p 0)
  let settle := clampNat 0 1000 (rd16 p 2)
  let t := s.reply c .ok (be16 timeout ++ be16 settle) (timeout != rd16 p 0 || settle != rd16 p 2)
  { t with amc := { t.amc with timeout := timeout, settle := settle } }

/-- MATRIX_SET (R162). -/
def execMatrixSet (tag : Tag) (payload : List Byte) (s : State) : Result :=
  hostCommand 0x60 tag payload s (fun c => fixedLength 4 payload c (matrixSetBody payload c))

/-! ## MATRIX_RESYNC (R165) -/

def matrixResyncBody (c : Cmd) (s : State) : State :=
  if s.anyActive then s.refuse c .enginesActive
  else match s.freeSlot with
    | none => s.refuse c .queueFull
    | some i => (s.takeSlot i c .resync).issue ⟨.resetAll, none, none, .resync i⟩

/-- MATRIX_RESYNC (R165). -/
def execMatrixResync (tag : Tag) (payload : List Byte) (s : State) : Result :=
  hostCommand 0x61 tag payload s (fun c => fixedLength 0 payload c (matrixResyncBody c))

end Sys2Proof.Machine
end

