-- ==== Sys2Proof/Machine/Device.lean ====
section
/-! DEFINITION. The device commands (chapter 10): DEVICE_STATUS, DEVICE_RESET with the soft reset of every block, and a
frame that is no command. -/

namespace Sys2Proof.Machine

/-! ## DEVICE_STATUS (R175) -/

/-- Requests waiting in the AMC FIFO, with the current request counted. -/
def State.amcWaiting (s : State) : Nat := s.amc.fifo.length + (if s.amc.current.isSome then 1 else 0)

/-- State in bits 3 to 0, disable pending in bit 7. -/
def Engine.statusByte (g : Engine) : List Byte := be8 (g.state.byte + bit g.disablePending 7)

/-- The 32 bytes of section 11.5. -/
def State.deviceStatus (s : State) : List Byte :=
  be8 s.campaign.state.byte ++ be16 s.campaign.number ++ s.engines.toList.flatMap Engine.statusByte ++
    be8 s.amc.link.byte ++ be8 s.amcWaiting ++ be8 s.openLoops.length ++ be8 s.mli.tx.length ++ be8 s.slotsHeld ++
    be16 s.mli.frameErrors ++ be16 s.mli.overruns ++ be16 s.amc.lateAnswers ++ be16 s.mli.dropped

/-- DEVICE_STATUS (R175). -/
def execDeviceStatus (tag : Tag) (payload : List Byte) (s : State) : Result :=
  hostCommand 0x70 tag payload s (fun c => fixedLength 0 payload c (fun t => t.reply c .ok t.deviceStatus false))

/-! ## The soft reset of each block -/

/-- R44: an engine with disable pending, or OFFLINE, is OFFLINE; every other engine is IDLE. -/
def Engine.stateAfterReset (g : Engine) : EngineState := if g.disablePending || g.state == .offline then .offline else .idle

/-- R44. -/
def Engine.softReset (g : Engine) : Engine :=
  { Engine.reset with
    state := g.stateAfterReset, localOffset := g.localOffset, lane := { Lane.quiet with winBits := g.lane.winBits } }

/-- R21. -/
def Circuit.softReset (r : Circuit) : Circuit := { r with status := .idle }

/-- R98, R145. -/
def Node.softReset (x : Node) : Node :=
  { Node.reset with limit := x.limit, threshold := x.threshold, autoHold := x.autoHold }

/-- R93. -/
def Point.softReset (x : Point) : Point := { x with owner := none }

/-- R134. -/
def Campaign.softReset (k : Campaign) : Campaign :=
  { Campaign.reset with nextNumber := k.nextNumber, params := k.params, selection := k.selection }

/-- R134. -/
def PacingClass.softReset (k : PacingClass) : PacingClass := ⟨k.interval, k.quota, 0, 0, []⟩

/-- R157, R166, before the RESET_ALL is issued. -/
def Amc.softReset (a : Amc) : Amc := { a with fifo := [], current := none, rx := [], link := .unsynced }

/-- Step 4 of R177: the receive buffer is emptied and start-up begins, WARM with the loops counted (R178). -/
def Mli.softReset (m : Mli) (loops : Nat) : Mli :=
  { m with receiver := .hunt, rxBuffer := [], startup := some ⟨.warm, loops, none⟩ }

/-- The soft reset of every block (steps 3 and 4 of R177). -/
def State.softReset (s : State) (loops : Nat) : State :=
  State.issue
    { s with
      circuits := s.circuits.map Circuit.softReset
      engines := s.engines.map Engine.softReset
      priorityTurn := 1
      standardTurn := 3
      points := s.points.map Point.softReset
      nodes := s.nodes.map Node.softReset
      runDue := true
      campaign := s.campaign.softReset
      classes := s.classes.map PacingClass.softReset
      spot := []
      openLoops := []
      amc := s.amc.softReset
      mli := s.mli.softReset loops }
    Request.ofReset

/-! ## DEVICE_RESET (R176, R177) -/

/-- The slots whose reply has not been placed, in the order of their commands' acceptance (step 2 of R177). -/
def State.unanswered (s : State) : List (DeferredSlot × Nat) :=
  (s.mli.slots.toList.zipIdx.filterMap (fun p => p.1.map (fun d => (d, p.2)))).filter (fun p => !p.1.placed)
    |>.insertionSort (fun a b => a.1.order ≤ b.1.order)

/-- The ABANDONED reply of one slot (step 2 of R177, R182). -/
def State.abandon (s : State) (d : DeferredSlot) (i : Nat) : State :=
  match d.op with
  | .spotProbe c => s.answer i .circuitBusy true (be16 c)
  | .calibration e =>
    s.answer i .calFailed true (calibrationPayload e none (s.engine e).localOffset (s.engine e).stateAfterReset)
  | .resync => s.answer i .matrixUnsynced true (resyncPayload .unsynced 0 3 0)

def State.abandonAll (s : State) : State := s.unanswered.foldl (fun t p => t.abandon p.1 p.2) s

/-- The loops possibly standing: open loop entries and probes in flight (R156, R74). -/
def State.loopsStanding (s : State) : Nat := s.openLoops.length + s.probesInFlight

/-- The checks of R176. -/
def resetCheck (s : State) (force : Nat) : Option Status :=
  if 1 < force then some .badField
  else if force = 1 then none
  else if s.anyActive then some .enginesActive
  else if !s.openLoops.isEmpty then some .circuitBusy
  else none

def deviceResetBody (p : List Byte) (c : Cmd) (s : State) : State :=
  match resetCheck s (rd8 p 0) with
  | some st => s.refuse c st
  | none => ((s.reply c .ok (be8 (rd8 p 0)) false).abandonAll).softReset s.loopsStanding

/-- DEVICE_RESET (R177). -/
def execDeviceReset (tag : Tag) (payload : List Byte) (s : State) : Result :=
  hostCommand 0x71 tag payload s (fun c => fixedLength 1 payload c (deviceResetBody payload c))

/-! ## A frame that is no command (R171) -/

/-- A frame error is counted (R169, R179). -/
def State.frameError (s : State) : State :=
  { s with mli := { s.mli with frameErrors := satAdd linkCountMax s.mli.frameErrors 1 } }

/-- UNKNOWN_COMMAND (R171): a taken frame whose kind is not COMMAND is discarded and counted; a code that names no
command is answered with BAD_CODE. -/
def execUnknownCommand (kind code : Byte) (tag : Tag) (payload : List Byte) (s : State) : Result :=
  match s.takeFrame ⟨kind, code, tag, payload⟩ with
  | none => .next s
  | some t =>
    if kind ≠ kindCommand then .next t.frameError
    else if knownCode code then .next s
    else .next (t.refuse ⟨code, tag⟩ .badCode)

end Sys2Proof.Machine
end

