-- ==== Sys2Proof/Machine/EngineCommands.lean ====
section
/-! DEFINITION. The commands on the probe engines (chapter 2). -/

namespace Sys2Proof.Machine

/-- An engine number above 15 refuses the command with BAD_FIELD (R27, R28, R39, R42). -/
def engineCommand (payload : List Byte) (c : Cmd) (body : Nat → State → State) (s : State) : State :=
  fixedLength 1 payload c (fun t => if rd8 payload 0 ≤ 15 then body (rd8 payload 0) t else t.refuse c .badField) s

/-! ## ENGINE_ENABLE (R27) -/

def State.enable (s : State) (e : Nat) : State :=
  if (s.engine e).state = .offline then s.goIdle e
  else s.setEngine e { s.engine e with disablePending := false }

/-- ENGINE_ENABLE (R27). -/
def execEngineEnable (tag : Tag) (payload : List Byte) (s : State) : Result :=
  hostCommand 0x20 tag payload s (fun c => engineCommand payload c (fun e t => (t.reply c .ok [] false).enable e))

/-! ## ENGINE_DISABLE (R28) -/

/-- IDLE goes OFFLINE at once; an active or quarantined engine takes a pending disable. -/
def State.disable (s : State) (e : Nat) : State :=
  match (s.engine e).state with
  | .idle => s.goOffline e
  | .offline => s
  | _ => s.setEngine e { s.engine e with disablePending := true }

/-- ENGINE_DISABLE (R28). -/
def execEngineDisable (tag : Tag) (payload : List Byte) (s : State) : Result :=
  hostCommand 0x21 tag payload s (fun c => engineCommand payload c (fun e t => (t.reply c .ok [] false).disable e))

/-! ## ENGINE_CALIBRATE (R39) -/

/-- The checks of R39 in order, after the engine number. -/
def calibrateCheck (s : State) (e : Nat) : Option Status :=
  if (s.engine e).state = .offline ∨ (s.engine e).disablePending then some .calFailed
  else if s.amc.link ≠ .synced then some .matrixUnsynced
  else if s.freeSlot = none then some .queueFull
  else if 8 ≤ s.spot.length then some .queueFull
  else none

def State.queueCalibration (s : State) (c : Cmd) (e : Nat) : State :=
  match s.freeSlot with
  | some i => (s.takeSlot i c (.calibration e)).joinSpot (.calibration e i)
  | none => s

def engineCalibrateBody (c : Cmd) (e : Nat) (s : State) : State :=
  match calibrateCheck s e with
  | some st => s.refuse c st
  | none => s.queueCalibration c e

/-- ENGINE_CALIBRATE (R39). -/
def execEngineCalibrate (tag : Tag) (payload : List Byte) (s : State) : Result :=
  hostCommand 0x22 tag payload s (fun c => engineCommand payload c (engineCalibrateBody c))

/-! ## ENGINE_REPORT (R42) -/

/-- The 41 bytes of section 11.5. The spec gives no byte values for disable pending and no bit for T's presence: 0 or 1,
and bit 0 (the model's choice, log 28). -/
def State.engineReport (s : State) (e : Nat) : List Byte :=
  let g := s.engine e
  let m := g.meas
  be8 g.state.byte ++ be8 (bit g.disablePending 0) ++ be16 g.localOffset ++
    be8 ((g.context.map (fun x => x.kind.byte)).getD 0) ++ be16 ((g.context.map Context.campaignNumber).getD 0) ++
    circuitField (g.context.bind Context.circuit) ++
    engineField (if g.state = .following then some (partner e) else none) ++
    be8 ((g.context.map Context.loopAttempts).getD 0) ++ be8 ((g.context.map Context.releaseAttempts).getD 0) ++
    msField ((g.context.map Context.phaseTimer).getD 0) ++
    be48 m.bitsB ++ be32 m.errorsE ++ be8 m.hitsH ++ be8 m.expectedX ++ be8 m.lossesK ++
    be8 (bit m.ticksT.isSome 0) ++ be24 (m.ticksT.getD 0) ++ beS32 m.levelS ++ be32 m.samplesN

/-- ENGINE_REPORT (R42). -/
def execEngineReport (tag : Tag) (payload : List Byte) (s : State) : Result :=
  hostCommand 0x23 tag payload s (fun c => engineCommand payload c (fun e t => t.reply c .ok (t.engineReport e) false))

end Sys2Proof.Machine
end

