-- ==== Sys2Proof/Machine/Link.lean ====
section
/-! DEFINITION. The management link (chapter 10): cold reset, the receiver, the transmit queue's line, READY. -/

namespace Sys2Proof.Machine

/-- COLD_RESET (R166, R167, R174, R178): every block takes its cold-reset values and the straps are read. The free
values already drawn are not drawn again (log 7). -/
def execColdReset (strapA strapB : Bool) (s : State) : Result :=
  .next { State.cold strapA strapB with pending := s.pending, launches := s.launches }

/-! ## The receiver (R168 to R170) -/

def State.setReceiver (s : State) (r : Receiver) : State := { s with mli := { s.mli with receiver := r, rxAt := s.now } }

/-- The frame that a body spells (section 11.2). -/
def frameOfBody (body : List Byte) : Frame :=
  { kind := body.getD 0 0, code := body.getD 1 0, tag := BitVec.ofNat 16 (rd16 body 2), payload := body.drop 6 }

/-- An arrived frame joins the receive buffer, or is discarded as an overrun when four wait (R170). -/
def State.frameArrived (s : State) (f : Frame) : State :=
  if s.mli.rxBuffer.length < 4 then { s with mli := { s.mli with rxBuffer := s.mli.rxBuffer ++ [f] } }
  else { s with mli := { s.mli with overruns := satAdd linkCountMax s.mli.overruns 1 } }

/-- The second CRC byte is taken (R168, R169); a body shorter than its header is a frame error. -/
def State.judgeFrame (s : State) (len : Nat) (body got : List Byte) : State :=
  let t := s.setReceiver .hunt
  if got = crcBytes (be16 len ++ body) ∧ 6 ≤ body.length then t.frameArrived (frameOfBody body) else t.frameError

/-- The receiver takes a byte (R168). A frame of total length n has n - 5 body bytes. -/
def State.linkByte (s : State) (b : Byte) : State :=
  match s.mli.receiver with
  | .hunt => if b = 0xA5 then s.setReceiver (.length []) else s
  | .length got =>
    if (got ++ [b]).length < 2 then s.setReceiver (.length (got ++ [b]))
    else if 10 ≤ rd16 (got ++ [b]) 0 ∧ rd16 (got ++ [b]) 0 ≤ 1024 then
      s.setReceiver (.body (rd16 (got ++ [b]) 0) [])
    else (s.setReceiver .hunt).frameError
  | .body len got =>
    if (got ++ [b]).length < len - 5 then s.setReceiver (.body len (got ++ [b]))
    else s.setReceiver (.check len (got ++ [b]) [])
  | .check len body got =>
    if (got ++ [b]).length < 2 then s.setReceiver (.check len body (got ++ [b])) else s.judgeFrame len body (got ++ [b])

/-- In start-up the receiver discards every byte without counting it (R178). -/
def State.inStartup (s : State) : Bool := s.mli.startup.isSome

/-- FRAME_RECEIVED (R168): bytes arrive on the management link. -/
def execFrameReceived (bytes : List Byte) (s : State) : Result :=
  event (!s.inStartup) s (fun t => bytes.foldl State.linkByte t)

/-- A frame has been begun. -/
def State.insideFrame (s : State) : Bool := !s.inStartup && s.mli.receiver != .hunt

/-- The frame begun is discarded and counted (R169). -/
def State.discardFrame (s : State) : State :=
  State.frameError { s with mli := { s.mli with receiver := .hunt } }

/-- LINE_ERROR (R167, R169): outside a frame it is ignored. -/
def execLineError (s : State) : Result := event s.insideFrame s State.discardFrame

/-- 10 ms have passed without a further byte of the frame (R169). -/
def State.frameGapDue (s : State) : Bool := s.insideFrame && s.mli.rxAt + 10 ≤ s.now

/-- FRAME_GAP (R169). -/
def execFrameGap (s : State) : Result := event s.frameGapDue s State.discardFrame

/-! ## The command handler (R171) -/

/-- The row of the table that a frame of this code is taken by (section 11.2). -/
def commandRows : List (Byte × (Tag → List Byte → Instr)) :=
  [(0x10, .circuitDefine), (0x11, .circuitReport), (0x12, .circuitRetire), (0x13, .circuitSuspend),
   (0x14, .circuitResume), (0x15, .circuitBaselineClear), (0x20, .engineEnable), (0x21, .engineDisable)] ++
  [(0x22, .engineCalibrate), (0x23, .engineReport), (0x30, .campaignStart), (0x31, .campaignAdd),
   (0x32, .campaignPause), (0x33, .campaignResume), (0x34, .campaignCancel), (0x35, .campaignAbort)] ++
  [(0x36, .campaignReport), (0x37, .classSet), (0x38, .probeCircuit), (0x40, .pointSet), (0x41, .pointReport),
   (0x42, .nodeSet), (0x43, .nodeReport), (0x44, .nodeHold)] ++
  [(0x45, .nodeRelease), (0x50, .releaseRetry), (0x51, .openLoopClear), (0x52, .openLoopReport), (0x60, .matrixSet),
   (0x61, .matrixResync), (0x70, .deviceStatus), (0x71, .deviceReset)]

/-- The step that takes a frame: its command, or UNKNOWN_COMMAND. -/
def Frame.taking (f : Frame) : Instr :=
  match commandRows.find? (fun r => decide (f.kind = kindCommand) && r.1 == f.code) with
  | some r => r.2 f.tag f.payload
  | none => .unknownCommand f.kind f.code f.tag f.payload

/-- The step that R171 asks for now: the taking of the frame at the head of the receive buffer, once READY has been
placed and while the transmit queue holds fewer than 56 records. -/
def State.headDue (s : State) : Option Instr :=
  if s.mli.startup = none ∧ s.mli.tx.length < 56 then s.mli.rxBuffer.head?.map Frame.taking else none

/-! ## Sending (R173, R174) -/

/-- The record at the head has left; a deferred reply frees its slot. -/
def State.recordLeaves (s : State) : State :=
  match s.mli.tx with
  | [] => s
  | r :: rest =>
    let t : State := { s with mli := { s.mli with tx := rest } }
    match r.slot with
    | some i => t.setSlot i none
    | none => t

/-- RECORD_SENT (R174). -/
def execRecordSent (s : State) : Result := event (!s.mli.tx.isEmpty) s State.recordLeaves

/-! ## READY (R178) -/

/-- The payload of READY (section 11.6). -/
def readyPayload (u : Startup) (link : LinkState) : List Byte :=
  be8 u.kind.byte ++ be8 Config.enginesFitted ++ be8 link.byte ++ be8 u.loops

/-- The reset's RESET_ALL has completed and the queue holds fewer than 48 records. -/
def State.readyDue (s : State) : Bool := s.mli.startup.any (fun u => u.link.isSome) && s.mli.tx.length < 48

/-- READY is placed and start-up ends with the receiver in HUNT. -/
def State.placeReady (s : State) : State :=
  match s.mli.startup with
  | none => s
  | some u =>
    match u.link with
    | none => s
    | some l =>
      State.place { s with mli := { s.mli with startup := none, receiver := .hunt } } (noticeRecord noticeReady (readyPayload u l))

/-- READY (R178). -/
def execReady (s : State) : Result := event s.readyDue s State.placeReady

end Sys2Proof.Machine
end

