-- ==== Sys2Proof/Machine/OpenLoopCommands.lean ====
section
/-! DEFINITION. The commands on the open loop list (chapter 8). -/

namespace Sys2Proof.Machine

/-! ## RELEASE_RETRY (R150) -/

/-- The checks of R150 in order. -/
def retryCheck (s : State) (c : Nat) : Option Status :=
  if 2047 < c then some .badField
  else if (s.circuit c).status = .active then some .circuitBusy
  else match s.openLoopOf c with
    | none => some .notOpen
    | some o =>
      if s.retryWaits c then some .circuitBusy
      else if s.heldNode o.farNode then some .nodeHeld
      else if 8 ≤ s.spot.length then some .queueFull
      else none

/-- The release attempts total of the circuit's entry. -/
def State.retryTotal (s : State) (c : Nat) : Nat := ((s.openLoopOf c).map OpenLoop.releaseTotal).getD 0

def releaseRetryBody (p : List Byte) (c : Cmd) (s : State) : State :=
  match retryCheck s (rd16 p 0) with
  | some st => s.refuse c st
  | none => (s.reply c .ok (be8 (s.retryTotal (rd16 p 0))) false).joinSpot (.releaseOnly (rd16 p 0))

/-- RELEASE_RETRY (R150). -/
def execReleaseRetry (tag : Tag) (payload : List Byte) (s : State) : Result :=
  hostCommand 0x50 tag payload s (fun c => fixedLength 2 payload c (releaseRetryBody payload c))

/-! ## OPEN_LOOP_CLEAR (R153) -/

/-- The checks of R153 in order. -/
def clearCheck (s : State) (c : Nat) : Option Status :=
  if 2047 < c then some .badField
  else if (s.circuit c).status = .active then some .circuitBusy
  else if s.openLoopOf c = none then some .notOpen
  else none

/-- Steps 1 to 3 and the last verdict of step 4 (R153, R91). -/
def State.clearLoop (s : State) (c : Nat) (o : OpenLoop) : State :=
  let t := s.leaveSpot (.releaseOnly c)
  let t := { t with openLoops := t.openLoops.filter (fun q => q.circuit != c) }
  let t := t.returnSlot o.farNode
  t.setCircuit c { t.circuit c with status := .idle, last := some manualVerdict }

def openLoopClearBody (p : List Byte) (c : Cmd) (s : State) : State :=
  match clearCheck s (rd16 p 0) with
  | some st => s.refuse c st
  | none =>
    match s.openLoopOf (rd16 p 0) with
    | none => s
    | some o =>
      ((s.reply c .ok (o.block (s.retryWaits (rd16 p 0)) (timeField o.timeEntered)) false).clearLoop (rd16 p 0) o).offer
        noticeVerdict (gradedPayload (rd16 p 0) manualVerdict)

/-- OPEN_LOOP_CLEAR (R153). -/
def execOpenLoopClear (tag : Tag) (payload : List Byte) (s : State) : Result :=
  hostCommand 0x51 tag payload s (fun c => fixedLength 2 payload c (openLoopClearBody payload c))

/-! ## OPEN_LOOP_REPORT (R154) -/

/-- Each entry carries the time since entry and whether a retry waits. -/
def State.openLoopReport (s : State) : List Byte :=
  be8 s.openLoops.length ++ timeField s.now ++
    s.openLoops.flatMap (fun o => o.block (s.retryWaits o.circuit) (msField (s.now - o.timeEntered)))

/-- OPEN_LOOP_REPORT (R154). -/
def execOpenLoopReport (tag : Tag) (payload : List Byte) (s : State) : Result :=
  hostCommand 0x52 tag payload s (fun c => fixedLength 0 payload c (fun t => t.reply c .ok t.openLoopReport false))

end Sys2Proof.Machine
end

