-- ==== Sys2Proof/Machine/ProbeEvents.lean ====
section
/-! DEFINITION. The events of time and of the lanes: the tick, and the moments that move a probe or a calibration from
phase to phase (chapters 2 and 3). -/

namespace Sys2Proof.Machine

/-! ## TIME_BASE_TICK (R1, R35 to R37) -/

/-- A class's interval timer counts in RUNNING, up to its interval (R119, log 23). -/
def PacingClass.tick (k : PacingClass) : PacingClass := { k with timer := min (k.timer + 1) k.interval }

def State.tick (s : State) (lanes : Vector LaneInput 16) : State :=
  { s with
    now := (s.now + 1) % 2 ^ 64
    freeCounter := s.freeCounter + Config.countsPerMs
    laneTime := 0
    engines := Vector.ofFn (fun i : Fin 16 =>
      (s.engine i.val).tick (s.laneSource i.val) (Config.windowBits - s.laneTime) lanes[i])
    classes := if s.campaign.state = .running then s.classes.map PacingClass.tick else s.classes }

/-- TIME_BASE_TICK (R1). -/
def execTimeBaseTick (lanes : Vector LaneInput 16) (s : State) : Result := .next (s.tick lanes)

/-! ## What the guards read -/

/-- The engine leads or runs alone in this state, its phase timer at or past `due` of its context. -/
def Engine.phaseDue (g : Engine) (st : EngineState) (due : Context → Nat) : Bool :=
  g.state == st && g.context.any (fun x => due x ≤ x.phaseTimer)

/-- A moment of the time base is set and reached. -/
def reached (t : Option Nat) (now : Nat) : Bool := t.any (fun m => m ≤ now)

def Engine.farNode (g : Engine) : Nat := (g.context.bind Context.farNode).getD 0

/-! ## SETTLE_END (R48, R40, R67) -/

def State.settleEnds (s : State) (e : Nat) : State :=
  match (s.engine e).context with
  | none => s
  | some x =>
    match x.kind with
    | .calibration => s.startMeasurement e
    | .releaseOnly => s.startRelease e
    | .campaign => if x.aborted then s.startCourtesy e else s.startLoopUp e
    | .spot => s.startLoopUp e

/-- SETTLE_END (R48). A settle time of 0 ends inside a ms, so the step carries its moment (log 6). -/
def execSettleEnd (ev : LaneEvent) (s : State) : Result :=
  event (s.ahead ev.moment && reached (s.engine ev.engine.val).settleUntil s.now) s
    (fun t => (t.moveTo ev.moment).settleEnds ev.engine.val)

/-! ## Loop-up (R52 to R55) -/

/-- The count of matching windows stands at the confirm time (R52). -/
def Engine.confirmDue (g : Engine) : Bool :=
  g.state == .loopUp && g.context.any (fun x => x.timing.confirmTime ≤ g.lane.codeDet.count)

/-- LOOP_CONFIRMED (R52): the report, then SOAK (R56). -/
def execLoopConfirmed (e : Fin 16) (s : State) : Result :=
  event (s.engine e.val).confirmDue s (fun t => (t.reportConfirmed (s.engine e.val).farNode).startSoak e.val)

/-- Attempts remain (R53). -/
def Engine.attemptsRemain (g : Engine) : Bool := g.context.any (fun x => x.loopAttempts < x.timing.loopAttempts)

def State.loopUpExpires (s : State) (e : Nat) : State :=
  if (s.engine e).attemptsRemain then s.startRetryWait e
  else ((s.writeOutcome e .noLoop).reportNoLoop (s.engine e).farNode).startCourtesy e

/-- LOOP_UP_TIMEOUT (R53). -/
def execLoopUpTimeout (e : Fin 16) (s : State) : Result :=
  event ((s.engine e.val).phaseDue .loopUp (fun x => x.timing.loopUpTimeout)) s (fun t => t.loopUpExpires e.val)

/-- RETRY_SPACING_END (R54). -/
def execRetrySpacingEnd (e : Fin 16) (s : State) : Result :=
  event ((s.engine e.val).phaseDue .retryWait (fun x => x.timing.retrySpacing)) s (fun t => t.startLoopUp e.val)

/-- The phases that a raised AIS ends (R55, R58). -/
def EngineState.hearsAis : EngineState → Bool
  | .loopUp | .retryWait | .soak => true
  | _ => false

/-- AIS on either lane of a pair is the lead's (R70). -/
def State.aisDue (s : State) (e : Nat) : Bool :=
  (s.engine e).lane.ais.raised && (s.engine (s.leadOf e)).state.hearsAis

def State.aisEnds (s : State) (l : Nat) : State :=
  if (s.engine l).state = .soak then (s.writeOutcome l .aisReceived).endSoak l
  else (s.writeOutcome l .aisReceived).startCourtesy l

/-- AIS_RAISED (R36, R55, R58) on the lane of an engine. -/
def execAisRaised (e : Fin 16) (s : State) : Result := event (s.aisDue e.val) s (fun t => t.aisEnds (s.leadOf e.val))

/-! ## Soak (R33, R57, R58) -/

def State.dropoutDue (s : State) (e : Nat) : Bool :=
  (s.engine e).lane.meter.dropout && (s.engine (s.leadOf e)).state == .soak

/-- SIGNAL_DROPOUT (R37, R58) on the lane of an engine. -/
def execSignalDropout (e : Fin 16) (s : State) : Result :=
  event (s.dropoutDue e.val) s
    (fun t => (t.writeOutcome (s.leadOf e.val) .signalDropout).endSoak (s.leadOf e.val))

/-- The time of marker `i` in ms of soak: floor(i s / (M + 1)) (R33). -/
def markerTime (x : Context) (i : Nat) : Nat := i * (1000 * x.soakTime) / (x.markers + 1)

/-- The next marker's time has come. -/
def Engine.markerDue (g : Engine) : Bool :=
  g.state == .soak &&
    g.context.any (fun x => decide (g.markersSent + 1 ≤ x.markers) && decide (markerTime x (g.markersSent + 1) ≤ x.phaseTimer))

/-- Each lane of a pair carries the marker (R33). -/
def State.placeMarker (s : State) (e : Nat) : State :=
  (s.modEngine e (fun g => { g with markersSent := g.markersSent + 1 })).onLanes e
    (fun g => { g with lane := { g.lane with gen := { g.lane.gen with markersDue := g.lane.gen.markersDue + 1 } } })

/-- MARKER (R33). -/
def execMarker (e : Fin 16) (s : State) : Result := event (s.engine e.val).markerDue s (fun t => t.placeMarker e.val)

/-- SOAK_TIME_END (R57). -/
def execSoakTimeEnd (e : Fin 16) (s : State) : Result :=
  event ((s.engine e.val).phaseDue .soak (fun x => 1000 * x.soakTime)) s (fun t => t.endSoak e.val)

/-! ## The checker's reports (R31, R38, R61) -/

def State.receive (s : State) (e : Nat) (rx : List Bool) : State := s.modEngine e (fun g => g.receive rx)

/-- The lanes send on to a moment, and one of them takes the bits it received up to it (log 6). -/
def State.hear (s : State) (e : Nat) (rx : List Bool) (moment : Nat) : State := (s.moveTo moment).receive e rx

/-- The sync gain reported is taken. -/
def State.takeGain (s : State) (e : Nat) : State :=
  s.modEngine e (fun g => { g with lane := { g.lane with checker := { g.lane.checker with gain := false } } })

/-- Both lanes' meters accumulate from the tick after the lead's first sync gain (R37). -/
def State.accumulate (s : State) (e : Nat) : State :=
  s.onLanes e (fun g => { g with lane := { g.lane with meter := { g.lane.meter with accumulating := true } } })

/-- What a sync gain on the lane of engine `e` does, `l` being its lead: the delay word at the first gain of a soak on
the lead's lane (R38, R70), a failed release attempt on either lane (R61), the delay word of a calibration (R40). -/
def State.syncGained (s : State) (e l : Nat) : State :=
  match (s.engine l).state with
  | .soak => if e = l ∧ !(s.engine l).lane.firstGain then (s.sendWord l).accumulate l else s
  | .loopDown => if (s.engine l).checkFrom.isSome then s.releaseAttemptFailed l else s
  | .calibrating =>
    if (s.engine l).limitUntil.isSome then (s.sendWord l).modEngine l (fun g => { g with limitUntil := none }) else s
  | _ => s

/-- CHECKER_SYNC_GAIN (R31): the bits up to the gain are received, and the gain is taken. -/
def execCheckerSyncGain (e : Fin 16) (rx : List Bool) (moment : Nat) (s : State) : Result :=
  event (s.ahead moment && ((s.hear e.val rx moment).engine e.val).lane.checker.gain) s
    (fun t => ((t.hear e.val rx moment).takeGain e.val).syncGained e.val (s.leadOf e.val))

/-- The checker loses sync by the last of these bits. -/
def State.losesSync (s : State) (e : Nat) (rx : List Bool) (moment : Nat) : Bool :=
  (s.hear e rx.dropLast moment |>.engine e).lane.checker.inSync && !(s.hear e rx moment |>.engine e).lane.checker.inSync

/-- SYNC_LOSS (R31, R32): the bits up to the end of the bad block are received; a soak counts the loss in K. -/
def execSyncLoss (ev : LaneEvent) (rx : List Bool) (s : State) : Result :=
  event (s.ahead ev.moment && s.losesSync ev.engine.val rx ev.moment) s (fun t => t.hear ev.engine.val rx ev.moment)

/-! ## The delay word (R38, R40) -/

/-- 20 ms of the 125 MHz counter. -/
def wordLimit : Nat := 2500000

/-- Bits of the delay word (R38). -/
def wordBits : Nat := 64

/-- The counter as the first of the 64 bits arrived that end where the lanes stand; they may have begun before the tick
(log 8). -/
def State.counterAtWord (s : State) : Int :=
  (s.freeCounter : Int) + ((s.laneTime : Int) - (wordBits : Int)) / (Config.bitsPerCount : Int)

/-- T for a word that left at `departure` (R38). -/
def State.wordTicks (s : State) (departure : Nat) : Nat := (s.counterAtWord - (departure : Int)).toNat

/-- The word has been found, T being at most 20 ms (R38, log 8). -/
def State.wordDue (s : State) (e : Nat) : Bool :=
  (s.engine e).lane.wordDet.seen && (s.engine e).lane.wordDet.search.any (fun d => s.wordTicks d ≤ wordLimit)

def Engine.stopSearch (g : Engine) : Engine := { g with lane := { g.lane with wordDet := WordDetector.off } }

/-- T is the measured delay. -/
def State.measureDelay (s : State) (e t : Nat) : State :=
  s.modEngine e (fun g => { g.stopSearch with meas := { g.meas with ticksT := some t } })

/-- A calibration stores D limited to 0 to 2000 and asks for its disconnect (R40). -/
def State.calibrated (s : State) (e t : Nat) : State :=
  (s.modEngine e (fun g =>
    { g.modContext (fun x => { x with calDelay := some (delayUnits t) }) with
      localOffset := min (delayUnits t) 2000 })).startDisconnect e

def State.wordFound (s : State) (e : Nat) : State :=
  match (s.engine e).lane.wordDet.search with
  | none => s
  | some d =>
    let t := s.measureDelay e (s.wordTicks d)
    if (s.engine e).state = .calibrating then t.calibrated e (s.wordTicks d) else t

/-- DELAY_WORD_FOUND (R38): the bits up to the word's last are received. -/
def execDelayWordFound (e : Fin 16) (rx : List Bool) (moment : Nat) (s : State) : Result :=
  event (s.ahead moment && (s.hear e.val rx moment).wordDue e.val) s (fun t => (t.hear e.val rx moment).wordFound e.val)

/-- 20 ms have passed on the 125 MHz counter since the word's first bit left. That the 20 ms run on this counter and from
this reading is the model's choice (log 8). -/
def State.wordOverdue (s : State) (e : Nat) : Bool :=
  (s.engine e).lane.wordDet.search.any (fun d => d + wordLimit ≤ s.counterNow)

/-- The search stops; a calibration has failed (R40). -/
def State.wordLost (s : State) (e : Nat) : State :=
  let t := s.modEngine e Engine.stopSearch
  if (s.engine e).state = .calibrating then t.startDisconnect e else t

/-- DELAY_WORD_TIMEOUT (R38). -/
def execDelayWordTimeout (ev : LaneEvent) (s : State) : Result :=
  event (s.ahead ev.moment && (s.moveTo ev.moment).wordOverdue ev.engine.val) s
    (fun t => (t.moveTo ev.moment).wordLost ev.engine.val)

/-- CALIBRATION_LIMIT (R40): the 1 s limit passed before sync. -/
def execCalibrationLimit (e : Fin 16) (s : State) : Result :=
  event (reached (s.engine e.val).limitUntil s.now) s (fun t => t.startDisconnect e.val)

/-! ## Release (R60, R61, R63, R68) -/

/-- RELEASE_HOLD_END (R60): the check of the attempt begins. -/
def execReleaseHoldEnd (e : Fin 16) (s : State) : Result :=
  event ((s.engine e.val).checkFrom.isNone && (s.engine e.val).phaseDue .loopDown (fun x => x.timing.releaseHold)) s
    (fun t => t.startCheck e.val)

/-- The release check time has passed since the end of the hold (R60). -/
def Engine.checkDue (g : Engine) (now : Nat) : Bool :=
  match g.checkFrom, g.context with
  | some t, some x => t + x.timing.releaseCheck ≤ now
  | _, _ => false

/-- The loop is proven released; a RELEASE_ONLY probe writes RELEASED (R61, R68). -/
def State.releaseProven (s : State) (e : Nat) : State :=
  (if (s.engine e).kind? = some .releaseOnly then s.writeOutcome e .released else s).releaseEnd e

/-- RELEASE_CHECK_END (R61). -/
def execReleaseCheckEnd (e : Fin 16) (s : State) : Result :=
  event ((s.engine e.val).checkDue s.now) s (fun t => t.releaseProven e.val)

/-- COURTESY_HOLD_END (R63). -/
def execCourtesyHoldEnd (e : Fin 16) (s : State) : Result :=
  event ((s.engine e.val).phaseDue .courtesyRelease (fun x => x.timing.releaseHold)) s (fun t => t.releaseEnd e.val)

end Sys2Proof.Machine
end

