-- ==== Sys2Proof/Machine/TableCommands.lean ====
section
/-! DEFINITION. The commands on the access point table and the node table (chapters 5 and 7). -/

namespace Sys2Proof.Machine

/-! ## POINT_SET (R96) -/

def serviceOf : Nat → Option Service
  | 0 => some .inService
  | 1 => some .outOfService
  | _ => none

/-- The entry takes the carried state; a return to IN_SERVICE starts a run (R95), and the lock is not touched. -/
def State.setService (s : State) (p : Nat) (v : Service) : State :=
  (s.setPoint p { s.point p with service := v }).startRunIf
    (decide ((s.point p).service = .outOfService) && decide (v = .inService))

def pointSetBody (p : List Byte) (c : Cmd) (s : State) : State :=
  match serviceOf (rd8 p 1) with
  | some v => (s.reply c .ok (engineField (s.point (rd8 p 0)).owner) false).setService (rd8 p 0) v
  | none => s.refuse c .badField

/-- POINT_SET (R96). -/
def execPointSet (tag : Tag) (payload : List Byte) (s : State) : Result :=
  hostCommand 0x40 tag payload s (fun c => fixedLength 2 payload c (pointSetBody payload c))

/-! ## POINT_REPORT (R97) -/

def Point.block (x : Point) : List Byte := be8 x.service.byte ++ engineField x.owner

/-- All 256 entries in ascending order. -/
def State.pointReport (s : State) : List Byte := s.points.toList.flatMap Point.block

/-- POINT_REPORT (R97). -/
def execPointReport (tag : Tag) (payload : List Byte) (s : State) : Result :=
  hostCommand 0x41 tag payload s (fun c => fixedLength 0 payload c (fun t => t.reply c .ok t.pointReport false))

/-! ## NODE_SET (R100) -/

def thresholdOk (n : Nat) : Bool := n == 1 || n == 2 || n == 4 || n == 8 || n == 16

/-- The three fields that NODE_SET writes. -/
def Node.configured (x : Node) (limit threshold : Nat) (autoHold : Bool) : Node :=
  { x with limit := limit, threshold := threshold, autoHold := autoHold }

def nodeSetBody (p : List Byte) (c : Cmd) (s : State) : State :=
  let limit := clampNat 1 8 (rd8 p 1)
  if 63 < rd8 p 0 ∨ !thresholdOk (rd8 p 2) ∨ 1 < rd8 p 3 then s.refuse c .badField
  else
    ((s.reply c .ok [] (limit != rd8 p 1)).setNode (rd8 p 0)
      ((s.node (rd8 p 0)).configured limit (rd8 p 2) (rd8 p 3 == 1))).startRun

/-- NODE_SET (R100). -/
def execNodeSet (tag : Tag) (payload : List Byte) (s : State) : Result :=
  hostCommand 0x42 tag payload s (fun c => fixedLength 4 payload c (nodeSetBody payload c))

/-! ## NODE_REPORT (R101) -/

/-- The 13 bytes of one node (section 11.5). -/
def State.nodeBlock (s : State) (n : Nat) : List Byte :=
  let x := s.node n
  be8 x.state.byte ++ be8 x.limit ++ be8 x.occupancy ++ be8 (s.openLoopsAt n) ++ be8 x.level ++ be8 x.fails ++
    be8 x.successes ++ be8 x.threshold ++ be8 (bit x.autoHold 0) ++ msField (x.nextEligible - s.now)

/-- All 64 entries in ascending order. -/
def State.nodeReport (s : State) : List Byte := (List.range 64).flatMap s.nodeBlock

/-- NODE_REPORT (R101). -/
def execNodeReport (tag : Tag) (payload : List Byte) (s : State) : Result :=
  hostCommand 0x43 tag payload s (fun c => fixedLength 0 payload c (fun t => t.reply c .ok t.nodeReport false))

/-! ## NODE_HOLD (R142) -/

/-- A node number above 63 refuses the command with BAD_FIELD (R142, R143). -/
def nodeCommand (payload : List Byte) (c : Cmd) (body : Nat → State → State) (s : State) : State :=
  fixedLength 1 payload c (fun t => if rd8 payload 0 ≤ 63 then body (rd8 payload 0) t else t.refuse c .badField) s

/-- The reply carries the counts of the entries that the hold then removes; a HELD node is not held again. -/
def nodeHoldBody (c : Cmd) (n : Nat) (s : State) : State :=
  if s.heldNode n then s.reply c .ok (be16 0 ++ be8 0) false
  else
    (s.reply c .ok (be16 (s.heldClassEntries n).length ++ be8 (s.heldSpotEntries n).length) false).holdNode n .command

/-- NODE_HOLD (R142). -/
def execNodeHold (tag : Tag) (payload : List Byte) (s : State) : Result :=
  hostCommand 0x44 tag payload s (fun c => nodeCommand payload c (nodeHoldBody c))

/-! ## NODE_RELEASE (R143) -/

/-- ACTIVE at level 0 with both counts 0 and past next-eligible. -/
def Node.released (x : Node) : Node :=
  { x with state := .active, level := 0, fails := 0, successes := 0, nextEligible := 0, waitPending := false }

def nodeReleaseBody (c : Cmd) (n : Nat) (s : State) : State :=
  ((s.reply c .ok (be8 (s.node n).state.byte) false).setNode n (s.node n).released).startRun

/-- NODE_RELEASE (R143). -/
def execNodeRelease (tag : Tag) (payload : List Byte) (s : State) : Result :=
  hostCommand 0x45 tag payload s (fun c => nodeCommand payload c (nodeReleaseBody c))

end Sys2Proof.Machine
end

