-- ==== Sys2Proof/Machine/Dispatch.lean ====
section
/-! DEFINITION. The meaning of each row of the table. -/

namespace Sys2Proof.Machine

/-- The effect of a step on everything but the queue of pending steps. -/
def exec (i : Instr) (s : State) : Host.Outcome State Fault Refusal :=
  match i with
  | .circuitDefine tag payload => Sys2Proof.Machine.execCircuitDefine tag payload s
  | .circuitReport tag payload => Sys2Proof.Machine.execCircuitReport tag payload s
  | .circuitRetire tag payload => Sys2Proof.Machine.execCircuitRetire tag payload s
  | .circuitSuspend tag payload => Sys2Proof.Machine.execCircuitSuspend tag payload s
  | .circuitResume tag payload => Sys2Proof.Machine.execCircuitResume tag payload s
  | .circuitBaselineClear tag payload => Sys2Proof.Machine.execCircuitBaselineClear tag payload s
  | .engineEnable tag payload => Sys2Proof.Machine.execEngineEnable tag payload s
  | .engineDisable tag payload => Sys2Proof.Machine.execEngineDisable tag payload s
  | .engineCalibrate tag payload => Sys2Proof.Machine.execEngineCalibrate tag payload s
  | .engineReport tag payload => Sys2Proof.Machine.execEngineReport tag payload s
  | .campaignStart tag payload => Sys2Proof.Machine.execCampaignStart tag payload s
  | .campaignAdd tag payload => Sys2Proof.Machine.execCampaignAdd tag payload s
  | .campaignPause tag payload => Sys2Proof.Machine.execCampaignPause tag payload s
  | .campaignResume tag payload => Sys2Proof.Machine.execCampaignResume tag payload s
  | .campaignCancel tag payload => Sys2Proof.Machine.execCampaignCancel tag payload s
  | .campaignAbort tag payload => Sys2Proof.Machine.execCampaignAbort tag payload s
  | .campaignReport tag payload => Sys2Proof.Machine.execCampaignReport tag payload s
  | .classSet tag payload => Sys2Proof.Machine.execClassSet tag payload s
  | .probeCircuit tag payload => Sys2Proof.Machine.execProbeCircuit tag payload s
  | .pointSet tag payload => Sys2Proof.Machine.execPointSet tag payload s
  | .pointReport tag payload => Sys2Proof.Machine.execPointReport tag payload s
  | .nodeSet tag payload => Sys2Proof.Machine.execNodeSet tag payload s
  | .nodeReport tag payload => Sys2Proof.Machine.execNodeReport tag payload s
  | .nodeHold tag payload => Sys2Proof.Machine.execNodeHold tag payload s
  | .nodeRelease tag payload => Sys2Proof.Machine.execNodeRelease tag payload s
  | .releaseRetry tag payload => Sys2Proof.Machine.execReleaseRetry tag payload s
  | .openLoopClear tag payload => Sys2Proof.Machine.execOpenLoopClear tag payload s
  | .openLoopReport tag payload => Sys2Proof.Machine.execOpenLoopReport tag payload s
  | .matrixSet tag payload => Sys2Proof.Machine.execMatrixSet tag payload s
  | .matrixResync tag payload => Sys2Proof.Machine.execMatrixResync tag payload s
  | .deviceStatus tag payload => Sys2Proof.Machine.execDeviceStatus tag payload s
  | .deviceReset tag payload => Sys2Proof.Machine.execDeviceReset tag payload s
  | .unknownCommand kind code tag payload => Sys2Proof.Machine.execUnknownCommand kind code tag payload s
  | .coldReset strapA strapB => Sys2Proof.Machine.execColdReset strapA strapB s
  | .frameReceived bytes => Sys2Proof.Machine.execFrameReceived bytes s
  | .lineError => Sys2Proof.Machine.execLineError s
  | .frameGap => Sys2Proof.Machine.execFrameGap s
  | .recordSent => Sys2Proof.Machine.execRecordSent s
  | .ready => Sys2Proof.Machine.execReady s
  | .timeBaseTick lanes => Sys2Proof.Machine.execTimeBaseTick lanes s
  | .arbiterRun => Sys2Proof.Machine.execArbiterRun s
  | .requestSent => Sys2Proof.Machine.execRequestSent s
  | .matrixAnswer bytes => Sys2Proof.Machine.execMatrixAnswer bytes s
  | .matrixAnswerGap => Sys2Proof.Machine.execMatrixAnswerGap s
  | .matrixTimeout => Sys2Proof.Machine.execMatrixTimeout s
  | .settleEnd ev => Sys2Proof.Machine.execSettleEnd ev s
  | .loopConfirmed engine => Sys2Proof.Machine.execLoopConfirmed engine s
  | .loopUpTimeout engine => Sys2Proof.Machine.execLoopUpTimeout engine s
  | .retrySpacingEnd engine => Sys2Proof.Machine.execRetrySpacingEnd engine s
  | .aisRaised engine => Sys2Proof.Machine.execAisRaised engine s
  | .signalDropout engine => Sys2Proof.Machine.execSignalDropout engine s
  | .checkerSyncGain engine rx moment => Sys2Proof.Machine.execCheckerSyncGain engine rx moment s
  | .syncLoss ev rx => Sys2Proof.Machine.execSyncLoss ev rx s
  | .marker engine => Sys2Proof.Machine.execMarker engine s
  | .delayWordFound engine rx moment => Sys2Proof.Machine.execDelayWordFound engine rx moment s
  | .delayWordTimeout ev => Sys2Proof.Machine.execDelayWordTimeout ev s
  | .calibrationLimit engine => Sys2Proof.Machine.execCalibrationLimit engine s
  | .soakTimeEnd engine => Sys2Proof.Machine.execSoakTimeEnd engine s
  | .releaseHoldEnd engine => Sys2Proof.Machine.execReleaseHoldEnd engine s
  | .releaseCheckEnd engine => Sys2Proof.Machine.execReleaseCheckEnd engine s
  | .courtesyHoldEnd engine => Sys2Proof.Machine.execCourtesyHoldEnd engine s
  | .creditAccrual cls => Sys2Proof.Machine.execCreditAccrual cls s
  | .deadlineExpiry => Sys2Proof.Machine.execDeadlineExpiry s
  | .nextEligibleReached node => Sys2Proof.Machine.execNextEligibleReached node s

end Sys2Proof.Machine
end

