-- ==== Sys2Proof/WellFormed.lean ====
section
/-! DEFINITION. Which steps the world outside can offer. `exec` answers on every step; this says which operands
respect the widths of the links and lanes. -/

namespace Sys2Proof

/-- The largest payload is 1,013 bytes (section 11.2). -/
def payloadFits (payload : List Byte) : Bool := payload.length ≤ 1013

/-- No more bits than a full window holds (R35). -/
def rxFits (rx : List Bool) : Bool := rx.length ≤ Config.windowBits

/-- What a lane can take in in 1 ms (R35). -/
def LaneInput.wf (l : LaneInput) : Bool := rxFits l.rx

/-- A moment between two ticks, in bit periods from the first (log 6). -/
def momentFits (moment : Nat) : Bool := moment < Config.windowBits

/-- The well-formed steps. -/
def Instr.wf : Instr → Bool
  | .circuitDefine _ p | .circuitReport _ p | .circuitRetire _ p | .circuitSuspend _ p | .circuitResume _ p
  | .circuitBaselineClear _ p | .engineEnable _ p | .engineDisable _ p | .engineCalibrate _ p | .engineReport _ p
  | .campaignStart _ p | .campaignAdd _ p | .campaignPause _ p | .campaignResume _ p | .campaignCancel _ p
  | .campaignAbort _ p | .campaignReport _ p | .classSet _ p | .probeCircuit _ p | .pointSet _ p | .pointReport _ p
  | .nodeSet _ p | .nodeReport _ p | .nodeHold _ p | .nodeRelease _ p | .releaseRetry _ p | .openLoopClear _ p
  | .openLoopReport _ p | .matrixSet _ p | .matrixResync _ p | .deviceStatus _ p | .deviceReset _ p => payloadFits p
  | .unknownCommand kind code _ p => payloadFits p && (kind != 1 || !knownCode code)
  | .timeBaseTick lanes => lanes.toList.all LaneInput.wf
  | .checkerSyncGain _ rx moment | .delayWordFound _ rx moment => rxFits rx && momentFits moment
  | .syncLoss ev rx => rxFits rx && momentFits ev.moment
  | .settleEnd ev | .delayWordTimeout ev => momentFits ev.moment
  | .coldReset _ _ | .frameReceived _ | .lineError | .frameGap | .recordSent | .ready | .arbiterRun | .requestSent
  | .matrixAnswer _ | .matrixAnswerGap | .matrixTimeout | .loopConfirmed _ | .loopUpTimeout _
  | .retrySpacingEnd _ | .aisRaised _ | .signalDropout _ | .marker _ | .calibrationLimit _
  | .soakTimeEnd _ | .releaseHoldEnd _ | .releaseCheckEnd _ | .courtesyHoldEnd _ | .creditAccrual _
  | .deadlineExpiry | .nextEligibleReached _ => true

end Sys2Proof
end

