-- ==== Sys2Proof/Safety.lean ====
section
/-! DEFINITION. Runs in which no moment of the part is passed over (log 3), and the invariants of the state. -/

namespace Sys2Proof.Machine

def onlyIf (b : Bool) (c : Instr) : List Instr := if b then [c] else []

/-- The moments of one engine that have come. -/
def State.engineDue (s : State) (e : Fin 16) : List Instr :=
  let g := s.engine e.val
  onlyIf (reached g.settleUntil s.now) (.settleEnd ⟨e, s.laneTime⟩) ++ onlyIf g.confirmDue (.loopConfirmed e) ++
    onlyIf (g.phaseDue .loopUp (fun x => x.timing.loopUpTimeout)) (.loopUpTimeout e) ++
    onlyIf (g.phaseDue .retryWait (fun x => x.timing.retrySpacing)) (.retrySpacingEnd e) ++
    onlyIf (s.aisDue e.val) (.aisRaised e) ++ onlyIf (s.dropoutDue e.val) (.signalDropout e) ++
    onlyIf g.lane.checker.gain (.checkerSyncGain e [] s.laneTime) ++ onlyIf g.markerDue (.marker e) ++
    onlyIf (s.wordOverdue e.val) (.delayWordTimeout ⟨e, s.laneTime⟩) ++ onlyIf (reached g.limitUntil s.now) (.calibrationLimit e) ++
    onlyIf (g.phaseDue .soak (fun x => 1000 * x.soakTime)) (.soakTimeEnd e) ++
    onlyIf (g.checkFrom.isNone && g.phaseDue .loopDown (fun x => x.timing.releaseHold)) (.releaseHoldEnd e) ++
    onlyIf (g.checkDue s.now) (.releaseCheckEnd e) ++
    onlyIf (g.phaseDue .courtesyRelease (fun x => x.timing.releaseHold)) (.courtesyHoldEnd e)

/-- The moments that have come and have not been taken, the taking of a frame among them (R171). -/
def State.due (s : State) : List Instr :=
  s.headDue.toList ++ onlyIf s.runDue .arbiterRun ++ onlyIf s.readyDue .ready ++ onlyIf s.timeoutDue .matrixTimeout ++
    onlyIf s.answerGapDue .matrixAnswerGap ++ onlyIf s.frameGapDue .frameGap ++ onlyIf s.deadlineDue .deadlineExpiry ++
    (List.finRange 4).flatMap (fun k => onlyIf (s.accrualDue k.val) (.creditAccrual k)) ++
    (List.finRange 64).flatMap (fun n => onlyIf (s.eligibleDue n.val) (.nextEligibleReached n)) ++
    (List.finRange 16).flatMap s.engineDue

/-- The moment to which a step moves the lanes (log 6). -/
def laneMoment : Instr → Option Nat
  | .settleEnd ev => some ev.moment
  | .checkerSyncGain _ _ m => some m
  | .syncLoss ev _ => some ev.moment
  | .delayWordFound _ _ m => some m
  | .delayWordTimeout ev => some ev.moment
  | .timeBaseTick _ => some Config.windowBits
  | _ => none

/-- The end of a settle time of 0, which falls at a moment that the answer before it does not carry. -/
def settles : Instr → Bool
  | .settleEnd _ => true
  | _ => false

/-- A step that moves the lanes on finds no moment left to take; a settle time of 0 may still end in the same ms. -/
def State.lanesOnTime (s : State) (c : Instr) : Prop :=
  match laneMoment c with
  | none => True
  | some m => s.laneTime < m → s.due.all (fun d => settles d && decide (m < Config.windowBits)) = true

/-- The command handler takes the head frame whenever it can be taken (R171): before anything else happens, but for
another moment that has come with it, and before the next byte of a line. -/
def State.handlerOnTime (s : State) (c : Instr) : Prop :=
  (s.headDue = none ∨ c ∈ s.due) ∧
    match c with
    | .frameReceived bytes => ∀ k, k < bytes.length → ((bytes.take k).foldl State.linkByte s).headDue = none
    | _ => True

/-- The step passes over no moment of the part. -/
def State.onTime (s : State) (c : Instr) : Prop := s.lanesOnTime c ∧ s.handlerOnTime c

/-- A run in which no moment of the part is passed over. -/
def timely : List Instr → State → Prop
  | [], _ => True
  | c :: rest, s =>
    s.onTime c ∧
      match exec c s with
      | .next t => timely rest t
      | .fault _ => False
      | .refused _ => False

/-! ## Commands that are taken (R171) -/

/-- The command at the head of the receive buffer can be taken; `rest` waits behind it. -/
def State.Takes (s : State) (code : Byte) (tag : Tag) (payload : List Byte) (rest : List Frame) : Prop :=
  s.mli.startup = none ∧ s.mli.tx.length < 56 ∧ s.mli.rxBuffer = ⟨kindCommand, code, tag, payload⟩ :: rest

/-- The reply to a command as it stands in the transmit queue. -/
def replyTo (code : Byte) (tag : Tag) (st : Status) (clamped : Bool) (payload : List Byte) : TxRecord :=
  ⟨.reply, code, tag, st, clamped, false, payload, none⟩

/-- The command has left the receive buffer. -/
def State.taken (s : State) (rest : List Frame) : State := { s with mli := { s.mli with rxBuffer := rest } }

/-- The command has left the receive buffer and its immediate reply has joined the transmit queue; nothing else has
changed. -/
def State.answered (s : State) (rest : List Frame) (r : TxRecord) : State :=
  { s with mli := { s.mli with rxBuffer := rest, tx := s.mli.tx ++ [r] } }

/-! ## What an event of one engine leaves alone -/

/-- Every other engine keeps its state, context, record, offset and indication; only a follower's lane may change. -/
def State.OnlyEngine (s t : State) (e : Nat) : Prop :=
  ∀ d, d ≠ e →
    (t.engine d).state = (s.engine d).state ∧ (t.engine d).context = (s.engine d).context ∧
    (t.engine d).meas = (s.engine d).meas ∧ (t.engine d).localOffset = (s.engine d).localOffset ∧
    (t.engine d).disablePending = (s.engine d).disablePending ∧
    (d ≠ e + 1 ∨ (s.engine e).wide = false → t.engine d = s.engine d)

/-- A request joins the tail of the matrix FIFO, or is current at once when nothing is current and nothing waits (R158,
R159). -/
def State.Asks (s t : State) (r : Request) : Prop :=
  (s.amc.current ≠ none → t.amc = { s.amc with fifo := s.amc.fifo ++ [r] }) ∧
    (s.amc.current = none → s.amc.fifo = [] →
      t.amc = { s.amc with
        current := some ⟨r, s.amc.nextSeq, s.amc.timeout, none⟩, nextSeq := (s.amc.nextSeq + 1) % 256 })

/-! ## Invariants -/

/-- R170, R179, R157, R162, R183: the receive buffer, the link counters and the matrix settings in their ranges. -/
def LinksInRange (s : State) : Prop :=
  s.mli.rxBuffer.length ≤ 4 ∧ s.mli.frameErrors ≤ 65535 ∧ s.mli.overruns ≤ 65535 ∧ s.mli.dropped ≤ 65535 ∧
    s.amc.lateAnswers ≤ 65535 ∧ s.amc.nextSeq ≤ 255 ∧ 100 ≤ s.amc.timeout ∧ s.amc.timeout ≤ 10000 ∧
    s.amc.settle ≤ 1000 ∧ s.amc.rx.length ≤ 6

/-- R119, R120: a class's interval, quota, credits and timer. -/
def PacingClass.inRange (k : PacingClass) : Prop :=
  1 ≤ k.interval ∧ k.interval ≤ 60000 ∧ 1 ≤ k.quota ∧ k.quota ≤ 32 ∧ k.credits ≤ k.quota ∧ k.timer ≤ k.interval

def ClassesInRange (s : State) : Prop := ∀ k, k < 4 → (s.cls k).inRange

/-- R98, R135: the ranges of a node's fields, but for its occupancy. -/
def Node.inRange (x : Node) : Prop :=
  1 ≤ x.limit ∧ x.limit ≤ 8 ∧ x.level ≤ 4 ∧ x.fails ≤ 1 ∧ x.successes ≤ 15 ∧
    (x.threshold = 1 ∨ x.threshold = 2 ∨ x.threshold = 4 ∨ x.threshold = 8 ∨ x.threshold = 16)

def NodesInRange (s : State) : Prop := ∀ n, n < 64 → (s.node n).inRange

/-- R131: the spot queue holds up to 8 entries. -/
def SpotInRange (s : State) : Prop := s.spot.length ≤ 8

/-- The deferred-reply slots whose replies stand in the transmit queue (R173). -/
def State.slotsInQueue (s : State) : List Nat := s.mli.tx.filterMap TxRecord.slot

/-- R173, R174: each deferred reply in the transmit queue has a held slot of its own whose reply is placed, and the other
records are at most 56. -/
def TransmitInRange (s : State) : Prop :=
  s.slotsInQueue.Nodup ∧ (∀ i ∈ s.slotsInQueue, ∃ d, s.slot i = some d ∧ d.placed = true) ∧
    s.mli.tx.length ≤ 56 + s.slotsInQueue.length

/-! ## What the tables say of one another -/

/-- A spot probe entry of a circuit. -/
def SpotEntry.probes (x : SpotEntry) (c : Nat) : Bool :=
  match x with
  | .probe d _ => d == c
  | .releaseOnly _ => false
  | .calibration _ _ => false

/-- The probe in flight on an engine, if it is a circuit's, with the probe status it stands for. -/
def Engine.standsFor (g : Engine) (c : Nat) : Option ProbeStatus :=
  if g.state.inFlight && g.context.bind Context.circuit == some c then
    some (if g.kind? = some .spot then .spot else .active)
  else none

/-- Every place that holds a circuit, with the probe status it stands for: class entries, waiting spot probe entries,
probes in flight, open loop entries (R10). -/
def State.holdings (s : State) (c : Nat) : List ProbeStatus :=
  List.replicate (s.queuedCircuits.count c) .queued ++ List.replicate (s.spot.countP (fun x => x.probes c)) .spot ++
    s.engines.toList.filterMap (fun g => g.standsFor c) ++
    List.replicate (s.openLoops.countP (fun o => o.circuit == c)) .openLoop

/-- R10, R118: a circuit is held in one place, and its probe status names it, or in none, and it is IDLE. A VACANT record
is IDLE. The record names a class and a point that exist (R4). -/
def CircuitsAccounted (s : State) : Prop :=
  ∀ c, s.holdings c = (if (s.circuit c).status = .idle then [] else [(s.circuit c).status]) ∧
    ((s.circuit c).defState = .vacant → (s.circuit c).status = .idle) ∧ (s.circuit c).definition.pacingClass < 4 ∧
    (s.circuit c).definition.accessPoint < 256

/-- The probe in flight on an engine has this far node. -/
def Engine.fliesTo (g : Engine) (n : Nat) : Bool := g.state.inFlight && g.context.bind Context.farNode == some n

/-- R99, R147: a node's occupancy is the number of its probes in flight and its open loop entries; all of them together
are at most 64. -/
def SlotsAccounted (s : State) : Prop :=
  (∀ n, n < 64 → (s.node n).occupancy = s.engines.toList.countP (fun g => g.fliesTo n) + s.openLoopsAt n) ∧
    s.probesInFlight + s.openLoops.length ≤ 64 ∧ ∀ o ∈ s.openLoops, o.accessPoint < 256

/-- The engine works on a probe that names the point. -/
def Engine.worksAt (g : Engine) (p : Nat) : Prop :=
  ∃ x, g.context = some x ∧ x.kind ≠ .calibration ∧ x.accessPoint = some p

/-- R94: a locked point is owned by the engine whose probe names it, or by a quarantined one; an engine with a probe owns
its point. -/
def LocksAccounted (s : State) : Prop :=
  (∀ p e, p < 256 → (s.point p).owner = some e →
    e < 16 ∧ ((s.engine e).state = .quarantined ∨ (s.engine e).worksAt p)) ∧
  ∀ e x, e < 16 → (s.engine e).context = some x → x.kind ≠ .calibration →
    ∃ p, p < 256 ∧ x.accessPoint = some p ∧ (s.point p).owner = some e

/-- R23, R29, R40: an engine has a context while it leads or calibrates, of the kind its state asks for, and no moment of
a phase it is not in; a calibration is on its own lane alone; a probe in flight has its circuit and node, and neither of
the outcomes that end it. -/
def Engine.sound (g : Engine) : Prop :=
  (g.context = none ↔ g.state = .idle ∨ g.state = .offline ∨ g.state = .quarantined ∨ g.state = .following) ∧
    (g.state = .calibrating → g.kind? = some .calibration) ∧
    (∀ x, g.context = some x → x.kind = .calibration → x.rate = .base) ∧
    (g.settleUntil ≠ none → g.state = .connecting ∨ g.state = .calibrating) ∧
    (g.checkFrom ≠ none → g.state = .loopDown) ∧ (g.limitUntil ≠ none → g.state = .calibrating) ∧
    (g.state.inFlight = true → ∀ x, g.context = some x → x.kind ≠ .calibration ∧ x.circuit ≠ none ∧ x.farNode ≠ none ∧
      .blocked ∉ x.outcomes ∧ .stuckLoop ∉ x.outcomes)

/-- R25, R26: the engine of a WIDE context is even and its partner FOLLOWING; a FOLLOWING engine is odd and its partner
leads a WIDE context. -/
def EnginesAccounted (s : State) : Prop :=
  ∀ e, e < 16 → (s.engine e).sound ∧
    ((s.engine e).wide = true → e % 2 = 0 ∧ (s.engine (e + 1)).state = .following) ∧
    ((s.engine e).state = .following → e % 2 = 1 ∧ (s.engine (e - 1)).wide = true)

/-- R39: a calibration entry of the spot queue is pinned to an engine that exists. -/
def PinsAccounted (s : State) : Prop := ∀ e i, SpotEntry.calibration e i ∈ s.spot → e < 16

/-- The current request and those that wait (R158). -/
def State.requests (s : State) : List Request := (s.amc.current.map CurrentRequest.request).toList ++ s.amc.fifo

def Request.engine? (r : Request) : Option Nat :=
  match r.requester with
  | .engine e => some e
  | .resync _ => none
  | .reset => none

/-- What an engine does while its request is not complete (R47, R40, R65). -/
def Engine.awaits (g : Engine) : MatrixOp → Prop
  | .connect => g.state = .connecting ∧ g.settleUntil = none
  | .loopPort => g.state = .calibrating ∧ g.settleUntil = none ∧ g.limitUntil = none ∧ g.lane.wordDet.search = none
  | .disconnect => g.state = .disconnecting
  | .resetAll => False

/-- R158, R160: an engine has at most one request, and waits for it. -/
def RequestsAccounted (s : State) : Prop :=
  (s.requests.filterMap Request.engine?).Nodup ∧
    ∀ r ∈ s.requests, ∀ e, r.engine? = some e → e < 16 ∧ (s.engine e).awaits r.op

/-- The tables agree with one another: circuits and queues, nodes and loops, points and engines, pinned entries, engines
and requests. -/
def Accounted (s : State) : Prop :=
  CircuitsAccounted s ∧ SlotsAccounted s ∧ LocksAccounted s ∧ EnginesAccounted s ∧ PinsAccounted s ∧
    RequestsAccounted s

end Sys2Proof.Machine
end

