-- ==== Sys2Proof/Certificates/Slice0/Obligations.lean ====
section
/-! DEFINITION. The statements for the provers. -/

open Sys2Proof Sys2Proof.Machine

/-! ## The queue of steps -/

/-- A step is the exec of the command at the front of the queue, on the state with the queue's rest. -/
def Obligations.StepRunsFrontCommand : Prop :=
  ∀ (c : Instr) (rest : List Instr) (s : State), s.pending = c :: rest → step s = exec c { s with pending := rest }

/-- Every command and event, in every state, answers a next state, and leaves the queue of steps as it was. That one whose
condition does not hold answers a next state too is the model's choice (log 2); on an empty queue the part idles (the
model's choice, log 1). -/
def Obligations.EveryCommandAnswersNext : Prop :=
  (∀ (c : Instr) (s : State), ∃ t, exec c s = .next t ∧ t.pending = s.pending) ∧
    ∀ s : State, s.pending = [] → step s = .next s

/-! ## Reset -/

/-- COLD_RESET: the circuit table, the engines, the arbiter's tables, the campaign controller with every selection window
off, and the open loop list take their cold-reset values; the time base stands at 0, the straps give the line rate, both
links start over, and the RESET_ALL of the reset is current with sequence number 0, the next number being 1. -/
def Obligations.ColdResetSetsEverything : Prop :=
  ∀ (a b : Bool) (s : State), ∃ t, exec (.coldReset a b) s = .next t ∧ t.pending = s.pending ∧
    (∀ c, c < 2048 → t.circuit c = ⟨.vacant, .idle, Definition.vacant, none, none, none⟩) ∧
    (∀ e, e < 16 → (t.engine e).state = .idle ∧ (t.engine e).disablePending = false ∧ (t.engine e).localOffset = 0 ∧
      (t.engine e).context = none ∧ (t.engine e).meas = ⟨0, 0, 0, 0, 0, none, 0, 0⟩) ∧
    t.priorityTurn = 1 ∧ t.standardTurn = 3 ∧
    (∀ p, p < 256 → t.point p = ⟨.inService, none⟩) ∧
    (∀ n, n < 64 → (t.node n).state = .active ∧ (t.node n).limit = 2 ∧ (t.node n).occupancy = 0 ∧ (t.node n).level = 0 ∧
      (t.node n).fails = 0 ∧ (t.node n).successes = 0 ∧ (t.node n).threshold = 4 ∧ (t.node n).autoHold = false ∧
      (t.node n).nextEligible = 0) ∧
    t.campaign.state = .idle ∧ t.campaign.number = 0 ∧ t.campaign.nextNumber = 1 ∧ t.campaign.kind = .verify ∧
    t.campaign.deadline = none ∧ t.campaign.endCause = .none ∧ t.campaign.inFlight = 0 ∧
    t.campaign.summary = Summary.zero ∧
    t.campaign.params = ⟨⟨500, 3000, 3, 1000, 1000, 200, 5⟩, 20, 15, 30, 0, .nonPass, 0⟩ ∧
    t.campaign.selection.spans = [] ∧ t.campaign.selection.nodes = [] ∧ t.campaign.selection.windows.length = 4 ∧
    (∀ w ∈ t.campaign.selection.windows, w.limit < w.base) ∧
    t.classes = #v[⟨250, 8, 0, 0, []⟩, ⟨500, 4, 0, 0, []⟩, ⟨1000, 4, 0, 0, []⟩, ⟨2000, 2, 0, 0, []⟩] ∧
    t.spot = [] ∧ t.openLoops = [] ∧ t.now = 0 ∧
    t.lineRate = (match a, b with
      | false, false => .baud115200
      | true, false => .baud460800
      | false, true => .baud921600
      | true, true => .baud3000000) ∧
    t.amc.fifo = [] ∧ (∃ q, t.amc.current = some q ∧ q.request = ⟨.resetAll, none, none, .reset⟩ ∧ q.seq = 0 ∧ q.timeout = 2000) ∧
    t.amc.nextSeq = 1 ∧ t.amc.link = .unsynced ∧ t.amc.timeout = 2000 ∧ t.amc.settle = 50 ∧ t.amc.lateAnswers = 0 ∧ t.amc.rx = [] ∧
    t.mli.receiver = .hunt ∧ t.mli.rxBuffer = [] ∧ t.mli.tx = [] ∧ (∀ i, t.slot i = none) ∧ t.mli.frameErrors = 0 ∧
    t.mli.overruns = 0 ∧ t.mli.dropped = 0 ∧ t.mli.startup = some ⟨.cold, 0, none⟩

/-- The machine right after reset meets every invariant stated below. -/
def Obligations.ResetMeetsTheInvariants : Prop :=
  LinksInRange State.reset ∧ ClassesInRange State.reset ∧ NodesInRange State.reset ∧ SpotInRange State.reset ∧
    TransmitInRange State.reset ∧ Accounted State.reset

/-! ## Invariants that every step keeps -/

/-- The receive buffer holds at most four frames, the link counters hold at 65535, the sequence number and the matrix
timings stay in their ranges. -/
def Obligations.LinksStayInRange : Prop := ∀ s t : State, LinksInRange s → step s = .next t → LinksInRange t

/-- A class's credits always lie between 0 and its quota, its interval and quota in their ranges. -/
def Obligations.CreditsStayWithinQuota : Prop := ∀ s t : State, ClassesInRange s → step s = .next t → ClassesInRange t

/-- A node's backoff level always lies between 0 and 4, and its other fields in their ranges. -/
def Obligations.BackoffStaysInRange : Prop := ∀ s t : State, NodesInRange s → step s = .next t → NodesInRange t

/-- The spot queue never holds more than 8 entries. -/
def Obligations.SpotQueueStaysInRange : Prop := ∀ s t : State, SpotInRange s → step s = .next t → SpotInRange t

/-- Replies other than deferred ones and notices together never exceed 56, and each deferred reply in the queue has a
held slot of its own; so the queue never holds more than 64 records. -/
def Obligations.TransmitQueueStaysInRange : Prop :=
  (∀ s t : State, TransmitInRange s → step s = .next t → TransmitInRange t) ∧
    ∀ s : State, TransmitInRange s → s.mli.tx.length ≤ 64

/-- The tables keep agreeing with one another: each circuit's probe status names the one place that holds it; each node's
occupancy is its probes in flight and its open loops, all of them at most 64; each locked point is owned by the engine
whose probe names it or by a quarantined one; contexts, pairs and matrix requests fit the engines' states, and each
calibration entry of the spot queue names an engine. -/
def Obligations.TablesStayAccounted : Prop := ∀ s t : State, Accounted s → step s = .next t → Accounted t

/-! ## Reports (R20, R42, R97, R101, R129, R154, R175) -/

/-- POINT_REPORT replies OK at once with all 256 entries in ascending order, each its service state and its lock owner
(0xFF none), and changes no state; it carries no field. -/
def Obligations.PointReportReadsThePoints : Prop :=
  ∀ (tag : Tag) (rest : List Frame) (s : State),
    (s.Takes 0x41 tag [] rest →
      exec (.pointReport tag []) s = .next (s.answered rest (replyTo 0x41 tag .ok false
        ((List.range 256).flatMap (fun p =>
          [if (s.point p).service = .inService then 0x00#8 else 0x01#8, BitVec.ofNat 8 ((s.point p).owner.getD 0xFF)]))))) ∧
    (∀ payload, payload ≠ [] → s.Takes 0x41 tag payload rest →
      exec (.pointReport tag payload) s = .next (s.answered rest (replyTo 0x41 tag .badLength false [])))

/-- The other reports reply OK at once in any state and change nothing: NODE_REPORT, CAMPAIGN_REPORT, OPEN_LOOP_REPORT and
DEVICE_STATUS, and ENGINE_REPORT of an engine up to 15 and CIRCUIT_REPORT of a range that passes the check, each with the
payload of sections 11.4 and 11.5 field by field; a number above 15 is refused with BAD_FIELD. What an engine without a
context reports, the byte of disable pending and the bit of T's presence are the model's choice (log 28). -/
def Obligations.TableReportsChangeNothing : Prop :=
  (∀ (tag : Tag) (rest : List Frame) (s : State),
    (s.Takes 0x43 tag [] rest →
      exec (.nodeReport tag []) s = .next (s.answered rest (replyTo 0x43 tag .ok false
        ((List.range 64).flatMap (fun n =>
          [BitVec.ofNat 8 (if (s.node n).state = .active then 0 else 1), BitVec.ofNat 8 (s.node n).limit,
           BitVec.ofNat 8 (s.node n).occupancy, BitVec.ofNat 8 (s.openLoops.countP (fun o => o.farNode == n)),
           BitVec.ofNat 8 (s.node n).level, BitVec.ofNat 8 (s.node n).fails, BitVec.ofNat 8 (s.node n).successes,
           BitVec.ofNat 8 (s.node n).threshold, BitVec.ofNat 8 (if (s.node n).autoHold then 1 else 0)] ++
          msField ((s.node n).nextEligible - s.now)))))) ∧
    (s.Takes 0x36 tag [] rest →
      let k := s.campaign
      let q := k.params
      let m := k.summary
      let window (i : Nat) : Window := k.selection.windows.getD i ⟨1, 0⟩
      let payload : List Byte :=
        be8 k.state.byte ++ be16 k.number ++ be8 k.kind.byte ++ be8 k.endCause.byte ++
        (be16 q.timing.confirmTime ++ be16 q.timing.loopUpTimeout ++ be8 q.timing.loopAttempts ++
          be16 q.timing.retrySpacing ++ be16 q.timing.releaseHold ++ be16 q.timing.releaseCheck ++
          be8 q.timing.releaseAttempts ++ be16 q.shiftTolerance ++ be16 q.lossWarn ++ be16 q.lossFail ++ be8 q.cap ++
          be8 q.noticeMode.byte ++ be32 q.deadline) ++
        ((List.range 4).flatMap (fun i => be16 (window i).base ++ be16 (window i).limit) ++
          be8 k.selection.spans.length ++ (List.range 16).flatMap (fun i => be16 (k.selection.spans.getD i 0)) ++
          be8 k.selection.nodes.length ++ (List.range 64).flatMap (fun i => be8 (k.selection.nodes.getD i 0))) ++
        (match k.deadline with
          | some d => be32 (min (d - s.now) 4294967295)
          | none => be32 4294967295) ++
        (be32 m.selected ++ be32 m.added ++ be32 m.duplicates ++ be32 m.excluded ++ be32 m.launched ++
          m.grades.toList.flatMap be32 ++ m.notTested.toList.flatMap be32 ++
          be32 (s.classes.toList.map (fun c => c.queue.length)).sum ++ be32 k.inFlight) ++
        s.classes.toList.flatMap (fun c =>
          be16 c.interval ++ be8 c.quota ++ be8 c.credits ++ be16 c.timer ++ be16 c.queue.length) ++
        be8 s.spot.length
      exec (.campaignReport tag []) s = .next (s.answered rest (replyTo 0x36 tag .ok false payload)) ∧
        payload.length = 280) ∧
    (s.Takes 0x52 tag [] rest →
      exec (.openLoopReport tag []) s = .next (s.answered rest (replyTo 0x52 tag .ok false
        (be8 s.openLoops.length ++ timeField s.now ++ s.openLoops.flatMap (fun o =>
          be16 (o.circuit + if s.spot.contains (SpotEntry.releaseOnly o.circuit) then 32768 else 0) ++
          be8 o.farNode ++ be8 o.accessPoint ++ be8 o.releaseTotal ++ be8 o.activate.length ++ be8 o.deactivate.length ++
          be16 (o.activate.pattern.toNat % 2 ^ o.activate.length) ++
          be16 (o.deactivate.pattern.toNat % 2 ^ o.deactivate.length) ++ msField (s.now - o.timeEntered)))))) ∧
    (s.Takes 0x70 tag [] rest →
      let payload : List Byte :=
        be8 s.campaign.state.byte ++ be16 s.campaign.number ++
        (List.range 16).flatMap (fun e => be8 ((s.engine e).state.byte + if (s.engine e).disablePending then 128 else 0)) ++
        be8 (if s.amc.link = .synced then 1 else 0) ++
        be8 (s.amc.fifo.length + if s.amc.current.isSome then 1 else 0) ++ be8 s.openLoops.length ++
        be8 s.mli.tx.length ++ be8 (s.mli.slots.toList.countP Option.isSome) ++
        be16 s.mli.frameErrors ++ be16 s.mli.overruns ++ be16 s.amc.lateAnswers ++ be16 s.mli.dropped
      exec (.deviceStatus tag []) s = .next (s.answered rest (replyTo 0x70 tag .ok false payload)) ∧
        payload.length = 32)) ∧
  (∀ (tag : Tag) (e : Byte) (rest : List Frame) (s : State), s.Takes 0x23 tag [e] rest →
    (e.toNat ≤ 15 →
      let g := s.engine e.toNat
      let m := g.meas
      let ofContext (f : Context → Nat) : Nat := match g.context with
        | some x => f x
        | none => 0
      let payload : List Byte :=
        be8 g.state.byte ++ be8 (if g.disablePending then 1 else 0) ++ be16 g.localOffset ++
        be8 (ofContext (fun x => match x.kind with
          | .campaign => 1
          | .spot => 2
          | .releaseOnly => 3
          | .calibration => 4)) ++
        be16 (ofContext Context.campaignNumber) ++
        (match g.context.bind Context.circuit with
          | some c => be16 c
          | none => [0xFF, 0xFF]) ++
        (if g.state = .following then be8 (partner e.toNat) else [0xFF]) ++
        be8 (ofContext Context.loopAttempts) ++ be8 (ofContext Context.releaseAttempts) ++
        be32 (min (ofContext Context.phaseTimer) 4294967295) ++
        be48 m.bitsB ++ be32 m.errorsE ++ be8 m.hitsH ++ be8 m.expectedX ++ be8 m.lossesK ++
        (match m.ticksT with
          | some k => be8 1 ++ be24 k
          | none => [0, 0, 0, 0]) ++ beS32 m.levelS ++ be32 m.samplesN
      exec (.engineReport tag [e]) s = .next (s.answered rest (replyTo 0x23 tag .ok false payload)) ∧
        payload.length = 41) ∧
    (15 < e.toNat →
      exec (.engineReport tag [e]) s = .next (s.answered rest (replyTo 0x23 tag .badField false [])))) ∧
  (∀ (tag : Tag) (payload : List Byte) (rest : List Frame) (s : State), s.Takes 0x11 tag payload rest →
    payload.length = 3 → 1 ≤ rd8 payload 2 → rd8 payload 2 ≤ 16 → rd16 payload 0 + rd8 payload 2 ≤ 2048 →
    let present (b : Bool) (i : Nat) : Nat := if b then 2 ^ i else 0
    let code (c : Code) : List Byte := be8 c.length ++ be16 (c.pattern.toNat % 2 ^ c.length)
    let verdict (v : Verdict) : List Byte :=
      be8 v.grade.byte ++ be8 (present v.delayDn.isSome 0 + present v.levelLm.isSome 1) ++
      be16 (present v.flags.markersMissed 0 + present v.flags.berShort 1 + present v.flags.routeShift 2 +
        present v.flags.delayUnmeasured 3 + present v.flags.lossRise 4 + present v.flags.levelRise 5 +
        present v.flags.levelUnmeasured 6 + present v.flags.soakShortened 7 + present v.flags.manual 8) ++
      be16 v.campaignNumber ++ be8 (v.engine.getD 0xFF) ++ be8 v.loopAttempts ++ be8 v.releaseAttempts ++
      be48 v.bitsB ++ be32 v.errorsE ++ be32 v.payloadP ++ be8 v.hitsH ++ be8 v.expectedX ++ be8 v.lossesK ++
      be16 (v.delayDn.getD 0) ++ beS16 (v.levelLm.getD 0)
    let record (r : Circuit) : List Byte :=
      let d := r.definition
      let spans := (List.range 8).foldl (fun acc i => acc * 512 + (d.segments.getD i 0) % 512) 0
      be8 (r.defState.byte + r.status.byte * 4 + d.rate.byte * 32) ++
      be8 (present r.baseDelay.isSome 0 + present r.baseLevel.isSome 1 + present r.last.isSome 2) ++
      be8 d.accessPoint ++ be8 (d.farNode + d.pacingClass * 64) ++ (code d.activate ++ code d.deactivate) ++
      be8 (d.exponent * 16 + d.markers) ++ be16 d.soakTime ++ be16 d.windowLow ++ be16 d.windowHigh ++
      beS16 d.minLevel ++ be8 d.segments.length ++
      (be8 (spans / 2 ^ 64) ++ be32 (spans / 2 ^ 32) ++ be32 spans) ++
      be16 (r.baseDelay.getD 0) ++ beS16 (r.baseLevel.getD 0) ++
      (match r.last with
        | some v => verdict v
        | none => List.replicate 30 0)
    exec (.circuitReport tag payload) s = .next (s.answered rest (replyTo 0x11 tag .ok false
      (be8 (rd8 payload 2) ++ be8 0 ++
        (List.range (rd8 payload 2)).flatMap (fun k => record (s.circuit (rd16 payload 0 + k)))))) ∧
    ∀ c, (record (s.circuit c)).length = 63)

/-! ## What leaves a queue, and the campaign's end (R127, R128) -/

/-- The campaign's end condition, with the class queues as an event leaves them (R127). -/
def CampaignOver (s t : State) : Prop :=
  (s.campaign.state = .running ∨ s.campaign.state = .draining) ∧ (∀ k, k < 4 → (t.cls k).queue = []) ∧
    s.campaign.inFlight = 0

/-- An event that removed class entries tests the end condition: the campaign ends, or only its not-tested counts and its
queues have changed (R127). -/
def EndTested (s t : State) : Prop :=
  let counted : Summary := { s.campaign.summary with notTested := t.campaign.summary.notTested }
  (CampaignOver s t →
    t.campaign = { s.campaign with
      state := .idle, deadline := none, summary := counted
      endCause := if s.campaign.state = .draining then s.campaign.endCause else .completed } ∧
    ∀ k, k < 4 → t.cls k = { s.cls k with queue := (t.cls k).queue, credits := 0, timer := 0 }) ∧
  (¬CampaignOver s t →
    t.campaign = { s.campaign with summary := counted } ∧
    ∀ k, k < 4 → t.cls k = { s.cls k with queue := (t.cls k).queue })

/-- `n` entries have been counted not-tested under the reason in place `reason`, and under no other (R128). -/
def CountsNotTested (s t : State) (reason n : Nat) : Prop :=
  ∀ i : Fin 5, s.campaign.summary.notTested[i] ≤ 4294967295 → t.campaign.summary.notTested[i] =
    if i.val = reason then min (s.campaign.summary.notTested[i] + n) 4294967295 else s.campaign.summary.notTested[i]

/-- The CAMPAIGN_END notice of the campaign's record as it stands (R127, section 11.6). -/
def endRecord (t : State) : TxRecord :=
  ⟨.notice, 0x82, 0, .ok, false, false,
    be16 t.campaign.number ++ be8 t.campaign.kind.byte ++ be8 t.campaign.endCause.byte ++ t.summaryBlock, none⟩

/-- The deferred-reply slot that a spot queue entry answers. -/
def entrySlot : SpotEntry → Option Nat
  | .probe _ slot => slot
  | .releaseOnly _ => none
  | .calibration _ i => some i

/-- Each deferred entry of the spot queue has a held slot of its own that is not yet answered (R173). -/
def RepliesWait (s : State) : Prop :=
  (s.spot.filterMap entrySlot).Nodup ∧ ∀ i ∈ s.spot.filterMap entrySlot, ∃ d, s.slot i = some d ∧ d.placed = false

/-- How the host is answered for a spot queue entry that is removed before launch, with the status of the cause (R133, R152);
a calibration entry is removed as its engine goes OFFLINE (R28, R41). -/
def removedAnswer (s : State) (st : Status) : SpotEntry → List TxRecord
  | .probe c none => [⟨.notice, 0x81, 0, .ok, false, false, be16 c ++ be8 1 ++ be8 st.byte, none⟩]
  | .probe c (some i) => match s.slot i with
    | some d => [⟨.reply, d.code, d.tag, st, false, false, be16 c, some i⟩]
    | none => []
  | .releaseOnly c => [⟨.notice, 0x81, 0, .ok, false, false, be16 c ++ be8 1 ++ be8 st.byte, none⟩]
  | .calibration e i => match s.slot i with
    | some d => [⟨.reply, d.code, d.tag, .calFailed, false, false,
        be8 e ++ [0, 0, 0, 0] ++ be16 (s.engine e).localOffset ++ be8 EngineState.offline.byte, some i⟩]
    | none => []

/-- What a hold of node `n` does beside the node's own state: the class entries and the spot probe and release-only entries at
the node leave, their circuits IDLE but for a release-only entry's, each class entry counted HELD, and the end condition tested
if one left (R140). `first` stands before the answers, the NODE_HOLD notice behind them. -/
def HoldTakesTheWork (s t : State) (n : Nat) (first : List TxRecord) (hold : TxRecord) : Prop :=
  let here (c : Nat) : Bool := (s.circuit c).definition.farNode == n
  let spotHere (y : SpotEntry) : Bool := match y with
    | .probe c _ => here c
    | .releaseOnly c => here c
    | .calibration _ _ => false
  let left := s.queuedCircuits.countP here
  (∀ k, k < 4 → (t.cls k).queue = (s.cls k).queue.filter (fun c => !here c)) ∧
  t.spot = s.spot.filter (fun y => !spotHere y) ∧
  (∀ c, here c = true → ((∃ k, k < 4 ∧ c ∈ (s.cls k).queue) ∨ ∃ slot, SpotEntry.probe c slot ∈ s.spot) →
    t.circuit c = { s.circuit c with status := .idle }) ∧
  (∀ c, (here c = false ∨ ((∀ k, k < 4 → c ∉ (s.cls k).queue) ∧ ∀ slot, SpotEntry.probe c slot ∉ s.spot)) →
    t.circuit c = s.circuit c) ∧
  CountsNotTested s t 0 left ∧ (1 ≤ left → EndTested s t) ∧
  (left = 0 → t.campaign = s.campaign ∧ t.classes = s.classes) ∧
  (∃ more, t.mli.tx = s.mli.tx ++ first ++ more) ∧
  (RepliesWait s → s.mli.tx.length + first.length + s.spot.countP spotHere + 1 < 48 →
    ∃ ended, t.mli.tx =
        s.mli.tx ++ first ++ (s.spot.filter spotHere).flatMap (removedAnswer s .nodeHeld) ++ hold :: ended ∧
      (1 ≤ left → CampaignOver s t → ended = [endRecord t]) ∧ (left = 0 ∨ ¬CampaignOver s t → ended = []))

/-! ## The circuit table (R11 to R19) -/

/-- A range that fails the check of R11 refuses each of the six commands with BAD_FIELD at the offset R11 gives, and
changes nothing. -/
def Obligations.BadRangeRefusesTheCommand : Prop :=
  ∀ (tag : Tag) (payload : List Byte) (rest : List Frame) (s : State) (x : Byte × Instr),
    x ∈ [((0x10 : Byte), Instr.circuitDefine tag payload), (0x11, .circuitReport tag payload),
      (0x12, .circuitRetire tag payload), (0x13, .circuitSuspend tag payload), (0x14, .circuitResume tag payload),
      (0x15, .circuitBaselineClear tag payload)] →
    s.Takes x.1 tag payload rest →
    (x.1 ≠ 0x10 → payload.length = 3) → 3 ≤ payload.length →
    ((rd8 payload 2 = 0 ∨ 16 < rd8 payload 2) →
      exec x.2 s = .next (s.answered rest (replyTo x.1 tag .badField false (be8 (rd8 payload 2) ++ be8 0)))) ∧
    ((x.1 = 0x10 → payload.length = 3 + 37 * rd8 payload 2) → 1 ≤ rd8 payload 2 → rd8 payload 2 ≤ 16 →
      2048 < rd16 payload 0 + rd8 payload 2 →
      exec x.2 s = .next (s.answered rest (replyTo x.1 tag .badField false
        (be8 (rd8 payload 2) ++ be8 (2048 - rd16 payload 0)))))

/-- An accepted CIRCUIT_DEFINE on a VACANT record makes it DEFINED and IDLE with the carried fields, limited, and no
baselines or last verdict; nothing else changes. The stored definition keeps every carried field but the four of R7, which
are clamped: exponent 6 to 12, soak time 1 to 600 s, markers 0 to 15, minimum level -400 to 50; the reply has CLAMPED when
one of them was out of its range. -/
def Obligations.DefineOnVacantRecord : Prop :=
  (∀ d : CarriedDef,
    d.stored =
      { accessPoint := d.accessPoint
        farNode := d.farNode
        rate := if d.rate = 1 then .wide else .base
        activate := ⟨d.actLength, BitVec.ofNat 16 (d.actPattern % 2 ^ d.actLength)⟩
        deactivate := ⟨d.deLength, BitVec.ofNat 16 (d.dePattern % 2 ^ d.deLength)⟩
        pacingClass := d.pacingClass
        exponent := max 6 (min d.exponent 12)
        soakTime := max 1 (min d.soakTime 600)
        markers := max 0 (min d.markers 15)
        windowLow := d.windowLow
        windowHigh := d.windowHigh
        minLevel := max (-400) (min d.minLevel 50)
        segments := d.slots.take d.segCount } ∧
    (d.wasClamped = true ↔ d.exponent < 6 ∨ 12 < d.exponent ∨ d.soakTime < 1 ∨ 600 < d.soakTime ∨ 15 < d.markers ∨
      d.minLevel < -400 ∨ 50 < d.minLevel)) ∧
  ∀ (tag : Tag) (payload : List Byte) (rest : List Frame) (s : State), s.Takes 0x10 tag payload rest →
    rd8 payload 2 = 1 → payload.length = 40 → rd16 payload 0 ≤ 2047 → (defAt payload 0).sound = true →
    (s.circuit (rd16 payload 0)).defState = .vacant → (s.circuit (rd16 payload 0)).status = .idle →
    exec (.circuitDefine tag payload) s = .next
      ((s.answered rest (replyTo 0x10 tag .ok (defAt payload 0).wasClamped (be8 1 ++ be8 0))).setCircuit (rd16 payload 0)
        ⟨.defined, .idle, (defAt payload 0).stored, none, none, none⟩)

/-- An accepted CIRCUIT_DEFINE: every record of the range takes the carried definition, clamped as DefineOnVacantRecord
spells it; the definition state, the last verdict and the baselines follow R13 and R14, the status R15; no other record
changes. -/
def Obligations.DefineStoresEveryRecord : Prop :=
  ∀ (tag : Tag) (payload : List Byte) (rest : List Frame) (s : State), s.Takes 0x10 tag payload rest →
    1 ≤ rd8 payload 2 → rd8 payload 2 ≤ 16 → rd16 payload 0 + rd8 payload 2 ≤ 2048 →
    payload.length = 3 + 37 * rd8 payload 2 →
    (∀ k, k < rd8 payload 2 → (defAt payload k).sound = true ∧
      ((s.circuit (rd16 payload 0 + k)).status = .idle ∨ (s.circuit (rd16 payload 0 + k)).status = .queued)) →
    ∃ t, exec (.circuitDefine tag payload) s = .next t ∧
      (∀ k, k < rd8 payload 2 →
        let r := s.circuit (rd16 payload 0 + k)
        let d := (defAt payload k).stored
        let moved := d.accessPoint ≠ r.definition.accessPoint ∨ d.farNode ≠ r.definition.farNode ∨ d.rate ≠ r.definition.rate
        t.circuit (rd16 payload 0 + k) =
          { definition := d
            defState := if r.defState = .vacant then .defined else r.defState
            status := if r.status = .queued ∧ r.defState ≠ .vacant ∧ (s.node d.farNode).state ≠ .held then .queued else .idle
            baseDelay := if r.defState = .vacant ∨ moved then none else r.baseDelay
            baseLevel := if r.defState = .vacant ∨ moved then none else r.baseLevel
            last := if r.defState = .vacant then none else r.last }) ∧
      (∀ c, (c < rd16 payload 0 ∨ rd16 payload 0 + rd8 payload 2 ≤ c) → t.circuit c = s.circuit c) ∧
      (∃ more, t.mli.tx = s.mli.tx ++ replyTo 0x10 tag .ok
        ((List.range (rd8 payload 2)).any (fun k => (defAt payload k).wasClamped)) (be8 (rd8 payload 2) ++ be8 0) :: more) ∧
      t.mli.rxBuffer = rest ∧ t.engines = s.engines ∧ t.points = s.points ∧ t.nodes = s.nodes ∧ t.spot = s.spot ∧
      t.openLoops = s.openLoops ∧ t.amc = s.amc ∧ t.now = s.now

/-- CIRCUIT_DEFINE of one QUEUED circuit: at a HELD node the entry leaves, is counted not-tested HELD and may end the
campaign; else a new pacing class moves the entry to the tail of its queue; else every queue keeps its entries. That the HELD count holds at
4294967295 is the model's choice (log 22). The run that it starts (R104) is a mark, the model's choice (log 20). -/
def Obligations.DefineMovesAQueuedCircuit : Prop :=
  ∀ (tag : Tag) (payload : List Byte) (rest : List Frame) (s : State), s.Takes 0x10 tag payload rest →
    rd8 payload 2 = 1 → payload.length = 40 → rd16 payload 0 ≤ 2047 → (defAt payload 0).sound = true →
    (s.circuit (rd16 payload 0)).defState ≠ .vacant → (s.circuit (rd16 payload 0)).status = .queued →
    ∃ t, exec (.circuitDefine tag payload) s = .next t ∧
      let c := rd16 payload 0
      let d := (defAt payload 0).stored
      if (s.node d.farNode).state = .held then
        (∀ k, k < 4 → (t.cls k).queue = (s.cls k).queue.filter (fun x => x != c)) ∧ t.runDue = true ∧
        CountsNotTested s t 0 1 ∧ EndTested s t ∧
        let reply := replyTo 0x10 tag .ok (defAt payload 0).wasClamped (be8 1 ++ be8 0)
        (CampaignOver s t → s.mli.tx.length + 1 < 48 → t.mli.tx = s.mli.tx ++ [reply, endRecord t]) ∧
          (¬CampaignOver s t → t.mli.tx = s.mli.tx ++ [reply])
      else if d.pacingClass ≠ (s.circuit c).definition.pacingClass then
        (∀ k, k < 4 → (t.cls k).queue =
          (s.cls k).queue.filter (fun x => x != c) ++ (if k = d.pacingClass then [c] else [])) ∧ t.runDue = true ∧
        t.campaign = s.campaign
      else t.classes = s.classes ∧ t.campaign = s.campaign

/-- CIRCUIT_DEFINE: the first record that fails a check refuses the whole command with its offset, BAD_FIELD for an
unsound definition before CIRCUIT_BUSY, and nothing is changed. -/
def Obligations.DefineIsAllOrNothing : Prop :=
  ∀ (tag : Tag) (payload : List Byte) (rest : List Frame) (s : State) (k : Nat), s.Takes 0x10 tag payload rest →
    1 ≤ rd8 payload 2 → rd8 payload 2 ≤ 16 → rd16 payload 0 + rd8 payload 2 ≤ 2048 →
    payload.length = 3 + 37 * rd8 payload 2 → k < rd8 payload 2 →
    (∀ j, j < k → (defAt payload j).sound = true ∧
      ((s.circuit (rd16 payload 0 + j)).status = .idle ∨ (s.circuit (rd16 payload 0 + j)).status = .queued)) →
    ((defAt payload k).sound = false →
      exec (.circuitDefine tag payload) s =
        .next (s.answered rest (replyTo 0x10 tag .badField false (be8 (rd8 payload 2) ++ be8 k)))) ∧
    ((defAt payload k).sound = true → (s.circuit (rd16 payload 0 + k)).status ≠ .idle →
      (s.circuit (rd16 payload 0 + k)).status ≠ .queued →
      exec (.circuitDefine tag payload) s =
        .next (s.answered rest (replyTo 0x10 tag .circuitBusy false (be8 (rd8 payload 2) ++ be8 k))))

/-- A carried definition passes checks 1 to 9 of R12 exactly when: its far node is at most 63, its rate class BASE or WIDE,
its codes are those of R5 (lengths 6 to 16, neither all zeros nor all ones, and no equal-length rotation of each other),
its pacing class is at most 3, and its segment list holds at most 8 spans, each at most 511 and none twice. -/
def Obligations.SoundDefinitionHasSoundCodes : Prop :=
  ∀ d : CarriedDef, d.sound = true ↔
    (6 ≤ d.actLength ∧ d.actLength ≤ 16 ∧ 6 ≤ d.deLength ∧ d.deLength ≤ 16 ∧
    d.actPattern % 2 ^ d.actLength ≠ 0 ∧ d.actPattern % 2 ^ d.actLength ≠ 2 ^ d.actLength - 1 ∧
    d.dePattern % 2 ^ d.deLength ≠ 0 ∧ d.dePattern % 2 ^ d.deLength ≠ 2 ^ d.deLength - 1 ∧
    (d.actLength = d.deLength → ∀ k, k < d.actLength →
      ∃ i, i < d.actLength ∧ d.dePattern.testBit i ≠ d.actPattern.testBit ((i + k) % d.actLength)) ∧
    d.farNode ≤ 63 ∧ d.rate ≤ 1 ∧ d.pacingClass ≤ 3 ∧ d.segCount ≤ 8 ∧ (d.slots.take d.segCount).Nodup ∧
    ∀ x ∈ d.slots.take d.segCount, x ≤ 511)

/-- An accepted CIRCUIT_RETIRE makes every record of the range VACANT and withdraws the QUEUED ones, which may end the
campaign; a record that is SPOT, ACTIVE or OPEN_LOOP refuses the whole command at its offset. That the WITHDRAWN count holds at 4294967295 is the model's
choice (log 22). The run that it starts (R104) is a mark, the model's choice (log 20). -/
def Obligations.RetireMakesTheRangeVacant : Prop :=
  ∀ (tag : Tag) (payload : List Byte) (rest : List Frame) (s : State), s.Takes 0x12 tag payload rest →
    payload.length = 3 → 1 ≤ rd8 payload 2 → rd8 payload 2 ≤ 16 → rd16 payload 0 + rd8 payload 2 ≤ 2048 →
    let withdrawn :=
      (List.range (rd8 payload 2)).countP (fun k => (s.circuit (rd16 payload 0 + k)).status == .queued)
    ((∀ k, k < rd8 payload 2 → (s.circuit (rd16 payload 0 + k)).status = .idle ∨
        (s.circuit (rd16 payload 0 + k)).status = .queued) →
      ∃ t, exec (.circuitRetire tag payload) s = .next t ∧
        (∀ k, k < rd8 payload 2 → t.circuit (rd16 payload 0 + k) = ⟨.vacant, .idle, Definition.vacant, none, none, none⟩) ∧
        (∀ c, (c < rd16 payload 0 ∨ rd16 payload 0 + rd8 payload 2 ≤ c) → t.circuit c = s.circuit c) ∧
        (∀ k, k < 4 → (t.cls k).queue = (s.cls k).queue.filter (fun c =>
          !(decide (rd16 payload 0 ≤ c) && decide (c < rd16 payload 0 + rd8 payload 2) && (s.circuit c).status == .queued))) ∧
        CountsNotTested s t 2 withdrawn ∧ (1 ≤ withdrawn → EndTested s t ∧ t.runDue = true) ∧
        (withdrawn = 0 → t.campaign = s.campaign ∧ t.classes = s.classes ∧ t.runDue = s.runDue) ∧
        (∃ more, t.mli.tx = s.mli.tx ++ replyTo 0x12 tag .ok false (be8 (rd8 payload 2) ++ be8 0) :: more ∧
          (1 ≤ withdrawn → CampaignOver s t → s.mli.tx.length + 1 < 48 → ∃ r ∈ more, r.kind = .notice ∧ r.code = 0x82) ∧
          (withdrawn = 0 ∨ ¬CampaignOver s t → more = [])) ∧
        t.mli.rxBuffer = rest ∧ t.engines = s.engines ∧ t.points = s.points ∧ t.nodes = s.nodes ∧ t.spot = s.spot ∧
        t.openLoops = s.openLoops ∧ t.amc = s.amc ∧ t.now = s.now) ∧
    (∀ k, k < rd8 payload 2 →
      (∀ j, j < k → (s.circuit (rd16 payload 0 + j)).status = .idle ∨ (s.circuit (rd16 payload 0 + j)).status = .queued) →
      (s.circuit (rd16 payload 0 + k)).status ≠ .idle → (s.circuit (rd16 payload 0 + k)).status ≠ .queued →
      exec (.circuitRetire tag payload) s =
        .next (s.answered rest (replyTo 0x12 tag .circuitBusy false (be8 (rd8 payload 2) ++ be8 k))))

/-- An accepted CIRCUIT_SUSPEND makes every record of the range SUSPENDED, withdraws the QUEUED ones, which the summary
counts WITHDRAWN and which may end the campaign, and keeps all else of the records. The first VACANT record refuses the whole command with NOT_DEFINED,
the first whose spot probe entry waits with CIRCUIT_BUSY, each at its offset. That the count holds at 4294967295 is the
model's choice (log 22). The run that it starts (R104) is a mark, the model's choice (log 20). -/
def Obligations.SuspendKeepsTheRecords : Prop :=
  ∀ (tag : Tag) (payload : List Byte) (rest : List Frame) (s : State), s.Takes 0x13 tag payload rest →
    payload.length = 3 → 1 ≤ rd8 payload 2 → rd8 payload 2 ≤ 16 → rd16 payload 0 + rd8 payload 2 ≤ 2048 →
    let withdrawn :=
      (List.range (rd8 payload 2)).countP (fun k => (s.circuit (rd16 payload 0 + k)).status == .queued)
    let waits (c : Nat) : Prop := (s.circuit c).status = .spot ∧ ∃ slot, SpotEntry.probe c slot ∈ s.spot
    let passes (c : Nat) : Prop := (s.circuit c).defState ≠ .vacant ∧ ¬waits c
    ((∀ k, k < rd8 payload 2 → passes (rd16 payload 0 + k)) →
    ∃ t, exec (.circuitSuspend tag payload) s = .next t ∧
      (∀ k, k < rd8 payload 2 →
        let r := s.circuit (rd16 payload 0 + k)
        t.circuit (rd16 payload 0 + k) =
          { r with defState := .suspended, status := if r.status = .queued then .idle else r.status }) ∧
      (∀ c, (c < rd16 payload 0 ∨ rd16 payload 0 + rd8 payload 2 ≤ c) → t.circuit c = s.circuit c) ∧
      (∀ k, k < 4 → (t.cls k).queue = (s.cls k).queue.filter (fun c =>
        !(decide (rd16 payload 0 ≤ c) && decide (c < rd16 payload 0 + rd8 payload 2) && (s.circuit c).status == .queued))) ∧
      CountsNotTested s t 2 withdrawn ∧ (1 ≤ withdrawn → EndTested s t ∧ t.runDue = true) ∧
      (withdrawn = 0 → t.campaign = s.campaign ∧ t.classes = s.classes ∧ t.runDue = s.runDue) ∧
      (∃ more, t.mli.tx = s.mli.tx ++ replyTo 0x13 tag .ok false (be8 (rd8 payload 2) ++ be8 0) :: more ∧
        (1 ≤ withdrawn → CampaignOver s t → s.mli.tx.length + 1 < 48 → ∃ r ∈ more, r.kind = .notice ∧ r.code = 0x82) ∧
        (withdrawn = 0 ∨ ¬CampaignOver s t → more = [])) ∧
      t.mli.rxBuffer = rest ∧ t.engines = s.engines ∧ t.points = s.points ∧ t.nodes = s.nodes ∧ t.spot = s.spot ∧
      t.openLoops = s.openLoops ∧ t.amc = s.amc ∧ t.now = s.now) ∧
    ∀ k, k < rd8 payload 2 → (∀ j, j < k → passes (rd16 payload 0 + j)) →
      ((s.circuit (rd16 payload 0 + k)).defState = .vacant →
        exec (.circuitSuspend tag payload) s =
          .next (s.answered rest (replyTo 0x13 tag .notDefined false (be8 (rd8 payload 2) ++ be8 k)))) ∧
      ((s.circuit (rd16 payload 0 + k)).defState ≠ .vacant → waits (rd16 payload 0 + k) →
        exec (.circuitSuspend tag payload) s =
          .next (s.answered rest (replyTo 0x13 tag .circuitBusy false (be8 (rd8 payload 2) ++ be8 k))))

/-- CIRCUIT_RESUME makes every record of the range DEFINED, CIRCUIT_BASELINE_CLEAR makes both baselines of every record
absent; nothing else of any record, queue or table changes. The first VACANT record refuses either with NOT_DEFINED. -/
def Obligations.ResumeAndBaselineClear : Prop :=
  ∀ (tag : Tag) (payload : List Byte) (rest : List Frame) (s : State) (x : Byte × Instr × (Circuit → Circuit)),
    x ∈ [((0x14 : Byte), Instr.circuitResume tag payload, fun r => { r with defState := .defined }),
      (0x15, .circuitBaselineClear tag payload, fun r => { r with baseDelay := none, baseLevel := none })] →
    s.Takes x.1 tag payload rest →
    payload.length = 3 → 1 ≤ rd8 payload 2 → rd8 payload 2 ≤ 16 → rd16 payload 0 + rd8 payload 2 ≤ 2048 →
    ((∀ k, k < rd8 payload 2 → (s.circuit (rd16 payload 0 + k)).defState ≠ .vacant) →
      ∃ t, exec x.2.1 s = .next t ∧
        (∀ k, k < rd8 payload 2 → t.circuit (rd16 payload 0 + k) = x.2.2 (s.circuit (rd16 payload 0 + k))) ∧
        (∀ c, (c < rd16 payload 0 ∨ rd16 payload 0 + rd8 payload 2 ≤ c) → t.circuit c = s.circuit c) ∧
        t = { s.answered rest (replyTo x.1 tag .ok false (be8 (rd8 payload 2) ++ be8 0)) with circuits := t.circuits }) ∧
    (∀ k, k < rd8 payload 2 → (∀ j, j < k → (s.circuit (rd16 payload 0 + j)).defState ≠ .vacant) →
      (s.circuit (rd16 payload 0 + k)).defState = .vacant →
      exec x.2.1 s = .next (s.answered rest (replyTo x.1 tag .notDefined false (be8 (rd8 payload 2) ++ be8 k))))

/-! ## The engines (R27, R28, R39) -/

/-- ENGINE_ENABLE: an OFFLINE engine becomes IDLE and a run starts; any other engine only loses its pending disable. The run
that it starts (R104) is a mark, the model's choice (log 20). -/
def Obligations.EnableReturnsTheEngine : Prop :=
  ∀ (tag : Tag) (e : Byte) (rest : List Frame) (s : State), s.Takes 0x20 tag [e] rest →
    (15 < e.toNat → exec (.engineEnable tag [e]) s = .next (s.answered rest (replyTo 0x20 tag .badField false []))) ∧
    (e.toNat ≤ 15 → (s.engine e.toNat).state ≠ .offline →
      exec (.engineEnable tag [e]) s = .next ((s.answered rest (replyTo 0x20 tag .ok false [])).setEngine e.toNat
        { s.engine e.toNat with disablePending := false })) ∧
    (e.toNat ≤ 15 → (s.engine e.toNat).state = .offline →
      ∃ t, exec (.engineEnable tag [e]) s = .next t ∧ (t.engine e.toNat).state = .idle ∧
        (t.engine e.toNat).localOffset = (s.engine e.toNat).localOffset ∧
        (t.engine e.toNat).meas = (s.engine e.toNat).meas ∧ (∀ d, d ≠ e.toNat → t.engine d = s.engine d) ∧
        t = { s.answered rest (replyTo 0x20 tag .ok false []) with engines := t.engines, runDue := true })

/-- ENGINE_DISABLE: an IDLE engine becomes OFFLINE at once and its calibration entries leave the spot queue, each answered
CAL_FAILED with the offset unchanged and the engine OFFLINE, in queue order behind the reply; an active or
QUARANTINED engine takes a pending disable and nothing else; an OFFLINE engine does not change. The order of several such
answers, queue order, is the model's choice (log 15), and so is the mark of a run to be taken, which a removal sets (log 20). -/
def Obligations.DisableTakesTheEngineOffline : Prop :=
  ∀ (tag : Tag) (e : Byte) (rest : List Frame) (s : State), s.Takes 0x21 tag [e] rest →
    let pinned (x : SpotEntry) : Bool := match x with
      | .calibration e' _ => e' == e.toNat
      | .probe _ _ => false
      | .releaseOnly _ => false
    (15 < e.toNat → exec (.engineDisable tag [e]) s = .next (s.answered rest (replyTo 0x21 tag .badField false []))) ∧
    (e.toNat ≤ 15 → (s.engine e.toNat).state = .offline →
      exec (.engineDisable tag [e]) s = .next (s.answered rest (replyTo 0x21 tag .ok false []))) ∧
    (e.toNat ≤ 15 → (s.engine e.toNat).state ≠ .offline → (s.engine e.toNat).state ≠ .idle →
      exec (.engineDisable tag [e]) s = .next ((s.answered rest (replyTo 0x21 tag .ok false [])).setEngine e.toNat
        { s.engine e.toNat with disablePending := true })) ∧
    (e.toNat ≤ 15 → (s.engine e.toNat).state = .idle →
      ∃ t, exec (.engineDisable tag [e]) s = .next t ∧ (t.engine e.toNat).state = .offline ∧
        (t.engine e.toNat).disablePending = false ∧ (t.engine e.toNat).localOffset = (s.engine e.toNat).localOffset ∧
        (∀ d, d ≠ e.toNat → t.engine d = s.engine d) ∧
        t.spot = s.spot.filter (fun x => !pinned x) ∧
        (∃ more, t.mli.tx = s.mli.tx ++ replyTo 0x21 tag .ok false [] :: more) ∧
        (RepliesWait s → t.mli.tx = s.mli.tx ++ replyTo 0x21 tag .ok false [] ::
          (s.spot.filter pinned).flatMap (removedAnswer s .calFailed)) ∧
        (t.runDue = if s.spot.any pinned then true else s.runDue) ∧ t.mli.rxBuffer = rest ∧
        t.circuits = s.circuits ∧ t.points = s.points ∧ t.nodes = s.nodes ∧ t.classes = s.classes ∧
        t.campaign = s.campaign ∧ t.openLoops = s.openLoops ∧ t.amc = s.amc)

/-- ENGINE_CALIBRATE: the checks of R39 in order, each refusing with its status; a command that passes them all takes a
free slot (the lowest: the model's choice, log 14), appends the pinned entry and starts a run, with no reply yet. The run
that it starts (R104) is a mark, the model's choice (log 20). -/
def Obligations.CalibrateQueuesTheEntry : Prop :=
  ∀ (tag : Tag) (e : Byte) (rest : List Frame) (s : State), s.Takes 0x22 tag [e] rest →
    let refused (st : Status) := exec (.engineCalibrate tag [e]) s = .next (s.answered rest (replyTo 0x22 tag st false []))
    let g := s.engine e.toNat
    (15 < e.toNat → refused .badField) ∧
    (e.toNat ≤ 15 → (g.state = .offline ∨ g.disablePending = true) → refused .calFailed) ∧
    (e.toNat ≤ 15 → g.state ≠ .offline → g.disablePending = false → s.amc.link = .unsynced → refused .matrixUnsynced) ∧
    (e.toNat ≤ 15 → g.state ≠ .offline → g.disablePending = false → s.amc.link = .synced →
      (∀ i, i < 8 → s.slot i ≠ none) → refused .queueFull) ∧
    (∀ i, e.toNat ≤ 15 → g.state ≠ .offline → g.disablePending = false → s.amc.link = .synced →
      i < 8 → s.slot i = none → (∀ j, j < i → s.slot j ≠ none) →
      (8 ≤ s.spot.length → refused .queueFull) ∧
      (s.spot.length < 8 →
        exec (.engineCalibrate tag [e]) s = .next
          { s with
            mli := { s.mli with
              rxBuffer := rest
              slots := s.mli.slots.setIfInBounds i (some ⟨0x22, tag, .calibration e.toNat, s.mli.nextOrder, false⟩)
              nextOrder := s.mli.nextOrder + 1 }
            spot := s.spot ++ [.calibration e.toNat i]
            runDue := true }))

/-! ## Campaigns, pacing and the spot queue (R112 to R133) -/

/-- A circuit passes the filters of a start by the three tests of R116. -/
def Obligations.FiltersOfAStart : Prop :=
  ∀ (x : Selection) (c : Nat) (d : Definition), x.passes c d = true ↔
    ((∀ w ∈ x.windows, w.limit < w.base) ∨ ∃ w ∈ x.windows, w.base ≤ c ∧ c ≤ w.limit) ∧
    (x.spans = [] ∨ ∃ k ∈ d.segments, k ∈ x.spans) ∧ (x.nodes = [] ∨ d.farNode ∈ x.nodes)

/-- An accepted CAMPAIGN_START (R117): the number, the set stored as R113 clamps it, the selection, the circuits queued in
ascending order and set QUEUED, the credits at their quotas, the deadline, and the reply's four counts; a start that queues
nothing ends at once. The conditions are the checks of R115, field by field. That a run follows a start that queues nothing
is the model's choice (log 27). The run that it starts (R104) is a mark, the model's choice (log 20). -/
def Obligations.StartQueuesThePickedCircuits : Prop :=
  ∀ (tag : Tag) (p : List Byte) (kind : CampaignKind) (mode : NoticeMode) (rest : List Frame) (s : State),
    s.Takes 0x30 tag p rest →
    let spans := rd8 p 41
    let nodes := rd8 p (42 + 2 * spans)
    let chosen := carriedSelection p
    let enabled (e : Nat) : Prop := (s.engine e).state ≠ .offline ∧ (s.engine e).disablePending = false
    let passing (c : Nat) : Bool := (s.circuit c).defState == .defined && chosen.passes c (s.circuit c).definition
    let picked (c : Nat) : Bool := passing c && (s.circuit c).status == .idle
    let excluded (c : Nat) : Bool :=
      passing c && ((s.circuit c).status == .spot || (s.circuit c).status == .active || (s.circuit c).status == .openLoop)
    let held (c : Nat) : Bool := (s.node (s.circuit c).definition.farNode).state == .held
    let queued (c : Nat) : Bool := picked c && !held c
    let all := List.range 2048
    p.length = 43 + 2 * spans + nodes → s.campaign.state = .idle →
    (rd8 p 0 = 0 ∧ kind = .verify ∨ rd8 p 0 = 1 ∧ kind = .baseline) →
    (rd8 p 20 = 0 ∧ mode = .all ∨ rd8 p 20 = 1 ∧ mode = .nonPass ∨ rd8 p 20 = 2 ∧ mode = .change) →
    (∀ i, i < 4 → rd16 p (25 + 4 * i) ≤ 2047 ∧ rd16 p (27 + 4 * i) ≤ 2047) →
    spans ≤ 16 → (∀ i, i < spans → rd16 p (42 + 2 * i) ≤ 511) →
    nodes ≤ 64 → (∀ i, i < nodes → rd8 p (43 + 2 * spans + i) ≤ 63) →
    (∃ e, e < 16 ∧ enabled e) →
    ((∀ c, picked c = true → (s.circuit c).definition.rate = .base) ∨ ∃ b, b < 8 ∧ enabled (2 * b) ∧ enabled (2 * b + 1)) →
    let carried := carriedParams p mode
    let confirm := max 50 (min (rd16 p 1) 5000)
    let lossFail := max 0 (min (rd16 p 17) 300)
    let stored : Params :=
      { timing :=
          { confirmTime := confirm
            loopUpTimeout := max (max 500 (min (rd16 p 3) 30000)) (confirm + 500)
            loopAttempts := max 1 (min (rd8 p 5) 15)
            retrySpacing := max 100 (min (rd16 p 6) 10000)
            releaseHold := max 200 (min (rd16 p 8) 10000)
            releaseCheck := max 50 (min (rd16 p 10) 2000)
            releaseAttempts := max 1 (min (rd8 p 12) 15) }
        shiftTolerance := max 0 (min (rd16 p 13) 1000)
        lossWarn := min (max 0 (min (rd16 p 15) 200)) lossFail
        lossFail := lossFail
        cap := max 0 (min (rd8 p 19) 16)
        noticeMode := mode
        deadline := max 0 (min (rd32 p 21) 86400) }
    ∃ t, exec (.campaignStart tag p) s = .next t ∧
      t.campaign.number = s.campaign.nextNumber ∧
      t.campaign.nextNumber = (if s.campaign.nextNumber = 65535 then 1 else s.campaign.nextNumber + 1) ∧
      t.campaign.kind = kind ∧ t.campaign.params = stored ∧
      chosen.windows = (List.range 4).map (fun i => ⟨rd16 p (25 + 4 * i), rd16 p (27 + 4 * i)⟩) ∧
      chosen.spans = (List.range spans).map (fun i => rd16 p (42 + 2 * i)) ∧
      chosen.nodes = (List.range nodes).map (fun i => rd8 p (43 + 2 * spans + i)) ∧
      t.campaign.selection = chosen ∧ t.campaign.inFlight = 0 ∧
      t.campaign.summary.selected = all.countP picked ∧ t.campaign.summary.excluded = all.countP excluded ∧
      t.campaign.summary.added = 0 ∧ t.campaign.summary.duplicates = 0 ∧ t.campaign.summary.launched = 0 ∧
      t.campaign.summary.notTested[0] = all.countP (fun c => picked c && held c) ∧
      (∀ k, k < 4 → (t.cls k).queue =
        (s.cls k).queue ++ all.filter (fun c => queued c && (s.circuit c).definition.pacingClass == k)) ∧
      (∀ c, c < 2048 → t.circuit c = if queued c then { s.circuit c with status := .queued } else s.circuit c) ∧
      t.runDue = true ∧
      (all.any queued = true → t.campaign.state = .running ∧ t.campaign.endCause = .none ∧
        (∀ k, k < 4 → (t.cls k).credits = (s.cls k).quota ∧ (t.cls k).timer = 0) ∧
        t.campaign.deadline = (if stored.deadline = 0 then none else some (s.now + 1000 * stored.deadline))) ∧
      (all.any queued = false → t.campaign.state = .idle ∧ t.campaign.endCause = .completed ∧ t.campaign.deadline = none ∧
        ∀ k, k < 4 → (t.cls k).credits = 0 ∧ (t.cls k).timer = 0) ∧
      (∃ more, t.mli.tx = s.mli.tx ++ replyTo 0x30 tag .ok (decide (carried ≠ stored))
        (be16 s.campaign.nextNumber ++ be16 (all.countP picked) ++ be16 (all.countP excluded) ++
          be16 (all.countP (fun c => picked c && held c))) :: more) ∧
      carried.timing = ⟨rd16 p 1, rd16 p 3, rd8 p 5, rd16 p 6, rd16 p 8, rd16 p 10, rd8 p 12⟩ ∧
      carried.shiftTolerance = rd16 p 13 ∧ carried.lossWarn = rd16 p 15 ∧ carried.lossFail = rd16 p 17 ∧
      carried.cap = rd8 p 19 ∧ carried.noticeMode = mode ∧ carried.deadline = rd32 p 21 ∧
      t.mli.rxBuffer = rest ∧ t.engines = s.engines ∧ t.points = s.points ∧ t.nodes = s.nodes ∧ t.spot = s.spot ∧
      t.openLoops = s.openLoops ∧ t.amc = s.amc

/-- CAMPAIGN_ADD: a payload whose length does not follow from its count is refused with BAD_LENGTH, a count outside 1 to 32
or a number above 2047 with BAD_FIELD in any campaign state, and then any state but RUNNING and PAUSED with NO_CAMPAIGN; else
the numbers are taken in the order carried behind the reply, which carries one disposition for each: that of the first number,
then those of the others on the state that taking the first leaves (AddDispositions says what both are). -/
def Obligations.AddTakesTheNumbersInOrder : Prop :=
  (∀ s : State, State.dispositions [] s = [] ∧ ∀ (c : Nat) (cs : List Nat),
    State.dispositions (c :: cs) s = s.disposition c :: State.dispositions cs (s.addOne c)) ∧
  ∀ (tag : Tag) (p : List Byte) (rest : List Frame) (s : State), s.Takes 0x31 tag p rest →
    let refused (st : Status) := exec (.campaignAdd tag p) s = .next (s.answered rest (replyTo 0x31 tag st false []))
    (p = [] → refused .badLength) ∧
    (1 ≤ rd8 p 0 → rd8 p 0 ≤ 32 → p.length ≠ 1 + 2 * rd8 p 0 → refused .badLength) ∧
    (p ≠ [] → (rd8 p 0 = 0 ∨ 32 < rd8 p 0) → refused .badField) ∧
    (1 ≤ rd8 p 0 → rd8 p 0 ≤ 32 → p.length = 1 + 2 * rd8 p 0 →
      let fit := ∀ i, i < rd8 p 0 → rd16 p (1 + 2 * i) ≤ 2047
      let numbers := (List.range (rd8 p 0)).map (fun i => rd16 p (1 + 2 * i))
      (¬fit → refused .badField) ∧
      (fit → (s.campaign.state = .running ∨ s.campaign.state = .paused) →
        exec (.campaignAdd tag p) s = .next (numbers.foldl State.addOne (s.answered rest (replyTo 0x31 tag .ok false
          (be8 (rd8 p 0) ++ (State.dispositions numbers s).flatMap (fun d => be8 d.byte))))) ∧
        (State.dispositions numbers s).length = rd8 p 0) ∧
      (fit → (s.campaign.state = .idle ∨ s.campaign.state = .draining) → refused .noCampaign))

/-- One number of CAMPAIGN_ADD: the dispositions of R122 with their effects; an APPENDED circuit becomes QUEUED at the tail
of its class queue and a run starts. That a count holds at 4294967295 is the model's choice (log 22). The run that it starts
(R104) is a mark, the model's choice (log 20). -/
def Obligations.AddDispositions : Prop :=
  ∀ (s : State) (c : Nat), c < 2048 → (s.circuit c).definition.pacingClass < 4 →
    let r := s.circuit c
    let held := (s.node r.definition.farNode).state = .held
    let added (t : State) := t.campaign.summary.added = min (s.campaign.summary.added + 1) 4294967295
    let same (t : State) := t.circuits = s.circuits ∧ t.classes = s.classes ∧ t.runDue = s.runDue
    (r.defState = .vacant → s.disposition c = .notDefined ∧ s.addOne c = s) ∧
    (r.defState = .suspended → s.disposition c = .suspended ∧ s.addOne c = s) ∧
    (r.defState = .defined → r.status = .queued → s.disposition c = .duplicate ∧ same (s.addOne c) ∧
      (s.addOne c).campaign.summary.duplicates = min (s.campaign.summary.duplicates + 1) 4294967295) ∧
    (r.defState = .defined → (r.status = .spot ∨ r.status = .active ∨ r.status = .openLoop) →
      s.disposition c = .busy ∧ same (s.addOne c) ∧
      (s.addOne c).campaign.summary.excluded = min (s.campaign.summary.excluded + 1) 4294967295) ∧
    (r.defState = .defined → r.status = .idle → held → s.disposition c = .held ∧ same (s.addOne c) ∧ added (s.addOne c) ∧
      (s.addOne c).campaign.summary.notTested[0] = min (s.campaign.summary.notTested[0] + 1) 4294967295) ∧
    (r.defState = .defined → r.status = .idle → ¬held → s.disposition c = .appended ∧ added (s.addOne c) ∧
      (s.addOne c).circuit c = { r with status := .queued } ∧ (∀ d, d ≠ c → (s.addOne c).circuit d = s.circuit d) ∧
      (∀ k, k < 4 → ((s.addOne c).cls k).queue = (s.cls k).queue ++ if k = r.definition.pacingClass then [c] else []) ∧
      (s.addOne c).runDue = true) ∧
    (s.addOne c).engines = s.engines ∧ (s.addOne c).points = s.points ∧ (s.addOne c).nodes = s.nodes ∧
    (s.addOne c).spot = s.spot ∧ (s.addOne c).openLoops = s.openLoops ∧ (s.addOne c).amc = s.amc ∧
    (s.addOne c).mli = s.mli

/-- CAMPAIGN_PAUSE and CAMPAIGN_RESUME: NO_CAMPAIGN in IDLE; a pause moves RUNNING to PAUSED and nothing else; a resume
moves PAUSED to RUNNING, or through RUNNING to the campaign's end, and starts a run (in RUNNING and DRAINING too: the
model's choice, log 27). The run that it starts (R104) is a mark, the model's choice (log 20). -/
def Obligations.PauseAndResume : Prop :=
  ∀ (tag : Tag) (rest : List Frame) (s : State),
    (s.Takes 0x32 tag [] rest →
      (s.campaign.state = .idle →
        exec (.campaignPause tag []) s = .next (s.answered rest (replyTo 0x32 tag .noCampaign false []))) ∧
      (s.campaign.state = .running →
        exec (.campaignPause tag []) s =
          .next { s.answered rest (replyTo 0x32 tag .ok false [2]) with campaign := { s.campaign with state := .paused } }) ∧
      (s.campaign.state = .paused →
        exec (.campaignPause tag []) s = .next (s.answered rest (replyTo 0x32 tag .ok false [2]))) ∧
      (s.campaign.state = .draining →
        exec (.campaignPause tag []) s = .next (s.answered rest (replyTo 0x32 tag .ok false [3])))) ∧
    (s.Takes 0x33 tag [] rest →
      (s.campaign.state = .idle →
        exec (.campaignResume tag []) s = .next (s.answered rest (replyTo 0x33 tag .noCampaign false []))) ∧
      (s.campaign.state = .paused → ((∃ k, k < 4 ∧ (s.cls k).queue ≠ []) ∨ s.campaign.inFlight ≠ 0) →
        exec (.campaignResume tag []) s =
          .next { s.answered rest (replyTo 0x33 tag .ok false [1]) with
            campaign := { s.campaign with state := .running }, runDue := true }) ∧
      (s.campaign.state = .paused → (∀ k, k < 4 → (s.cls k).queue = []) → s.campaign.inFlight = 0 →
        ∃ t, exec (.campaignResume tag []) s = .next t ∧ t.campaign.state = .idle ∧ t.campaign.endCause = .completed ∧
          t.campaign.deadline = none ∧ (∀ k, k < 4 → (t.cls k).credits = 0 ∧ (t.cls k).timer = 0) ∧ t.runDue = true ∧
          (∃ more, t.mli.tx = s.mli.tx ++ replyTo 0x33 tag .ok false [0] :: more) ∧ t.circuits = s.circuits ∧
          t.engines = s.engines ∧ t.points = s.points ∧ t.nodes = s.nodes ∧ t.spot = s.spot ∧
          t.openLoops = s.openLoops ∧ t.amc = s.amc) ∧
      (s.campaign.state = .running →
        exec (.campaignResume tag []) s = .next { s.answered rest (replyTo 0x33 tag .ok false [1]) with runDue := true }) ∧
      (s.campaign.state = .draining →
        exec (.campaignResume tag []) s = .next { s.answered rest (replyTo 0x33 tag .ok false [3]) with runDue := true }))

/-- CAMPAIGN_CANCEL and the deadline empty the class queues: every circuit queued becomes IDLE and is counted not-tested, the
deadline is cleared, the credits and timers are 0, and the campaign drains with its cause, or ends when no campaign probe is in
flight. No engine is touched. In IDLE a cancel is refused with NO_CAMPAIGN, in DRAINING it replies with 0 and changes nothing.
A deadline taken late is the model's choice (log 3), and so is that the not-tested counts hold at 4294967295 (log 22).
CAMPAIGN_ABORT is AbortShortensTheProbes. -/
def Obligations.CancelAndDeadlineEmptyTheQueues : Prop :=
  ∀ (tag : Tag) (rest : List Frame) (s : State),
    (s.Takes 0x34 tag [] rest →
      (s.campaign.state = .idle →
        exec (.campaignCancel tag []) s = .next (s.answered rest (replyTo 0x34 tag .noCampaign false []))) ∧
      (s.campaign.state = .draining →
        exec (.campaignCancel tag []) s = .next (s.answered rest (replyTo 0x34 tag .ok false [0, 0])))) ∧
    ∀ x : Instr × EndCause,
    ((x = (.campaignCancel tag [], .cancelled) ∧ s.Takes 0x34 tag [] rest) ∨
      (x = (.deadlineExpiry, .deadline) ∧ ∃ d, s.campaign.deadline = some d ∧ d ≤ s.now)) →
    (s.campaign.state = .running ∨ s.campaign.state = .paused) →
    ∃ t, exec x.1 s = .next t ∧
      (∀ k, k < 4 → (t.cls k).queue = [] ∧ (t.cls k).credits = 0 ∧ (t.cls k).timer = 0 ∧
        (t.cls k).interval = (s.cls k).interval ∧ (t.cls k).quota = (s.cls k).quota) ∧
      (∀ c, (∃ k, k < 4 ∧ c ∈ (s.cls k).queue) → t.circuit c = { s.circuit c with status := .idle }) ∧
      (∀ c, (∀ k, k < 4 → c ∉ (s.cls k).queue) → t.circuit c = s.circuit c) ∧
      t.campaign.endCause = x.2 ∧ t.campaign.deadline = none ∧ t.campaign.inFlight = s.campaign.inFlight ∧
      t.campaign.state = (if s.campaign.inFlight = 0 then .idle else .draining) ∧
      CountsNotTested s t (if x.2 = .cancelled then 3 else 1) s.queuedCount ∧
      (∃ ended, t.mli.tx = s.mli.tx ++
          (if x.2 = .cancelled then [replyTo 0x34 tag .ok false (be16 s.queuedCount)] else []) ++ ended ∧
        (s.campaign.inFlight ≠ 0 → ended = []) ∧
        (s.campaign.inFlight = 0 → s.mli.tx.length + 1 < 48 → ended = [endRecord t])) ∧
      t.engines = s.engines ∧ t.points = s.points ∧ t.nodes = s.nodes ∧ t.spot = s.spot ∧ t.openLoops = s.openLoops ∧
      t.amc = s.amc

/-- CAMPAIGN_ABORT in RUNNING or PAUSED does all that a cancel does with the cause ABORTED: every circuit queued becomes
IDLE and is counted not-tested CANCELLED, the deadline is cleared, the credits and timers are 0, and the campaign drains,
or ends when no campaign probe is in flight. In DRAINING it sets the cause alone; in IDLE it is refused with NO_CAMPAIGN. It
shortens each campaign probe not yet marked by its phase (R71); every other engine keeps its state and context. That the count
holds at 4294967295 is the model's choice (log 22). -/
def Obligations.AbortShortensTheProbes : Prop :=
  ∀ (tag : Tag) (rest : List Frame) (s : State), s.Takes 0x35 tag [] rest →
    (s.campaign.state = .idle →
      exec (.campaignAbort tag []) s = .next (s.answered rest (replyTo 0x35 tag .noCampaign false []))) ∧
    (s.campaign.state ≠ .idle →
    ∃ t, exec (.campaignAbort tag []) s = .next t ∧ t.campaign.endCause = .aborted ∧
      (s.campaign.state ≠ .draining → t.campaign.deadline = none ∧
        t.campaign.state = (if s.campaign.inFlight = 0 then .idle else .draining) ∧
        t.campaign.inFlight = s.campaign.inFlight ∧
        (∀ k, k < 4 → (t.cls k).queue = [] ∧ (t.cls k).credits = 0 ∧ (t.cls k).timer = 0 ∧
          (t.cls k).interval = (s.cls k).interval ∧ (t.cls k).quota = (s.cls k).quota) ∧
        (∀ c, (∃ k, k < 4 ∧ c ∈ (s.cls k).queue) → t.circuit c = { s.circuit c with status := .idle }) ∧
        (∀ c, (∀ k, k < 4 → c ∉ (s.cls k).queue) → t.circuit c = s.circuit c) ∧ CountsNotTested s t 3 s.queuedCount) ∧
      (s.campaign.state = .draining → t.circuits = s.circuits ∧ t.classes = s.classes ∧
        t.campaign = { s.campaign with endCause := .aborted }) ∧
      (∀ e, e < 16 → ∀ x, (s.engine e).context = some x → x.kind = .campaign → x.aborted = false →
        ((s.engine e).state = .connecting →
          (t.engine e).state = .connecting ∧ (t.engine e).context = some { x with aborted := true }) ∧
        (((s.engine e).state = .loopUp ∨ (s.engine e).state = .retryWait) →
          (t.engine e).state = .courtesyRelease ∧ (t.engine e).context = some { x with aborted := true, phaseTimer := 0 }) ∧
        ((s.engine e).state = .soak → (t.engine e).state = .loopDown ∧
          (t.engine e).context = some { x with
            aborted := true, outcomes := x.outcomes ++ [.soakShortened], phaseTimer := 0,
            releaseAttempts := x.releaseAttempts + 1 })) ∧
      (∀ e, e < 16 → (∀ x, (s.engine e).context = some x → x.kind ≠ .campaign ∨ x.aborted = true ∨
          ((s.engine e).state ≠ .connecting ∧ (s.engine e).state ≠ .loopUp ∧ (s.engine e).state ≠ .retryWait ∧
            (s.engine e).state ≠ .soak)) →
        (t.engine e).state = (s.engine e).state ∧ (t.engine e).context = (s.engine e).context) ∧
      (∃ more, t.mli.tx = s.mli.tx ++ replyTo 0x35 tag .ok false
        (be16 (if s.campaign.state = .draining then 0 else s.queuedCount) ++ be8 ((List.range 16).countP (fun e =>
          (s.engine e).context.any (fun x => x.kind == .campaign && !x.aborted) &&
            ((s.engine e).state == .connecting || (s.engine e).state == .loopUp || (s.engine e).state == .retryWait ||
              (s.engine e).state == .soak)))) :: more ∧
        (s.campaign.state = .draining ∨ s.campaign.inFlight ≠ 0 → more = []) ∧
        (s.campaign.state ≠ .draining → s.campaign.inFlight = 0 → s.mli.tx.length + 1 < 48 → more = [endRecord t])) ∧
      t.points = s.points ∧ t.nodes = s.nodes ∧ t.spot = s.spot ∧ t.openLoops = s.openLoops ∧ t.amc = s.amc)

/-- CLASS_SET stores the clamped interval and quota, cuts the credits to the quota, restarts the timer and starts a run;
its reply carries the credits; a class above 3 is refused with BAD_FIELD. The run that it starts (R104) is a mark, the
model's choice (log 20). -/
def Obligations.ClassSetStoresIntervalAndQuota : Prop :=
  ∀ (tag : Tag) (p : List Byte) (rest : List Frame) (s : State), s.Takes 0x37 tag p rest → p.length = 4 →
    let interval := max 1 (min (rd16 p 1) 60000)
    let quota := max 1 (min (rd8 p 3) 32)
    let credits := min (s.cls (rd8 p 0)).credits quota
    (3 < rd8 p 0 → exec (.classSet tag p) s = .next (s.answered rest (replyTo 0x37 tag .badField false []))) ∧
    (rd8 p 0 ≤ 3 →
      exec (.classSet tag p) s = .next
        { (s.answered rest (replyTo 0x37 tag .ok (interval != rd16 p 1 || quota != rd8 p 3) (be8 credits))).setCls (rd8 p 0)
            ⟨interval, quota, credits, 0, (s.cls (rd8 p 0)).queue⟩ with runDue := true })

/-- An accepted PROBE_CIRCUIT appends a probe entry, makes the circuit SPOT and starts a run: in ACCEPT mode with an
immediate reply, in COMPLETE mode with a slot taken (the lowest free one: the model's choice, log 14) and no reply yet. The
run that it starts (R104) is a mark, the model's choice (log 20). -/
def Obligations.ProbeQueuesTheEntry : Prop :=
  ∀ (tag : Tag) (p : List Byte) (rest : List Frame) (s : State), s.Takes 0x38 tag p rest → p.length = 3 →
    let c := rd16 p 0
    let r := s.circuit c
    c ≤ 2047 → r.defState = .defined → r.status = .idle → (s.node r.definition.farNode).state ≠ .held →
    (s.point r.definition.accessPoint).service = .inService → s.spot.length < 8 →
    (rd8 p 2 = 0 →
      exec (.probeCircuit tag p) s = .next
        { (s.answered rest (replyTo 0x38 tag .ok false [])).setCircuit c { r with status := .spot } with
          spot := s.spot ++ [.probe c none], runDue := true }) ∧
    (rd8 p 2 = 1 → ∀ i, i < 8 → s.slot i = none → (∀ j, j < i → s.slot j ≠ none) →
      exec (.probeCircuit tag p) s = .next
        { s.setCircuit c { r with status := .spot } with
          mli := { s.mli with
            rxBuffer := rest
            slots := s.mli.slots.setIfInBounds i (some ⟨0x38, tag, .spotProbe c, s.mli.nextOrder, false⟩)
            nextOrder := s.mli.nextOrder + 1 }
          spot := s.spot ++ [.probe c (some i)], runDue := true })

/-- CREDIT_ACCRUAL: in RUNNING, at the interval, the timer returns to zero; a class below its quota gains one credit
and a run starts, a class at its quota gains nothing. NEXT_ELIGIBLE_REACHED starts a run and changes no field of a
node that the spec gives. The timer that waits at its interval (log 23), an event taken late (log 3) and `waitPending`
(log 19) are the model's. The run that it starts (R104) is a mark, the model's choice (log 20). -/
def Obligations.ClocksStartRuns : Prop :=
  (∀ (k : Fin 4) (s : State), s.campaign.state = .running → (s.cls k.val).interval ≤ (s.cls k.val).timer →
     ((s.cls k.val).credits < (s.cls k.val).quota →
       exec (.creditAccrual k) s = .next { s.setCls k.val
         { s.cls k.val with timer := 0, credits := (s.cls k.val).credits + 1 } with runDue := true }) ∧
     ((s.cls k.val).quota ≤ (s.cls k.val).credits →
       exec (.creditAccrual k) s = .next (s.setCls k.val { s.cls k.val with timer := 0 }))) ∧
  (∀ (n : Fin 64) (s : State), (s.node n.val).waitPending = true → (s.node n.val).nextEligible ≤ s.now →
     exec (.nextEligibleReached n) s = .next { s.setNode n.val { s.node n.val with waitPending := false } with runDue := true })

/-! ## Access points and nodes (R96, R100, R136 to R143) -/

/-- POINT_SET writes the service state and nothing else of the point; a return to IN_SERVICE starts a run; the reply
carries the lock owner; another state value is refused with BAD_FIELD. The run that it starts (R104) is a mark, the model's
choice (log 20). -/
def Obligations.PointSetWritesTheServiceState : Prop :=
  ∀ (tag : Tag) (p v : Byte) (rest : List Frame) (s : State), s.Takes 0x40 tag [p, v] rest →
    let x := s.point p.toNat
    let reply := replyTo 0x40 tag .ok false [BitVec.ofNat 8 (x.owner.getD 0xFF)]
    (v = 0 → exec (.pointSet tag [p, v]) s = .next
      { (s.answered rest reply).setPoint p.toNat { x with service := .inService } with
        runDue := s.runDue || decide (x.service = .outOfService) }) ∧
    (v = 1 → exec (.pointSet tag [p, v]) s = .next
      ((s.answered rest reply).setPoint p.toNat { x with service := .outOfService })) ∧
    (v ≠ 0 → v ≠ 1 → exec (.pointSet tag [p, v]) s = .next (s.answered rest (replyTo 0x40 tag .badField false [])))

/-- NODE_SET writes the limit, clamped to 1 to 8, the threshold and the auto-hold setting, and starts a run; it changes
no other field of the node. The run that it starts (R104) is a mark, the model's choice (log 20). -/
def Obligations.NodeSetWritesThreeFields : Prop :=
  ∀ (tag : Tag) (p : List Byte) (rest : List Frame) (s : State), s.Takes 0x42 tag p rest → p.length = 4 →
    let n := rd8 p 0
    let limit := max 1 (min (rd8 p 1) 8)
    let sound := n ≤ 63 ∧ rd8 p 2 ∈ [1, 2, 4, 8, 16] ∧ rd8 p 3 ≤ 1
    (sound → exec (.nodeSet tag p) s = .next
      { (s.answered rest (replyTo 0x42 tag .ok (limit != rd8 p 1) [])).setNode n
          { s.node n with limit := limit, threshold := rd8 p 2, autoHold := rd8 p 3 == 1 } with runDue := true }) ∧
    (¬sound → exec (.nodeSet tag p) s = .next (s.answered rest (replyTo 0x42 tag .badField false [])))

/-- NODE_HOLD of an ACTIVE node removes every class entry and every spot probe or release-only entry at the node, and
leaves the node's other fields, the engines, the points and the open loop list alone. The class entries are counted HELD, and
the last of them may end the campaign; the spot entries are answered NODE_HELD. The reply with the two counts stands first,
then the answers in queue order, a NODE_HOLD notice with the cause COMMAND, and the CAMPAIGN_END notice of a campaign that
ends. A HELD node is not held again. That the count holds at 4294967295 is the model's choice (log 22). The run that it
starts (R104) is a mark, the model's choice (log 20). -/
def Obligations.HoldRemovesTheNodesWork : Prop :=
  ∀ (tag : Tag) (b : Byte) (rest : List Frame) (s : State), s.Takes 0x44 tag [b] rest →
    let n := b.toNat
    let at' (c : Nat) : Bool := (s.circuit c).definition.farNode == n
    let spotAt (x : SpotEntry) : Bool := match x with
      | .probe c _ => at' c
      | .releaseOnly c => at' c
      | .calibration _ _ => false
    (63 < n → exec (.nodeHold tag [b]) s = .next (s.answered rest (replyTo 0x44 tag .badField false []))) ∧
    (n ≤ 63 → (s.node n).state = .held →
      exec (.nodeHold tag [b]) s = .next (s.answered rest (replyTo 0x44 tag .ok false [0, 0, 0]))) ∧
    (n ≤ 63 → (s.node n).state = .active →
      let counts := be16 (s.queuedCircuits.countP at') ++ be8 (s.spot.countP spotAt)
      ∃ t, exec (.nodeHold tag [b]) s = .next t ∧ t.node n = { s.node n with state := .held } ∧
        (∀ m, m ≠ n → t.node m = s.node m) ∧
        HoldTakesTheWork s t n [replyTo 0x44 tag .ok false counts] ⟨.notice, 0x84, 0, .ok, false, false,
          [b, 0] ++ be8 (s.node n).level ++ be8 (s.node n).occupancy ++
            be8 (s.openLoops.countP (fun o => o.farNode == n)) ++ counts, none⟩ ∧
        (t.runDue = if s.queuedCircuits.any at' || s.spot.any spotAt then true else s.runDue) ∧
        t.mli.rxBuffer = rest ∧ t.engines = s.engines ∧ t.points = s.points ∧ t.openLoops = s.openLoops ∧ t.amc = s.amc)

/-- NODE_RELEASE: the node becomes ACTIVE at level 0 with both counts 0 and past next-eligible, and keeps its limit,
occupancy, threshold and auto-hold; a run starts; no entry returns and no notice is offered. `waitPending` is the
model's own mark (log 19). The run that it starts (R104) is a mark, the model's choice (log 20). -/
def Obligations.ReleaseClearsTheBackoff : Prop :=
  ∀ (tag : Tag) (b : Byte) (rest : List Frame) (s : State), s.Takes 0x45 tag [b] rest →
    (63 < b.toNat → exec (.nodeRelease tag [b]) s = .next (s.answered rest (replyTo 0x45 tag .badField false []))) ∧
    (b.toNat ≤ 63 →
      exec (.nodeRelease tag [b]) s = .next
        { (s.answered rest (replyTo 0x45 tag .ok false [if (s.node b.toNat).state = .active then 0 else 1])).setNode b.toNat
            { s.node b.toNat with
              state := .active, level := 0, fails := 0, successes := 0, nextEligible := 0, waitPending := false } with
          runDue := true })

/-! ## The open loop list (R150, R153) -/

/-- RELEASE_RETRY: the checks of R150 in order; an accepted retry replies with the entry's total, appends a release-only
entry and starts a run. The run that it starts (R104) is a mark, the model's choice (log 20). -/
def Obligations.RetryQueuesTheEntry : Prop :=
  ∀ (tag : Tag) (p : List Byte) (rest : List Frame) (s : State), s.Takes 0x50 tag p rest → p.length = 2 →
    let c := rd16 p 0
    let refused (st : Status) := exec (.releaseRetry tag p) s = .next (s.answered rest (replyTo 0x50 tag st false []))
    (2047 < c → refused .badField) ∧ (c ≤ 2047 → (s.circuit c).status = .active → refused .circuitBusy) ∧
    (c ≤ 2047 → (s.circuit c).status ≠ .active → (∀ o ∈ s.openLoops, o.circuit ≠ c) → refused .notOpen) ∧
    (∀ o, c ≤ 2047 → (s.circuit c).status ≠ .active → s.openLoops.find? (fun q => q.circuit == c) = some o →
      (SpotEntry.releaseOnly c ∈ s.spot → refused .circuitBusy) ∧
      (SpotEntry.releaseOnly c ∉ s.spot → (s.node o.farNode).state = .held → refused .nodeHeld) ∧
      (SpotEntry.releaseOnly c ∉ s.spot → (s.node o.farNode).state ≠ .held → 8 ≤ s.spot.length → refused .queueFull) ∧
      (SpotEntry.releaseOnly c ∉ s.spot → (s.node o.farNode).state ≠ .held → s.spot.length < 8 →
        exec (.releaseRetry tag p) s = .next
          { s.answered rest (replyTo 0x50 tag .ok false (be8 o.releaseTotal)) with
            spot := s.spot ++ [.releaseOnly c], runDue := true }))

/-- An accepted OPEN_LOOP_CLEAR takes the circuit's entry out of the list and any waiting retry out of the spot queue,
returns the slot, makes the circuit IDLE and writes the manual verdict of R91 (RELEASED, flag MANUAL alone, engine absent, all
counts 0, delay and level absent); the reply carries the entry, then a VERDICT notice is offered. The run that it starts
(R104) is a mark, the model's choice (log 20). -/
def Obligations.ClearReleasesTheSlot : Prop :=
  ∀ (tag : Tag) (p : List Byte) (rest : List Frame) (s : State) (o : OpenLoop), s.Takes 0x51 tag p rest → p.length = 2 →
    let c := rd16 p 0
    let reply := replyTo 0x51 tag .ok false
      (be16 (c + if s.spot.contains (SpotEntry.releaseOnly c) then 32768 else 0) ++ be8 o.farNode ++ be8 o.accessPoint ++
        be8 o.releaseTotal ++ be8 o.activate.length ++ be8 o.deactivate.length ++ be16 o.activate.bits ++
        be16 o.deactivate.bits ++ timeField o.timeEntered)
    let manual : Verdict :=
      { grade := .released
        flags := {
          markersMissed := false, berShort := false, routeShift := false, delayUnmeasured := false, lossRise := false
          levelRise := false, levelUnmeasured := false, soakShortened := false, manual := true }
        campaignNumber := 0, engine := none, loopAttempts := 0, releaseAttempts := 0
        bitsB := 0, errorsE := 0, payloadP := 0, hitsH := 0, expectedX := 0, lossesK := 0
        delayDn := none, levelLm := none }
    c ≤ 2047 → (s.circuit c).status ≠ .active → s.openLoops.find? (fun q => q.circuit == c) = some o → o.farNode < 64 →
    ∃ t, exec (.openLoopClear tag p) s = .next t ∧ t.openLoops = s.openLoops.filter (fun q => q.circuit != c) ∧
      t.spot = s.spot.erase (.releaseOnly c) ∧
      t.node o.farNode = { s.node o.farNode with occupancy := (s.node o.farNode).occupancy - 1 } ∧
      (∀ m, m ≠ o.farNode → t.node m = s.node m) ∧
      t.circuit c = { s.circuit c with status := .idle, last := some manual } ∧
      (∀ d, d ≠ c → t.circuit d = s.circuit d) ∧ t.runDue = true ∧
      t.mli.tx = s.mli.tx ++ reply ::
        (if s.mli.tx.length + 1 < 48 then [⟨.notice, 0x81, 0, .ok, false, false, be16 c ++ [0, 0] ++ manual.block, none⟩] else []) ∧
      t.mli.rxBuffer = rest ∧ t.engines = s.engines ∧ t.points = s.points ∧ t.classes = s.classes ∧
      t.campaign = s.campaign ∧ t.amc = s.amc ∧ t.now = s.now

/-! ## Refusals -/

/-- The checks of CAMPAIGN_START (R115, its windows, spans, nodes and engines field by field, behind the length of R181),
PROBE_CIRCUIT (R132) and OPEN_LOOP_CLEAR (R153) are made in order; each failure is refused with its status and changes no
state. -/
def Obligations.ChecksAreMadeInOrder : Prop :=
  ∀ (tag : Tag) (p : List Byte) (rest : List Frame) (s : State),
    (s.Takes 0x30 tag p rest → 42 ≤ p.length →
        let spans := rd8 p 41
        let nodes := rd8 p (42 + 2 * spans)
        let refused (st : Status) := exec (.campaignStart tag p) s = .next (s.answered rest (replyTo 0x30 tag st false []))
        let windowsFit := ∀ i, i < 4 → rd16 p (25 + 4 * i) ≤ 2047 ∧ rd16 p (27 + 4 * i) ≤ 2047
        let spansFit := spans ≤ 16 ∧ ∀ i, i < spans → rd16 p (42 + 2 * i) ≤ 511
        let nodesFit := nodes ≤ 64 ∧ ∀ i, i < nodes → rd8 p (43 + 2 * spans + i) ≤ 63
        let enabled (e : Nat) : Prop := (s.engine e).state ≠ .offline ∧ (s.engine e).disablePending = false
        let wideWork := ∃ c, (s.circuit c).defState = .defined ∧ (s.circuit c).status = .idle ∧
          (carriedSelection p).passes c (s.circuit c).definition = true ∧ (s.circuit c).definition.rate = .wide
        let busy := s.campaign.state ≠ .idle
        (16 < spans ∨ (43 + 2 * spans ≤ p.length ∧ (64 < nodes ∨ p.length = 43 + 2 * spans + nodes)) →
          (busy → refused .campaignBusy) ∧ (¬busy → 1 < rd8 p 0 → refused .badField) ∧
          (¬busy → rd8 p 0 ≤ 1 → 2 < rd8 p 20 → refused .badField) ∧
          (¬busy → rd8 p 0 ≤ 1 → rd8 p 20 ≤ 2 → ¬(windowsFit ∧ spansFit ∧ nodesFit) → refused .badField) ∧
          (¬busy → rd8 p 0 ≤ 1 → rd8 p 20 ≤ 2 → windowsFit → spansFit → nodesFit →
            ((∀ e, e < 16 → ¬enabled e) ∨ (wideWork ∧ ∀ b, b < 8 → ¬(enabled (2 * b) ∧ enabled (2 * b + 1)))) →
            refused .noEngines)) ∧
        (spans ≤ 16 → (p.length < 43 + 2 * spans ∨ (nodes ≤ 64 ∧ p.length ≠ 43 + 2 * spans + nodes)) →
          refused .badLength)) ∧
    (s.Takes 0x38 tag p rest → p.length = 3 →
        let c := rd16 p 0
        let r := s.circuit c
        let refused (st : Status) := exec (.probeCircuit tag p) s = .next (s.answered rest (replyTo 0x38 tag st false []))
        let fields := c ≤ 2047 ∧ rd8 p 2 ≤ 1
        let idle := fields ∧ r.defState = .defined ∧ r.status = .idle
        let open' := idle ∧ (s.node r.definition.farNode).state ≠ .held
        let reachable := open' ∧ (s.point r.definition.accessPoint).service = .inService
        (2047 < c → refused .badField) ∧ (c ≤ 2047 → 1 < rd8 p 2 → refused .badField) ∧
        (fields → r.defState ≠ .defined → refused .notDefined) ∧
        (fields → r.defState = .defined → r.status ≠ .idle → refused .circuitBusy) ∧
        (idle → (s.node r.definition.farNode).state = .held → refused .nodeHeld) ∧
        (open' → (s.point r.definition.accessPoint).service = .outOfService → refused .pointOut) ∧
        (reachable → rd8 p 2 = 1 → (∀ i, i < 8 → s.slot i ≠ none) → refused .queueFull) ∧
        (reachable → (rd8 p 2 = 0 ∨ ∃ i, i < 8 ∧ s.slot i = none) → 8 ≤ s.spot.length → refused .queueFull)) ∧
    (s.Takes 0x51 tag p rest → p.length = 2 →
        let c := rd16 p 0
        let refused (st : Status) := exec (.openLoopClear tag p) s = .next (s.answered rest (replyTo 0x51 tag st false []))
        (2047 < c → refused .badField) ∧ (c ≤ 2047 → (s.circuit c).status = .active → refused .circuitBusy) ∧
        (c ≤ 2047 → (s.circuit c).status ≠ .active → (∀ o ∈ s.openLoops, o.circuit ≠ c) → refused .notOpen))

/-! ## What a grading does (R43, R75, R76, R89, R127, R130, R133) -/

/-- The campaign's last probe is graded (R127). -/
def LastGraded (s : State) : Prop :=
  (s.campaign.state = .running ∨ s.campaign.state = .draining) ∧ (∀ k, k < 4 → (s.cls k).queue = []) ∧ s.campaign.inFlight ≤ 1

/-- A campaign probe has been graded: it is counted under its grade and no longer in flight, and the campaign ends with the
last one (R89, R127). -/
def CountedIn (s t : State) (v : Verdict) : Prop :=
  let place := [Grade.stuckLoop, .noLoop, .aisReceived, .foreignEcho, .signalDropout, .routeFault, .errorFault, .lossFault,
    .marginal, .limited, .pass, .blocked, .cancelled].idxOf v.grade
  (∀ i : Fin 13, t.campaign.summary.grades[i] =
    if i.val = place then min (s.campaign.summary.grades[i] + 1) 4294967295 else s.campaign.summary.grades[i]) ∧
  t.campaign = { s.campaign with
    inFlight := s.campaign.inFlight - 1, summary := { s.campaign.summary with grades := t.campaign.summary.grades }
    state := t.campaign.state, endCause := t.campaign.endCause, deadline := t.campaign.deadline } ∧
  (LastGraded s → t.campaign.state = .idle ∧ t.campaign.deadline = none ∧
    t.campaign.endCause = (if s.campaign.state = .draining then s.campaign.endCause else .completed) ∧
    ∀ k, k < 4 → t.cls k = { s.cls k with credits := 0, timer := 0 }) ∧
  (¬LastGraded s → t.campaign.state = s.campaign.state ∧ t.campaign.deadline = s.campaign.deadline ∧
    t.campaign.endCause = s.campaign.endCause ∧ t.classes = s.classes)

/-- The groups of grades of R130. -/
def sameGroup (g h : Grade) : Prop :=
  let group (g : Grade) : Nat :=
    if g = .pass ∨ g = .limited ∨ g = .released then 0
    else if g = .marginal then 1
    else if g = .stuckLoop then 3
    else if g = .blocked ∨ g = .cancelled then 4
    else 2
  group g = group h

/-- The verdict of a grading goes out: a campaign's under the notice mode, a spot probe's as a notice or a deferred reply
(R130, R133). -/
def VerdictGoesOut (s : State) (x : Context) (c : Nat) (v : Verdict) (records : List TxRecord) : Prop :=
  let notice : TxRecord := ⟨.notice, 0x81, 0, .ok, false, false, be16 c ++ [0, 0] ++ v.block, none⟩
  let offered : Prop := match s.campaign.params.noticeMode with
    | .all => True
    | .nonPass => v.grade ≠ .pass
    | .change => ∀ w, (s.circuit c).last = some w → ¬sameGroup w.grade v.grade
  (x.kind = .campaign → offered → records = [notice]) ∧ (x.kind = .campaign → ¬offered → records = []) ∧
    (x.kind ≠ .campaign → x.slot = none → records = [notice]) ∧
    (x.kind ≠ .campaign → ∀ i d, x.slot = some i → s.slot i = some d → d.placed = false →
      records = [⟨.reply, d.code, d.tag, .ok, false, false, be16 c ++ v.block, some i⟩])

/-- The CAMPAIGN_END notice, where the grading of a campaign probe ends the campaign (R127, section 11.6). -/
def EndGoesOut (s t : State) (x : Context) (records : List TxRecord) : Prop :=
  (x.kind = .campaign → LastGraded s → records = [endRecord t]) ∧ (x.kind ≠ .campaign ∨ ¬LastGraded s → records = [])

/-- A waiting deferred reply takes the verdict of a spot probe; any other probe's verdict needs none. -/
def VerdictHasPlace (s : State) (x : Context) : Prop :=
  x.kind = .campaign ∨ x.slot = none ∨ ∃ i d, x.slot = some i ∧ s.slot i = some d ∧ d.placed = false

/-- The record that engine `e` hands over (R43): its own, or with the lane of the follower it leads the sums of both, E, K, H
and X held at their limits, the lead's T, and both lanes' levels. -/
def handedOver (s : State) (e : Nat) (x : Context) : Measured :=
  let a := (s.engine e).meas
  let b := (s.engine (e + 1)).meas
  if x.rate = .wide then
    { bitsB := a.bitsB + b.bitsB
      errorsE := min (a.errorsE + b.errorsE) 4294967295
      hitsH := min (a.hitsH + b.hitsH) 30
      expectedX := min (a.expectedX + b.expectedX) 30
      lossesK := min (a.lossesK + b.lossesK) 255
      ticksT := a.ticksT
      lanes := [(a.levelS, a.samplesN), (b.levelS, b.samplesN)] }
  else
    { bitsB := a.bitsB, errorsE := a.errorsE, hitsH := a.hitsH, expectedX := a.expectedX, lossesK := a.lossesK
      ticksT := a.ticksT, lanes := [(a.levelS, a.samplesN)] }

/-- What the probe of engine `e` is graded by (R75, R76): the circuit record and its baselines as they stand, the lead's local
offset, the governing set's thresholds, and the mode, that of the campaign for a campaign probe and VERIFY for any other. -/
def gradedBy (s : State) (e c : Nat) (x : Context) : GradeLimits :=
  let r := s.circuit c
  { mode := if x.kind = .campaign then s.campaign.kind else .verify
    exponent := r.definition.exponent
    windowLow := r.definition.windowLow
    windowHigh := r.definition.windowHigh
    minLevel := r.definition.minLevel
    baseDelay := r.baseDelay
    baseLevel := r.baseLevel
    offset := (s.engine e).localOffset
    shiftTolerance := s.campaign.params.shiftTolerance
    lossWarn := s.campaign.params.lossWarn
    lossFail := s.campaign.params.lossFail }

/-! ## The matrix link (R49, R158 to R166, R183) -/

/-- The seven bytes of an answer (section 11.7). -/
def answerFrame (code seq op reason : Byte) : List Byte :=
  0x5A :: [code, seq, op, reason] ++ crcBytes [code, seq, op, reason]

/-- The step `c` completes the current request `q` (R159): its answer DONE or REFUSED with a reason, at an answer receiver
that hunts, or its timeout at or behind its time (late: the model's choice, log 3). -/
def Completes (s : State) (c : Instr) (q : CurrentRequest) : Completion → Prop
  | .done => s.amc.current = some q ∧ s.amc.rx = [] ∧
      ∃ seq : Byte, q.seq = seq.toNat ∧ c = .matrixAnswer (answerFrame 1 seq (BitVec.ofNat 8 q.request.op.byte) 0)
  | .refused r => s.amc.current = some q ∧ s.amc.rx = [] ∧
      ∃ seq : Byte, q.seq = seq.toNat ∧
        c = .matrixAnswer (answerFrame 2 seq (BitVec.ofNat 8 q.request.op.byte) (BitVec.ofNat 8 r.byte))
  | .timeout => s.amc.current = some q ∧ c = .matrixTimeout ∧ ∃ sent, q.sentAt = some sent ∧ sent + q.timeout ≤ s.now

/-- The requests behind the current one move up, `more` joining them (R158, R159). -/
def MovesOn (s t : State) (more : List Request) : Prop :=
  t.amc.current = (s.amc.fifo ++ more).head?.map (fun r => ⟨r, s.amc.nextSeq, s.amc.timeout, none⟩) ∧
    t.amc.fifo = (s.amc.fifo ++ more).tail

/-- A MATRIX_FAULT notice for the completion of an engine's request (R164, section 11.6). -/
def faultRecord (q : CurrentRequest) (e : Nat) (k : Completion) (link : LinkState) : TxRecord :=
  ⟨.notice, 0x85, 0, .ok, false, false,
    be8 q.request.op.byte ++ be8 q.seq ++
      be8 ((if q.request.point.isSome then 1 else 0) + (if q.request.lanes.isSome then 2 else 0) + 4) ++
      be8 (q.request.point.getD 0) ++ be16 (q.request.lanes.getD 0).toNat ++ be8 e ++ be8 k.byte ++ be8 k.reasonByte ++
      be8 link.byte, none⟩

/-- An engine has left a probe, a calibration or quarantine, for IDLE, or OFFLINE with disable pending (R65, R41). -/
def HasLeft (g h : Engine) : Prop :=
  h.state = (if g.disablePending = true then .offline else .idle) ∧ h.disablePending = false ∧ h.context = none ∧
    h.meas = g.meas ∧ h.localOffset = g.localOffset

/-- The reply of a calibration (R41, section 11.5). -/
def calibrationReply (d : DeferredSlot) (i e : Nat) (x : Context) (g : Engine) (st : EngineState) : TxRecord :=
  ⟨.reply, d.code, d.tag, if x.calDelay.isSome then .ok else .calFailed, false, false,
    be8 e ++ (match x.calDelay with
      | some k => be8 1 ++ be24 k
      | none => [0, 0, 0, 0]) ++ be16 g.localOffset ++ be8 st.byte, some i⟩

/-- MATRIX_SET stores the clamped timeout and settle time and replies with the values stored; the FIFO, the current
request, the link state and a wait under way stand as they were, and no run starts. -/
def Obligations.MatrixSetStoresBothTimings : Prop :=
  ∀ (tag : Tag) (p : List Byte) (rest : List Frame) (s : State), s.Takes 0x60 tag p rest →
    let timeout := max 100 (min (rd16 p 0) 10000)
    let settle := max 0 (min (rd16 p 2) 1000)
    (p.length = 4 → exec (.matrixSet tag p) s = .next
      { s.answered rest (replyTo 0x60 tag .ok (timeout != rd16 p 0 || settle != rd16 p 2) (be16 timeout ++ be16 settle)) with
        amc := { s.amc with timeout := timeout, settle := settle } }) ∧
    (p.length ≠ 4 → exec (.matrixSet tag p) s = .next (s.answered rest (replyTo 0x60 tag .badLength false [])))

/-- MATRIX_RESYNC is refused while an engine is active, then while no slot is free; accepted, it takes a slot (the lowest
free one: the model's choice, log 14), makes the link UNSYNCED and issues a RESET_ALL, with no reply yet. At the DONE of
that RESET_ALL the link is SYNCED unless a later one waits, the reply carries the engines that leave quarantine, and each
leaves with its lock cleared; at its REFUSED or TIMEOUT a MATRIX_FAULT notice and a reply MATRIX_UNSYNCED say so and nothing
else changes. A reset's RESET_ALL ends the wait of start-up. The order of the reply against those of removed calibration
entries is the model's choice (log 15). The run that it starts (R104) is a mark, the model's choice (log 20). -/
def Obligations.ResyncIssuesAResetAll : Prop :=
  (∀ (tag : Tag) (rest : List Frame) (s : State), s.Takes 0x61 tag [] rest →
    let refused (st : Status) := exec (.matrixResync tag []) s = .next (s.answered rest (replyTo 0x61 tag st false []))
    ((∃ e, e < 16 ∧ (s.engine e).state.active = true) → refused .enginesActive) ∧
    ((∀ e, e < 16 → (s.engine e).state.active = false) → (∀ i, i < 8 → s.slot i ≠ none) → refused .queueFull) ∧
    (∀ i, (∀ e, e < 16 → (s.engine e).state.active = false) → i < 8 → s.slot i = none → (∀ j, j < i → s.slot j ≠ none) →
      let r : Request := ⟨.resetAll, none, none, .resync i⟩
      ∃ t, exec (.matrixResync tag []) s = .next t ∧ t.amc.link = .unsynced ∧
        (s.amc.current ≠ none → t.amc = { s.amc with fifo := s.amc.fifo ++ [r], link := .unsynced }) ∧
        (s.amc.current = none → s.amc.fifo = [] →
          t.amc = { s.amc with
            current := some ⟨r, s.amc.nextSeq, s.amc.timeout, none⟩, nextSeq := (s.amc.nextSeq + 1) % 256, link := .unsynced }) ∧
        t = { s with
          mli := { s.mli with
            rxBuffer := rest
            slots := s.mli.slots.setIfInBounds i (some ⟨0x61, tag, .resync, s.mli.nextOrder, false⟩)
            nextOrder := s.mli.nextOrder + 1 }
          amc := t.amc })) ∧
  ∀ (s : State) (c : Instr) (q : CurrentRequest) (k : Completion), Completes s c q k → q.request.op = .resetAll →
    let later := ∃ r ∈ s.amc.fifo, r.op = .resetAll
    let freed (e : Nat) : Prop := e < 16 ∧ (s.engine e).state = .quarantined
    (∀ i d, q.request.requester = .resync i → s.slot i = some d → d.placed = false →
      ∃ t, exec c s = .next t ∧ MovesOn s t [] ∧ t.circuits = s.circuits ∧ t.nodes = s.nodes ∧ t.classes = s.classes ∧
        t.campaign = s.campaign ∧ t.openLoops = s.openLoops ∧ t.now = s.now ∧
        (k = .done → (later → t.amc.link = .unsynced) ∧ (¬later → t.amc.link = .synced ∧ t.runDue = true) ∧
          (∀ e, freed e → HasLeft (s.engine e) (t.engine e)) ∧
          (∀ e, ¬freed e → t.engine e = s.engine e) ∧
          (∀ p, p < 256 → (∃ e, (s.point p).owner = some e ∧ freed e) → t.point p = { s.point p with owner := none }) ∧
          (∀ p, p < 256 → (∀ e, (s.point p).owner = some e → ¬freed e) → t.point p = s.point p) ∧
          ∃ more, t.mli.tx = s.mli.tx ++ ⟨.reply, d.code, d.tag, .ok, false, false,
            be8 t.amc.link.byte ++ be8 (s.engines.toList.countP (fun g => g.state == .quarantined)) ++ [0, 0], some i⟩ ::
              more) ∧
        (k ≠ .done → t.amc.link = .unsynced ∧ t.engines = s.engines ∧ t.points = s.points ∧ t.spot = s.spot ∧
          t.slot i = some { d with placed := true } ∧
          ∃ fault, t.mli.tx = s.mli.tx ++
            (if s.mli.tx.length < 48 then [⟨.notice, 0x85, 0, .ok, false, false, fault, none⟩] else []) ++
            [⟨.reply, d.code, d.tag, .matrixUnsynced, false, false,
              be8 0 ++ be8 0 ++ be8 k.byte ++ be8 k.reasonByte, some i⟩])) ∧
    (∀ u, q.request.requester = .reset → s.mli.startup = some u → (∀ e, ¬freed e) →
      ∃ t, exec c s = .next t ∧ MovesOn s t [] ∧
        (k = .done → ¬later → t.amc.link = .synced ∧ t.runDue = true) ∧ (k ≠ .done ∨ later → t.amc.link = .unsynced) ∧
        t.mli = { s.mli with startup := some { u with link := some t.amc.link } } ∧
        t = { s with amc := t.amc, mli := t.mli, runDue := t.runDue })

/-- An answer of seven bytes that agrees with its CRC, at an idle receiver: one whose number is not the current request's
only counts as late; DONE for a CONNECT or LOOP_PORT begins the engine's settle wait with the settle time now held, and the
next request becomes current. DONE for the DISCONNECT of a probe clears its lock and lets the engine, with its follower,
leave for IDLE or OFFLINE and starts a run; DONE for a calibration's answers its command. That the replies of removed
calibration entries stand behind that answer is the model's choice (log 15). The run that it starts (R104) is a mark, the
model's choice (log 20). -/
def Obligations.AnswersReachTheEngine : Prop :=
  (∀ (seq : Byte) (s : State) (bytes : List Byte), s.amc.rx = [] →
    (∀ (code op reason : Byte), (code = 1 ∨ (code = 2 ∧ (reason = 1 ∨ reason = 2 ∨ reason = 3))) →
      (op = 1 ∨ op = 2 ∨ op = 3 ∨ op = 4) →
      bytes = answerFrame code seq op reason →
      (∀ q, s.amc.current = some q → q.seq ≠ seq.toNat) →
      exec (.matrixAnswer bytes) s = .next
        { s with amc := { s.amc with rxAt := s.now, lateAnswers := min (s.amc.lateAnswers + 1) 65535 } }) ∧
    (∀ (q : CurrentRequest) (e : Fin 16) (x : Context) (op : Byte),
      bytes = answerFrame 1 seq op 0 →
      s.amc.current = some q → q.seq = seq.toNat → q.request.requester = .engine e.val →
      ((op = 1 ∧ q.request.op = .connect) ∨ (op = 3 ∧ q.request.op = .loopPort)) →
      (s.engine e.val).context = some x →
      ∃ t, exec (.matrixAnswer bytes) s = .next t ∧
        t.engine e.val = { s.engine e.val with settleUntil := some (s.now + s.amc.settle) } ∧
        (∀ d, d ≠ e.val → t.engine d = s.engine d) ∧ t.amc.link = s.amc.link ∧ t.amc.fifo = s.amc.fifo.tail ∧
        t.amc.current = s.amc.fifo.head?.map (fun r => ⟨r, s.amc.nextSeq, s.amc.timeout, none⟩) ∧
        t.amc.lateAnswers = s.amc.lateAnswers ∧ t = { s with engines := t.engines, amc := t.amc })) ∧
  ∀ (s : State) (c : Instr) (q : CurrentRequest) (e : Fin 16) (x : Context), Completes s c q .done →
    q.request.requester = .engine e.val → q.request.op = .disconnect → (s.engine e.val).context = some x →
    (x.rate = .wide → e.val + 1 < 16 ∧ (s.engine (e.val + 1)).wide = false) →
    (∀ p, x.kind ≠ .calibration → x.accessPoint = some p → p < 256 →
      ∃ t, exec c s = .next t ∧ t.point p = { s.point p with owner := none } ∧ (∀ m, m ≠ p → t.point m = s.point m) ∧
        HasLeft (s.engine e.val) (t.engine e.val) ∧
        (x.rate = .wide → HasLeft (s.engine (e.val + 1)) (t.engine (e.val + 1))) ∧
        (∀ d, d ≠ e.val → (x.rate = .base ∨ d ≠ e.val + 1) → t.engine d = s.engine d) ∧ t.runDue = true ∧
        MovesOn s t [] ∧ t.amc.link = s.amc.link ∧ t.circuits = s.circuits ∧ t.nodes = s.nodes ∧ t.classes = s.classes ∧
        t.campaign = s.campaign ∧ t.openLoops = s.openLoops ∧ t.now = s.now) ∧
    (∀ i d, x.kind = .calibration → x.slot = some i → s.slot i = some d → d.placed = false →
      ∃ t, exec c s = .next t ∧ HasLeft (s.engine e.val) (t.engine e.val) ∧
        (∀ m, m ≠ e.val → t.engine m = s.engine m) ∧ MovesOn s t [] ∧ t.amc.link = s.amc.link ∧
        (∃ more, t.mli.tx = s.mli.tx ++
          calibrationReply d i e.val x (s.engine e.val) (if (s.engine e.val).disablePending then .offline else .idle) ::
            more) ∧
        t.points = s.points ∧ t.circuits = s.circuits ∧ t.nodes = s.nodes ∧ t.classes = s.classes ∧
        t.campaign = s.campaign ∧ t.openLoops = s.openLoops ∧ t.now = s.now)

/-- REFUSED or TIMEOUT of the CONNECT of a CAMPAIGN or SPOT probe, BASE or WIDE: the node slot is returned, the circuit is IDLE
with a verdict of grade BLOCKED, a campaign probe is counted BLOCKED and may end its campaign, and a MATRIX_FAULT notice, the
verdict and CAMPAIGN_END go out in this order. At REFUSED the point goes OUT_OF_SERVICE with its lock cleared, and the engine
and its follower leave for IDLE, or OFFLINE with disable pending and without their calibration entries; at TIMEOUT point and
lock stand, and the engine asks for a DISCONNECT. The slot of a RELEASE_ONLY probe passes, at either failure, to a fresh entry
with the total unchanged, and its circuit is OPEN_LOOP. A failed LOOP_PORT fails the calibration: REFUSED answers its command
and lets the engine leave, TIMEOUT asks for a DISCONNECT. An event taken late (log 3), the replies behind an engine's leaving
(log 15) and a count held at 4294967295 (log 22) are the model's choices. The run that it starts (R104) is a mark, the
model's choice (log 20). -/
def Obligations.RefusedConnectBlocksTheProbe : Prop :=
  (∀ (s : State) (c : Instr) (q : CurrentRequest) (k : Completion) (e : Fin 16) (x : Context) (p n b : Nat),
    Completes s c q k → k ≠ .done → q.request.requester = .engine e.val → q.request.op = .connect →
    (s.engine e.val).context = some x → x.accessPoint = some p → p < 256 → x.farNode = some n → n < 64 →
    x.circuit = some b → b < 2048 → (x.rate = .wide → e.val + 1 < 16 ∧ (s.engine (e.val + 1)).wide = false) →
    let ask : Request := ⟨.disconnect, some p, some (laneSet e.val (x.rate == .wide)), .engine e.val⟩
    let works (d : Nat) : Prop := d = e.val ∨ (x.rate = .wide ∧ d = e.val + 1)
    let leavesOffline (d : Nat) : Bool :=
      (s.engine d).disablePending && (d == e.val || (x.rate == .wide && d == e.val + 1))
    ((x.kind = .campaign ∨ x.kind = .spot) →
      ∃ t v r, exec c s = .next t ∧ v.grade = .blocked ∧ v.campaignNumber = x.campaignNumber ∧ v.engine = some e.val ∧
        t.circuit b = { s.circuit b with status := .idle, last := some v } ∧ (∀ d, d ≠ b → t.circuit d = s.circuit d) ∧
        t.node n = { s.node n with occupancy := (s.node n).occupancy - 1 } ∧ (∀ m, m ≠ n → t.node m = s.node m) ∧
        (x.kind = .campaign → CountedIn s t v) ∧
        (x.kind = .spot → t.campaign = s.campaign ∧ t.classes = s.classes) ∧
        VerdictGoesOut s x b v r ∧
        (s.mli.tx.length < 46 → VerdictHasPlace s x → ∃ ended more, EndGoesOut s t x ended ∧
          t.mli.tx = s.mli.tx ++ faultRecord q e.val k s.amc.link :: r ++ ended ++ more ∧ (t.spot = s.spot → more = [])) ∧
        t.amc.link = s.amc.link ∧ t.openLoops = s.openLoops ∧ t.now = s.now ∧ t.runDue = true ∧
        (k = .timeout → t.points = s.points ∧ t.spot = s.spot ∧ (t.engine e.val).state = .disconnecting ∧
          (t.engine e.val).meas = (s.engine e.val).meas ∧ s.OnlyEngine t e.val ∧ MovesOn s t [ask]) ∧
        (k ≠ .timeout → t.point p = ⟨.outOfService, none⟩ ∧ (∀ m, m ≠ p → t.point m = s.point m) ∧
          (∀ d, works d → HasLeft (s.engine d) (t.engine d)) ∧ (∀ d, ¬works d → t.engine d = s.engine d) ∧
          t.spot = s.spot.filter (fun y => match y with
            | .calibration d _ => !leavesOffline d
            | .probe _ _ => true
            | .releaseOnly _ => true) ∧
          MovesOn s t [])) ∧
    (x.kind = .releaseOnly →
      ∃ t v, exec c s = .next t ∧ v.grade = .blocked ∧
        t.circuit b = { s.circuit b with status := .openLoop, last := some v } ∧ (∀ d, d ≠ b → t.circuit d = s.circuit d) ∧
        t.openLoops = s.openLoops ++ [⟨b, n, p, x.activate, x.deactivate, s.now, x.releaseTotal.getD 0⟩] ∧
        t.nodes = s.nodes ∧ t.campaign = s.campaign ∧ t.classes = s.classes ∧
        (s.mli.tx.length < 47 → x.slot = none → ∃ more, t.mli.tx = s.mli.tx ++ faultRecord q e.val k s.amc.link ::
          ⟨.notice, 0x81, 0, .ok, false, false, be16 b ++ [0, 0] ++ v.block, none⟩ :: more) ∧
        (k = .timeout → t.points = s.points ∧ (t.engine e.val).state = .disconnecting ∧ MovesOn s t [ask]) ∧
        (k ≠ .timeout → t.point p = ⟨.outOfService, none⟩ ∧ (∀ m, m ≠ p → t.point m = s.point m) ∧ MovesOn s t [] ∧
          ∀ d, works d → HasLeft (s.engine d) (t.engine d)))) ∧
  ∀ (s : State) (c : Instr) (q : CurrentRequest) (k : Completion) (e : Fin 16) (x : Context),
    Completes s c q k → k ≠ .done → q.request.requester = .engine e.val → q.request.op = .loopPort →
    (s.engine e.val).context = some x → x.kind = .calibration → x.rate = .base → x.calDelay = none →
    ∃ t, exec c s = .next t ∧ t.points = s.points ∧ t.circuits = s.circuits ∧ t.nodes = s.nodes ∧
      t.openLoops = s.openLoops ∧ t.classes = s.classes ∧ t.campaign = s.campaign ∧
      (t.engine e.val).localOffset = (s.engine e.val).localOffset ∧ (∀ d, d ≠ e.val → t.engine d = s.engine d) ∧
      (k = .timeout → (t.engine e.val).state = .disconnecting ∧
        MovesOn s t [⟨.disconnect, x.accessPoint, some (laneSet e.val false), .engine e.val⟩]) ∧
      (k ≠ .timeout → HasLeft (s.engine e.val) (t.engine e.val) ∧ MovesOn s t [] ∧
        ∀ i d, x.slot = some i → s.slot i = some d → d.placed = false → s.mli.tx.length < 48 →
          ∃ more, t.mli.tx = s.mli.tx ++ faultRecord q e.val k s.amc.link ::
            calibrationReply d i e.val x (s.engine e.val) (if (s.engine e.val).disablePending then .offline else .idle) ::
              more)

/-- REFUSED or TIMEOUT of a DISCONNECT: the engine, and the follower it led, are QUARANTINED with no context and their
records kept, the lock stays, and a MATRIX_FAULT notice is followed by an ENGINE_QUARANTINE notice. A calibration's command
is answered with the state QUARANTINED, behind both notices (the model's choice, log 16). An event taken late is the
model's choice (log 3). -/
def Obligations.FailedDisconnectQuarantines : Prop :=
  ∀ (s : State) (c : Instr) (q : CurrentRequest) (k : Completion) (e : Fin 16) (x : Context),
    Completes s c q k → k ≠ .done → q.request.requester = .engine e.val →
    q.request.op = .disconnect → (s.engine e.val).context = some x → (x.rate = .wide → e.val + 1 < 16) →
    ∃ t, exec c s = .next t ∧
      (∀ d, (d = e.val ∨ (x.rate = .wide ∧ d = e.val + 1)) →
        (t.engine d).state = .quarantined ∧ (t.engine d).context = none ∧ (t.engine d).meas = (s.engine d).meas ∧
        (t.engine d).disablePending = (s.engine d).disablePending ∧
        (t.engine d).localOffset = (s.engine d).localOffset) ∧
      (∀ d, d ≠ e.val → (x.rate = .base ∨ d ≠ e.val + 1) → t.engine d = s.engine d) ∧
      MovesOn s t [] ∧ t.amc.link = s.amc.link ∧
      (s.mli.tx.length < 47 → t.mli.tx = s.mli.tx ++ [faultRecord q e.val k s.amc.link,
        ⟨.notice, 0x86, 0, .ok, false, false,
          be8 e.val ++ be8 (if x.rate = .wide then e.val + 1 else 0xFF) ++
            (match x.accessPoint with
              | some p => be8 1 ++ be8 p
              | none => [0, 0]) ++ be16 (x.circuit.getD 0xFFFF) ++ be8 k.byte ++ be8 k.reasonByte ++
            be8 (t.engines.toList.countP (fun g => g.state == .quarantined)), none⟩] ++
        (match x.slot with
          | some i => if x.kind = .calibration then (match s.slot i with
              | some d => if d.placed then [] else [calibrationReply d i e.val x (s.engine e.val) .quarantined]
              | none => []) else []
          | none => [])) ∧
      t = { s with engines := t.engines, amc := t.amc, mli := t.mli }

/-! ## The management link (R169 to R178) -/

/-- A whole frame at a receiver in HUNT joins the receive buffer, or is an overrun when four wait; its status and flag bytes are
spare. Three of the frame errors of R169 are stated here: another CRC, a length below 10 or above 1,024, behind whose second
byte the next byte is examined as a possible sync byte, and a body shorter than its header, which a frame of length 10 has.
Each is a frame error whether or not the buffer is full. The line error and the gap are LinkEventsDoOneThing. A byte in HUNT
that is no sync byte is discarded without count, and in start-up every byte. -/
def Obligations.FramesJoinTheBuffer : Prop :=
  ∀ (f : Frame) (s : State), f.payload.length ≤ 1013 →
    (s.mli.startup = none → s.mli.receiver = .hunt →
      (s.mli.rxBuffer.length < 4 → exec (.frameReceived f.bytes) s = .next
        { s with mli := { s.mli with rxAt := s.now, rxBuffer := s.mli.rxBuffer ++ [f] } }) ∧
      (4 ≤ s.mli.rxBuffer.length → exec (.frameReceived f.bytes) s = .next
        { s with mli := { s.mli with rxAt := s.now, overruns := min (s.mli.overruns + 1) 65535 } }) ∧
      (∀ status flags : Byte,
        let covered := be16 (f.payload.length + 11) ++ [f.kind, f.code] ++ be16 f.tag.toNat ++ [status, flags] ++ f.payload
        exec (.frameReceived (0xA5 :: covered ++ crcBytes covered)) s = exec (.frameReceived f.bytes) s) ∧
      (∀ a b : Byte, f.bytes.drop (f.bytes.length - 2) ≠ [a, b] →
        exec (.frameReceived (f.bytes.take (f.bytes.length - 2) ++ [a, b])) s = .next
          { s with mli := { s.mli with rxAt := s.now, frameErrors := min (s.mli.frameErrors + 1) 65535 } }) ∧
      (∀ (high low : Byte) (behind : List Byte),
        256 * high.toNat + low.toNat < 10 ∨ 1024 < 256 * high.toNat + low.toNat →
        exec (.frameReceived ([0xA5, high, low] ++ behind)) s = exec (.frameReceived behind)
          { s with mli := { s.mli with rxAt := s.now, frameErrors := min (s.mli.frameErrors + 1) 65535 } }) ∧
      (∀ body crc : List Byte, body.length = 5 → crc.length = 2 →
        exec (.frameReceived ([0xA5, 0, 10] ++ body ++ crc)) s = .next
          { s with mli := { s.mli with rxAt := s.now, frameErrors := min (s.mli.frameErrors + 1) 65535 } }) ∧
      ∀ (b : Byte) (behind : List Byte), b ≠ 0xA5 →
        exec (.frameReceived (b :: behind)) s = exec (.frameReceived behind) s) ∧
    (s.mli.startup ≠ none → ∀ bytes, exec (.frameReceived bytes) s = .next s)

/-- The small events of the two links: a line error or a gap of 10 ms inside a frame discards and counts it, a line
error outside one does nothing; a gap of 10 ms discards an answer begun; REQUEST_SENT starts the timeout; RECORD_SENT
takes the head record and frees its slot; READY ends start-up. A byte behind a gap of 10 ms in an answer does not join it: the
frame is discarded and the byte hunted in. A record that leaves and brings the transmit queue below 56 makes the taking of the
waiting head frame due, and in a `timely` run nothing but a moment that has come goes before that taking. An event taken
late, or one whose condition does not hold, is the model's choice (logs 2, 3). -/
def Obligations.LinkEventsDoOneThing : Prop :=
  ∀ s : State,
    let discarded := { s with mli := { s.mli with receiver := .hunt, frameErrors := min (s.mli.frameErrors + 1) 65535 } }
    (s.mli.startup = none → s.mli.receiver ≠ .hunt → exec .lineError s = .next discarded) ∧
    (s.mli.startup = none → s.mli.receiver = .hunt → exec .lineError s = .next s) ∧
    (s.mli.startup = none → s.mli.receiver ≠ .hunt → s.mli.rxAt + 10 ≤ s.now → exec .frameGap s = .next discarded) ∧
    (s.amc.rx ≠ [] → s.amc.rxAt + 10 ≤ s.now → exec .matrixAnswerGap s = .next { s with amc := { s.amc with rx := [] } }) ∧
    (∀ q, s.amc.current = some q → q.sentAt = none →
      exec .requestSent s = .next { s with amc := { s.amc with current := some { q with sentAt := some s.now } } }) ∧
    (∀ r more, s.mli.tx = r :: more →
      exec .recordSent s = .next { s with mli := { s.mli with
        tx := more
        slots := match r.slot with
          | some i => s.mli.slots.setIfInBounds i none
          | none => s.mli.slots } }) ∧
    (∀ r more f behind, s.mli.startup = none → s.mli.tx = r :: more → more.length = 55 → s.mli.rxBuffer = f :: behind →
      s.headDue = none ∧ ∃ t, exec .recordSent s = .next t ∧ t.headDue = some f.taking ∧
        ∀ c later, timely (c :: later) t → c ∈ t.due) ∧
    (∀ b : Byte, s.amc.rx ≠ [] → s.amc.rxAt + 10 ≤ s.now →
      exec (.matrixAnswer [b]) s = .next { s with amc := { s.amc with
        rx := if b = 0x5A then [b] else [], rxAt := if b = 0x5A then s.now else s.amc.rxAt } }) ∧
    (∀ kind loops link, s.mli.startup = some ⟨kind, loops, some link⟩ → s.mli.tx.length < 48 →
      exec .ready s = .next { s with mli := { s.mli with
        startup := none
        receiver := .hunt
        tx := s.mli.tx ++ [⟨.notice, 0x80, 0, .ok, false, false,
          [if kind = .cold then 0 else 1, 16, if link = .synced then 1 else 0, BitVec.ofNat 8 loops], none⟩] } })

/-- The row that takes a frame: each of the 32 codes names its command. A frame that can be taken whose kind is not COMMAND is
taken by UNKNOWN_COMMAND, discarded and counted; a code that names no command is answered BAD_CODE. -/
def Obligations.UnknownFramesAreRefused : Prop :=
  (∀ (tag : Tag) (payload : List Byte) (x : Byte × Instr),
    x ∈ [((0x10 : Byte), Instr.circuitDefine tag payload), (0x11, .circuitReport tag payload),
      (0x12, .circuitRetire tag payload), (0x13, .circuitSuspend tag payload), (0x14, .circuitResume tag payload),
      (0x15, .circuitBaselineClear tag payload), (0x20, .engineEnable tag payload), (0x21, .engineDisable tag payload),
      (0x22, .engineCalibrate tag payload), (0x23, .engineReport tag payload), (0x30, .campaignStart tag payload),
      (0x31, .campaignAdd tag payload), (0x32, .campaignPause tag payload), (0x33, .campaignResume tag payload),
      (0x34, .campaignCancel tag payload), (0x35, .campaignAbort tag payload), (0x36, .campaignReport tag payload),
      (0x37, .classSet tag payload), (0x38, .probeCircuit tag payload), (0x40, .pointSet tag payload),
      (0x41, .pointReport tag payload), (0x42, .nodeSet tag payload), (0x43, .nodeReport tag payload),
      (0x44, .nodeHold tag payload), (0x45, .nodeRelease tag payload), (0x50, .releaseRetry tag payload),
      (0x51, .openLoopClear tag payload), (0x52, .openLoopReport tag payload), (0x60, .matrixSet tag payload),
      (0x61, .matrixResync tag payload), (0x70, .deviceStatus tag payload), (0x71, .deviceReset tag payload)] →
    (⟨1, x.1, tag, payload⟩ : Frame).taking = x.2) ∧
  ∀ (kind code : Byte) (tag : Tag) (payload : List Byte) (rest : List Frame) (s : State),
    s.mli.startup = none → s.mli.tx.length < 56 → s.mli.rxBuffer = ⟨kind, code, tag, payload⟩ :: rest →
    (kind ≠ 1 → s.headDue = some (.unknownCommand kind code tag payload) ∧
      exec (.unknownCommand kind code tag payload) s = .next
        { s with mli := { s.mli with rxBuffer := rest, frameErrors := min (s.mli.frameErrors + 1) 65535 } }) ∧
    (kind = 1 → knownCode code = false → s.headDue = some (.unknownCommand kind code tag payload) ∧
      exec (.unknownCommand kind code tag payload) s = .next (s.answered rest (replyTo code tag .badCode false [])))

/-- The reply of a deferred command that a reset abandons (R177, R182): CIRCUIT_BUSY with the circuit, CAL_FAILED with the engine,
its offset and the state it takes at the reset, or MATRIX_UNSYNCED with no completion (that reply's link and count bytes are
the model's choice, log 21). -/
def abandonedReply (s : State) (i : Nat) (d : DeferredSlot) : TxRecord :=
  match d.op with
  | .spotProbe c => ⟨.reply, d.code, d.tag, .circuitBusy, false, true, be16 c, some i⟩
  | .calibration e => ⟨.reply, d.code, d.tag, .calFailed, false, true,
      be8 e ++ [0, 0, 0, 0] ++ be16 (s.engine e).localOffset ++
        be8 (if (s.engine e).disablePending = true ∨ (s.engine e).state = .offline then EngineState.offline
          else EngineState.idle).byte, some i⟩
  | .resync => ⟨.reply, d.code, d.tag, .matrixUnsynced, false, true, [0, 0, 3, 0], some i⟩

/-- DEVICE_RESET: the checks of R176 in order; an accepted reset replies, answers each slot not yet answered with ABANDONED
and its command's status in the order of acceptance, applies the soft reset to every block, empties the receive buffer and
enters start-up with the loops counted. That the 125 MHz counter stands as it was is the model's choice (log 8), and so are the
link and count bytes of an abandoned MATRIX_RESYNC (log 21). `waitPending` is the model's own mark (log 19). -/
def Obligations.DeviceResetIsTakenWhole : Prop :=
  ∀ (tag : Tag) (f : Byte) (rest : List Frame) (s : State), s.Takes 0x71 tag [f] rest →
    let refused (st : Status) := exec (.deviceReset tag [f]) s = .next (s.answered rest (replyTo 0x71 tag st false []))
    let quiet := ∀ e, e < 16 → (s.engine e).state.active = false
    (1 < f.toNat → refused .badField) ∧ (f = 0 → ¬quiet → refused .enginesActive) ∧
    (f = 0 → quiet → s.openLoops ≠ [] → refused .circuitBusy) ∧
    (f = 1 ∨ (f = 0 ∧ quiet ∧ s.openLoops = []) →
      ∃ t, exec (.deviceReset tag [f]) s = .next t ∧
        (∀ c, t.circuit c = { s.circuit c with status := .idle }) ∧
        (∀ e, e < 16 →
          (t.engine e).state =
            (if (s.engine e).disablePending = true ∨ (s.engine e).state = .offline then .offline else .idle) ∧
          (t.engine e).disablePending = false ∧ (t.engine e).localOffset = (s.engine e).localOffset ∧
          (t.engine e).context = none ∧ (t.engine e).meas = Measurement.zero) ∧
        t.priorityTurn = 1 ∧ t.standardTurn = 3 ∧ (∀ p, t.point p = { s.point p with owner := none }) ∧
        (∀ n, n < 64 → t.node n = { s.node n with
          state := .active, occupancy := 0, level := 0, fails := 0, successes := 0, nextEligible := 0, waitPending := false }) ∧
        t.campaign.state = .idle ∧ t.campaign.number = 0 ∧ t.campaign.nextNumber = s.campaign.nextNumber ∧
        t.campaign.params = s.campaign.params ∧ t.campaign.selection = s.campaign.selection ∧
        t.campaign.kind = .verify ∧ t.campaign.endCause = .none ∧ t.campaign.summary = Summary.zero ∧
        t.campaign.deadline = none ∧ t.campaign.inFlight = 0 ∧
        (∀ k, k < 4 → t.cls k = { s.cls k with credits := 0, timer := 0, queue := [] }) ∧ t.spot = [] ∧ t.openLoops = [] ∧
        t.amc.link = .unsynced ∧ t.amc.fifo = [] ∧
        t.amc.current = some ⟨⟨.resetAll, none, none, .reset⟩, s.amc.nextSeq, s.amc.timeout, none⟩ ∧
        t.amc.timeout = s.amc.timeout ∧ t.amc.settle = s.amc.settle ∧ t.amc.lateAnswers = s.amc.lateAnswers ∧
        t.mli.receiver = .hunt ∧ t.mli.rxBuffer = [] ∧
        t.mli.startup = some ⟨.warm, s.openLoops.length + s.engines.toList.countP (fun g => g.state.inFlight), none⟩ ∧
        t.mli.frameErrors = s.mli.frameErrors ∧ t.mli.overruns = s.mli.overruns ∧ t.mli.dropped = s.mli.dropped ∧
        (∃ waiting : List (Nat × DeferredSlot),
          (∀ i d, (i, d) ∈ waiting ↔ s.slot i = some d ∧ d.placed = false) ∧ (waiting.map Prod.fst).Nodup ∧
          waiting.Pairwise (fun a b => a.2.order ≤ b.2.order) ∧
          t.mli.tx = s.mli.tx ++ replyTo 0x71 tag .ok false [f] :: waiting.map (fun w => abandonedReply s w.1 w.2)) ∧
        (∀ i, t.slot i = (s.slot i).map (fun d => { d with placed := true })) ∧
        t.now = s.now ∧ t.freeCounter = s.freeCounter ∧ t.lineRate = s.lineRate)

/-! ## Time and the arbiter (R1, R30, R37, R45, R102 to R109, R119) -/

/-- The conditions of R103 that a class entry and a spot probe entry share, but for the engine. -/
def MayLaunch (s : State) (c : Nat) : Prop :=
  let d := (s.circuit c).definition
  s.amc.link = .synced ∧ s.point d.accessPoint = ⟨.inService, none⟩ ∧ (s.node d.farNode).state = .active ∧
    (s.node d.farNode).nextEligible ≤ s.now ∧ (s.node d.farNode).occupancy < (s.node d.farNode).limit ∧
    s.engines.toList.countP (fun g => g.state.inFlight) + s.openLoops.length < 64

/-- The engine that the arbiter takes for a rate class (R108). A lone IDLE engine goes before either of an IDLE pair. -/
def Chooses (s : State) (e : Nat) : RateClass → Prop
  | .base =>
    let lone (j : Nat) : Prop := (s.engine j).state = .idle ∧ (s.engine (partner j)).state ≠ .idle
    e < 16 ∧ ((lone e ∧ ∀ j, j < e → ¬lone j) ∨
      ((∀ j, j < 16 → ¬lone j) ∧ (s.engine e).state = .idle ∧ ∀ j, j < e → (s.engine j).state ≠ .idle))
  | .wide => e < 16 ∧ e % 2 = 0 ∧ (s.engine e).state = .idle ∧ (s.engine (e + 1)).state = .idle ∧
      ∀ j, j < e → j % 2 = 0 → (s.engine j).state ≠ .idle ∨ (s.engine (j + 1)).state ≠ .idle

/-- The entry's circuit cannot be launched now, nor is the entry removed (R103, R107). -/
def StaysQueued (s : State) (c : Nat) : Prop :=
  (s.point (s.circuit c).definition.accessPoint).service = .inService ∧
    (MayLaunch s c → ∀ e, ¬Chooses s e (s.circuit c).definition.rate)

/-- The context of a class or spot probe of a circuit (R29). -/
def contextFor (s : State) (c : Nat) (kind : ContextKind) (number : Nat) (slot : Option Nat) : Context :=
  let d := (s.circuit c).definition
  { kind := kind, campaignNumber := number, circuit := some c, rate := d.rate, accessPoint := some d.accessPoint
    farNode := some d.farNode, activate := d.activate, deactivate := d.deactivate, soakTime := d.soakTime
    markers := d.markers, timing := s.campaign.params.timing, aborted := false, outcomes := [], loopAttempts := 0
    releaseAttempts := 0, releaseTotal := none, phaseTimer := 0, slot := slot, measured := false, calDelay := none }

/-- A launch on engine `e` with the context `x` (R109): the lock, the engine and its follower, the CONNECT. -/
def Launched (s t : State) (e p : Nat) (x : Context) : Prop :=
  t.point p = { s.point p with owner := some e } ∧ (∀ m, m ≠ p → t.point m = s.point m) ∧
    (t.engine e).state = .connecting ∧ (t.engine e).context = some x ∧ (t.engine e).meas = Measurement.zero ∧
    (x.rate = .wide → (t.engine (e + 1)).state = .following ∧ (t.engine (e + 1)).context = none ∧
      (t.engine (e + 1)).meas = Measurement.zero) ∧
    (∀ m, m ≠ e → (x.rate = .base ∨ m ≠ e + 1) → t.engine m = s.engine m) ∧
    s.Asks t ⟨.connect, some p, some (laneSet e (x.rate == .wide)), .engine e⟩

/-- The slot of a class or spot launch at the far node (R99, R109). -/
def Occupies (s t : State) (n : Nat) : Prop :=
  t.node n = { s.node n with occupancy := (s.node n).occupancy + 1 } ∧ ∀ m, m ≠ n → t.node m = s.node m

/-- One entry of class `k` has been launched and nothing else has happened (R109). -/
def LaunchedFromClass (s t : State) (k c e : Nat) : Prop :=
  let d := (s.circuit c).definition
  Launched s t e d.accessPoint (contextFor s c .campaign s.campaign.number none) ∧ Occupies s t d.farNode ∧
    t.circuit c = { s.circuit c with status := .active } ∧ (∀ b, b ≠ c → t.circuit b = s.circuit b) ∧
    t.cls k = { s.cls k with credits := (s.cls k).credits - 1, queue := (s.cls k).queue.erase c } ∧
    (∀ j, j ≠ k → t.cls j = s.cls j) ∧
    t.campaign = { s.campaign with
      inFlight := s.campaign.inFlight + 1
      summary := { s.campaign.summary with launched := min (s.campaign.summary.launched + 1) 4294967295 } } ∧
    t.priorityTurn = (if k < 2 then k else s.priorityTurn) ∧ t.standardTurn = (if k < 2 then s.standardTurn else k) ∧
    t.spot = s.spot ∧ t.openLoops = s.openLoops ∧ t.mli = s.mli ∧ t.runDue = false

/-- Engine `e`, with the follower that a WIDE probe takes, is all that is IDLE. -/
def LastIdle (s : State) (e : Nat) (rate : RateClass) : Prop :=
  ∀ d, d < 16 → d ≠ e → (rate = .base ∨ d ≠ e + 1) → (s.engine d).state ≠ .idle

/-- Class `k` may be examined, the queues hold no circuit twice, and a spot entry that waits is a probe that is to stay, which
does not hold back the class queues (R105). -/
def OnlyClasses (s : State) (k : Nat) : Prop :=
  s.runDue = true ∧ (∀ y ∈ s.spot, ∃ b slot, y = .probe b slot ∧ StaysQueued s b) ∧ s.campaign.state = .running ∧
    k < 4 ∧ 1 ≤ (s.cls k).credits ∧ s.queuedCircuits.Nodup ∧
    (s.campaign.params.cap = 0 ∨ s.campaign.inFlight < s.campaign.params.cap) ∧
    (∀ b ∈ s.queuedCircuits, b < 2048 ∧ (s.circuit b).definition.accessPoint < 256 ∧ (s.circuit b).definition.farNode < 64)

/-- A tick: the time base rises by one and the 125 MHz counter by 125,000, each phase timer by one, the interval timers of a
RUNNING campaign up to their intervals, and each lane sends the rest of its 1,250,000 bits of the ms by the lane output column
of R23, a follower's as its lead's: the test sequence in SOAK, in RETRY_WAIT, behind the hold of LOOP_DOWN and in a calibration
whose measurement has begun, the code in LOOP_UP, COURTESY_RELEASE and the hold of LOOP_DOWN, and nothing on a dark lane. Bits
of the delay word, then waiting markers, leave first and join the altered bits on their way. The bits received are taken one
after another, each as SoakMeasures says; an unarmed checker, detector or meter stands, and nothing else of the engine or of
the part moves. An armed level meter counts dark samples and reports a dropout at 10 in a row. The window that the tick ends is
judged: the code detector counts it when in some phase of its code at most floor(b / 64) of its b bits are wrong, the AIS
detector when at least 999 of every 1,000 are ones, raising AIS at 10 in a row; any other window sets the count to zero, and a
part-window is not judged. The model's choices: the place of the lanes in the ms, which windows are part-windows, that a window
without light matches nothing (log 6), the counter's reading at ticks (log 8), the wrap of the time base (log 11), a timer that
waits at its interval (log 23), and that the register moves on and its bits are counted as sent beneath the 64 bits of the
delay word (log 30). -/
def Obligations.TickCountsTime : Prop :=
  ∀ (lanes : Vector LaneInput 16) (s : State),
    ∃ t, exec (.timeBaseTick lanes) s = .next t ∧ t.now = (s.now + 1) % 2 ^ 64 ∧ t.freeCounter = s.freeCounter + 125000 ∧
      t.laneTime = 0 ∧
      (∀ e : Fin 16,
        let g := s.engine e.val
        let h := t.engine e.val
        let rest := 1250000 - s.laneTime
        h = { g with
          context := g.context.map (fun x => { x with phaseTimer := x.phaseTimer + 1 }), meas := h.meas, lane := h.lane } ∧
        h.lane.winBits = 0 ∧ h.lane.firstGain = g.lane.firstGain ∧
        (let lead := s.engine (if g.state = .following then partner e.val else e.val)
         let gen := g.lane.gen
         let onward (n : Nat) : BitVec 31 → BitVec 31 :=
           (fun r => (r.setWidth 30).concat (r.getLsbD 30 ^^ r.getLsbD 27))^[n]
         let test : Prop := lead.state = .soak ∨ lead.state = .retryWait ∨
           (lead.state = .loopDown ∧ lead.context ≠ none ∧ lead.checkFrom ≠ none) ∨
           (lead.state = .calibrating ∧ lead.lane.checker.arm = .calibration)
         let code : Prop := lead.context ≠ none ∧
           (lead.state = .loopUp ∨ lead.state = .courtesyRelease ∨ (lead.state = .loopDown ∧ lead.checkFrom = none))
         ∃ out : Generator,
           (test → out =
             { reg := onward rest gen.reg, sent := gen.sent + rest, codePos := gen.codePos
               wordLeft := gen.wordLeft - rest, markersDue := gen.markersDue - (rest - gen.wordLeft)
               placed := gen.placed ++
                 (List.range (min rest gen.wordLeft)).map
                   (fun i => ⟨onward i gen.reg, gen.sent + i, .word (64 - (gen.wordLeft - i))⟩) ++
                 (List.range (min (rest - gen.wordLeft) gen.markersDue)).map
                   (fun i => ⟨onward (gen.wordLeft + i) gen.reg, gen.sent + (gen.wordLeft + i), .marker⟩) }) ∧
           (code → out = { gen with codePos := gen.codePos + rest }) ∧ (¬test → ¬code → out = gen) ∧
           (let heard := ({ g with lane := { g.lane with gen := out } } : Engine).receive lanes[e].rx
            h.lane.gen = heard.lane.gen ∧ h.lane.checker = heard.lane.checker ∧ h.lane.wordDet = heard.lane.wordDet ∧
            h.meas = { heard.meas with
              levelS := if g.lane.meter.armed = true ∧ g.lane.meter.accumulating = true
                then g.meas.levelS + max (-400) (min lanes[e].level 50) else g.meas.levelS
              samplesN := if g.lane.meter.armed = true ∧ g.lane.meter.accumulating = true
                then g.meas.samplesN + 1 else g.meas.samplesN }) ∧
           h.lane.gen = { out with placed := h.lane.gen.placed } ∧ (h.lane.gen.placed).Sublist out.placed ∧
           (g.lane.checker.arm = .unarmed → h.lane.checker = g.lane.checker ∧ h.lane.gen = out ∧
             h.meas = { g.meas with levelS := h.meas.levelS, samplesN := h.meas.samplesN }) ∧
           (g.lane.wordDet.search = none → h.lane.wordDet = g.lane.wordDet)) ∧
        (g.lane.meter.armed = false → h.lane.meter = g.lane.meter) ∧
        (g.lane.codeDet.code = none → h.lane.codeDet = g.lane.codeDet) ∧
        (g.lane.ais.armed = false → h.lane.ais = g.lane.ais) ∧
        (g.lane.meter.armed = true →
          let dark := if lanes[e].level < -400 then g.lane.meter.dark + 1 else 0
          h.lane.meter = { g.lane.meter with dark := dark, dropout := g.lane.meter.dropout || decide (10 ≤ dark) }) ∧
        (∀ c : Code, g.lane.codeDet.code = some c → 1 ≤ c.length → g.lane.codeDet.wrong.length = c.length →
          let d := g.lane.codeDet
          let bits := g.lane.winBits + lanes[e].rx.length
          let sent (k : Nat) : Bool := c.pattern.getLsbD (c.length - 1 - k % c.length)
          let wrong (phase : Nat) : Nat := d.wrong.getD phase 0 + (List.range lanes[e].rx.length).countP
            (fun k => lanes[e].rx.getD k false != sent (phase + (g.lane.winBits + k)))
          let fits := decide (0 < bits) && (List.range c.length).any (fun phase => decide (wrong phase ≤ bits / 64))
          h.lane.codeDet = ⟨some c, false, List.replicate c.length 0,
            if d.part = true then d.count else if fits then d.count + 1 else 0⟩) ∧
        (g.lane.ais.armed = true →
          let d := g.lane.ais
          let bits := g.lane.winBits + lanes[e].rx.length
          let allOnes := decide (0 < bits) && decide (999 * bits ≤ 1000 * (d.ones + lanes[e].rx.count true))
          let count := if d.part = true then d.count else if allOnes then d.count + 1 else 0
          h.lane.ais = ⟨true, false, 0, count, d.raised || decide (10 ≤ count)⟩)) ∧
      (∀ k, k < 4 → t.cls k =
        if s.campaign.state = .running then { s.cls k with timer := min ((s.cls k).timer + 1) (s.cls k).interval }
        else s.cls k) ∧
      t = { s with now := t.now, freeCounter := t.freeCounter, laneTime := 0, engines := t.engines, classes := t.classes }

/-- The entries that a look through a class queue leaves, `n` more entries being looked at: those removed on the way do not
count (R106, R107). -/
def looked (out : Nat → Bool) : Nat → List Nat → List Nat
  | 0, q => q
  | _ + 1, [] => []
  | n + 1, c :: q => if out c then looked out (n + 1) q else c :: looked out n q

/-- ARBITER_RUN. With the link UNSYNCED nothing is launched, and the entries met at OUT_OF_SERVICE points leave: spot probe and
release-only entries answered POINT_OUT by a notice or a deferred reply, class entries counted BLOCKED, the last of which may
end the campaign. With no campaign RUNNING, a lone entry of the spot queue is launched on the engine of R108 when its conditions
hold: a probe takes lock, node slot, context and CONNECT; a RELEASE_ONLY entry takes its loop out of the list with its slot; a
calibration takes its pinned engine and its LOOP_PORT. A probe or RELEASE_ONLY entry at an OUT_OF_SERVICE point is removed and
answered POINT_OUT. In any campaign state, with one engine or pair IDLE, the first spot probe that can be launched takes it,
whatever the class queues hold. In a RUNNING campaign a class launches the first eligible entry of the first 8, the ninth is not
looked at, entries at OUT_OF_SERVICE points leave as BLOCKED, of two classes of a bank the one that the bank turn record does
not name goes first, and the priority bank goes before the standard bank, whatever that holds; a spot probe that cannot be
launched holds none of them back. The model's choices: a run is a mark that ARBITER_RUN clears as it begins and that an event of
R104 inside the run sets again, an entry removed or the open loop list losing its loop to a RELEASE_ONLY launch (log 20); and a
count held at 4294967295 (log 22). -/
def Obligations.RunLaunchesASpotProbe : Prop :=
  (∀ s : State, s.runDue = true →
    (s.amc.link = .unsynced → (∀ p, p < 256 → (s.point p).service = .inService) →
      exec .arbiterRun s = .next { s with runDue := false }) ∧
    (s.amc.link = .unsynced → s.spot.length ≤ 8 → s.queuedCircuits.Nodup → RepliesWait s →
      let out (p : Nat) : Bool := (s.point p).service == .outOfService
      let spotOut (x : SpotEntry) : Bool := match x with
        | .probe c _ => out (s.circuit c).definition.accessPoint
        | .releaseOnly c => (s.openLoopOf c).any (fun o => out o.accessPoint)
        | .calibration _ _ => false
      let looksAt (k : Nat) : Prop := s.campaign.state = .running ∧ 1 ≤ (s.cls k).credits ∧
        (s.campaign.params.cap = 0 ∨ s.campaign.inFlight < s.campaign.params.cap)
      let leaves (c : Nat) (t : State) : Prop := (∃ k, k < 4 ∧ c ∈ (s.cls k).queue ∧ c ∉ (t.cls k).queue) ∨
        ∃ slot, SpotEntry.probe c slot ∈ s.spot ∧ out (s.circuit c).definition.accessPoint = true
      ∃ t, exec .arbiterRun s = .next t ∧ t.spot = s.spot.filter (fun x => !spotOut x) ∧
        (∀ k, k < 4 → (looksAt k → (t.cls k).queue =
            looked (fun c => out (s.circuit c).definition.accessPoint) 8 (s.cls k).queue) ∧
          (¬looksAt k → (t.cls k).queue = (s.cls k).queue)) ∧
        (∀ c, (leaves c t → t.circuit c = { s.circuit c with status := .idle }) ∧
          (¬leaves c t → t.circuit c = s.circuit c)) ∧
        CountsNotTested s t 4 (s.queuedCount - t.queuedCount) ∧
        (t.queuedCount < s.queuedCount → EndTested s t) ∧
        (t.queuedCount = s.queuedCount → t.campaign = s.campaign ∧ t.classes = s.classes) ∧
        (s.mli.tx.length + s.spot.length < 48 → ∃ ended,
          t.mli.tx = s.mli.tx ++ (s.spot.filter spotOut).flatMap (removedAnswer s .pointOut) ++ ended ∧
          (t.queuedCount < s.queuedCount → CampaignOver s t → ended = [endRecord t]) ∧
          (t.queuedCount = s.queuedCount ∨ ¬CampaignOver s t → ended = [])) ∧
        (t.runDue = true ↔ t.queuedCount < s.queuedCount ∨ ∃ x ∈ s.spot, spotOut x = true) ∧
        t.engines = s.engines ∧ t.points = s.points ∧ t.nodes = s.nodes ∧ t.openLoops = s.openLoops ∧ t.amc = s.amc ∧
        t.now = s.now) ∧
    (∀ (c e : Nat) (slot : Option Nat), s.campaign.state ≠ .running → s.spot = [.probe c slot] →
      (s.circuit c).definition.accessPoint < 256 → (s.circuit c).definition.farNode < 64 → MayLaunch s c →
      Chooses s e (s.circuit c).definition.rate →
      ∃ t, exec .arbiterRun s = .next t ∧ t.spot = [] ∧
        Launched s t e (s.circuit c).definition.accessPoint (contextFor s c .spot 0 slot) ∧
        Occupies s t (s.circuit c).definition.farNode ∧ t.circuits = s.circuits ∧ t.classes = s.classes ∧
        t.campaign = s.campaign ∧ t.openLoops = s.openLoops ∧ t.mli = s.mli ∧ t.runDue = false) ∧
    (∀ (c e : Nat) (slot : Option Nat) (ahead behind : List SpotEntry), s.spot = ahead ++ .probe c slot :: behind →
      ahead.length ≤ 7 → (∀ y ∈ ahead, ∃ b i, y = .probe b i ∧ StaysQueued s b) →
      (∀ p, p < 256 → (s.point p).service = .inService) →
      (s.circuit c).definition.accessPoint < 256 → (s.circuit c).definition.farNode < 64 → MayLaunch s c →
      Chooses s e (s.circuit c).definition.rate → LastIdle s e (s.circuit c).definition.rate →
      ∃ t, exec .arbiterRun s = .next t ∧ t.spot = ahead ++ behind ∧
        Launched s t e (s.circuit c).definition.accessPoint (contextFor s c .spot 0 slot) ∧
        Occupies s t (s.circuit c).definition.farNode ∧ t.circuits = s.circuits ∧ t.classes = s.classes ∧
        t.campaign = s.campaign ∧ t.priorityTurn = s.priorityTurn ∧ t.standardTurn = s.standardTurn ∧
        t.openLoops = s.openLoops ∧ t.mli = s.mli ∧ t.runDue = false) ∧
    (∀ (c e : Nat) (o : OpenLoop), s.campaign.state ≠ .running → s.spot = [.releaseOnly c] → s.openLoopOf c = some o →
      o.circuit = c → c < 2048 → o.accessPoint < 256 → o.farNode < 64 → s.amc.link = .synced →
      s.point o.accessPoint = ⟨.inService, none⟩ → (s.node o.farNode).state = .active →
      (s.node o.farNode).nextEligible ≤ s.now → Chooses s e (s.circuit c).definition.rate →
      ∃ t, exec .arbiterRun s = .next t ∧ t.spot = [] ∧
        Launched s t e o.accessPoint { contextFor s c .releaseOnly 0 none with
          accessPoint := some o.accessPoint, farNode := some o.farNode, activate := o.activate, deactivate := o.deactivate
          releaseTotal := some o.releaseTotal } ∧
        t.openLoops = s.openLoops.filter (fun q => q.circuit != c) ∧ t.nodes = s.nodes ∧
        t.circuit c = { s.circuit c with status := .active } ∧ (∀ b, b ≠ c → t.circuit b = s.circuit b) ∧
        t.classes = s.classes ∧ t.campaign = s.campaign ∧ t.mli = s.mli ∧ t.runDue = true) ∧
    (∀ e i : Nat, s.campaign.state ≠ .running → s.spot = [.calibration e i] → e < 16 → s.amc.link = .synced →
      (s.engine e).state = .idle →
      ∃ t x, exec .arbiterRun s = .next t ∧ t.spot = [] ∧ (t.engine e).state = .calibrating ∧
        (t.engine e).context = some x ∧ x.kind = .calibration ∧ x.slot = some i ∧ x.circuit = none ∧ x.farNode = none ∧
        x.accessPoint = none ∧ x.rate = .base ∧ x.calDelay = none ∧ (t.engine e).meas = Measurement.zero ∧
        (t.engine e).localOffset = (s.engine e).localOffset ∧ (∀ m, m ≠ e → t.engine m = s.engine m) ∧
        s.Asks t ⟨.loopPort, none, some (laneSet e false), .engine e⟩ ∧ t.points = s.points ∧ t.nodes = s.nodes ∧
        t.circuits = s.circuits ∧ t.classes = s.classes ∧ t.campaign = s.campaign ∧ t.openLoops = s.openLoops ∧
        t.mli = s.mli) ∧
    (∀ (c p : Nat) (x : SpotEntry) (slot : Option Nat), s.campaign.state ≠ .running → s.spot = [x] → c < 2048 →
      s.mli.tx.length < 48 → RepliesWait s →
      ((x = .probe c slot ∧ p = (s.circuit c).definition.accessPoint) ∨
        (x = .releaseOnly c ∧ (s.openLoopOf c).map OpenLoop.accessPoint = some p)) →
      (s.point p).service = .outOfService →
      ∃ t, exec .arbiterRun s = .next t ∧
        (x = .probe c slot → t.circuit c = { s.circuit c with status := .idle }) ∧
        (x = .releaseOnly c → t.circuit c = s.circuit c) ∧ (∀ b, b ≠ c → t.circuit b = s.circuit b) ∧
        t.mli.tx = s.mli.tx ++ removedAnswer s .pointOut x ∧
        (x = .releaseOnly c ∨ slot = none →
          removedAnswer s .pointOut x = [⟨.notice, 0x81, 0, .ok, false, false, be16 c ++ [0x01, 0x0A], none⟩] ∧
          t.mli = { s.mli with tx := t.mli.tx }) ∧
        (∀ i d, x = .probe c (some i) → s.slot i = some d →
          removedAnswer s .pointOut x = [⟨.reply, d.code, d.tag, .pointOut, false, false, be16 c, some i⟩] ∧
          t.mli = { s.mli with
            tx := t.mli.tx, slots := s.mli.slots.setIfInBounds i (some { d with placed := true }) }) ∧
        t = { s with spot := [], circuits := t.circuits, mli := t.mli, runDue := true })) ∧
  ∀ (s : State) (k : Nat), OnlyClasses s k →
    ((∀ j, j < 4 → j ≠ k → (s.cls j).credits = 0) →
      (∀ (c e : Nat) (ahead behind : List Nat), (s.cls k).credits = 1 → (s.cls k).queue = ahead ++ c :: behind →
        ahead.length ≤ 7 → (∀ b ∈ ahead, StaysQueued s b) → MayLaunch s c → Chooses s e (s.circuit c).definition.rate →
        ∃ t, exec .arbiterRun s = .next t ∧ LaunchedFromClass s t k c e) ∧
      ((∀ b ∈ (s.cls k).queue.take 8, StaysQueued s b) → exec .arbiterRun s = .next { s with runDue := false }) ∧
      ((∀ b ∈ (s.cls k).queue, (s.point (s.circuit b).definition.accessPoint).service = .outOfService) →
        (s.cls k).queue ≠ [] →
        ∃ t, exec .arbiterRun s = .next t ∧ (t.cls k).queue = [] ∧ (∀ j, j ≠ k → (t.cls j).queue = (s.cls j).queue) ∧
          (∀ b ∈ (s.cls k).queue, t.circuit b = { s.circuit b with status := .idle }) ∧
          (∀ b, b ∉ (s.cls k).queue → t.circuit b = s.circuit b) ∧
          t.campaign.summary.notTested[4] = min (s.campaign.summary.notTested[4] + (s.cls k).queue.length) 4294967295 ∧
          t.campaign.inFlight = s.campaign.inFlight ∧
          ((∃ j, j ≠ k ∧ (s.cls j).queue ≠ []) ∨ s.campaign.inFlight ≠ 0 → t.campaign.state = .running) ∧
          ((∀ j, j ≠ k → (s.cls j).queue = []) → s.campaign.inFlight = 0 →
            t.campaign.state = .idle ∧ t.campaign.endCause = .completed) ∧
          t.engines = s.engines ∧ t.points = s.points ∧ t.nodes = s.nodes ∧ t.spot = s.spot ∧
          t.openLoops = s.openLoops ∧ t.amc = s.amc ∧ t.runDue = true)) ∧
    (∀ (j c e : Nat) (rest : List Nat), (k / 2 = j / 2 ∧ k ≠ j ∧ j < 4) → 1 ≤ (s.cls j).credits →
      (if k < 2 then s.priorityTurn = j else s.standardTurn = j) → (∀ i, i / 2 ≠ k / 2 → (s.cls i).credits = 0) →
      (∀ p, p < 256 → (s.point p).service = .inService) → (s.cls k).queue = c :: rest → MayLaunch s c →
      (s.circuit c).definition.rate = .base → e < 16 → (s.engine e).state = .idle →
      (∀ d, d < 16 → d ≠ e → (s.engine d).state ≠ .idle) →
      ∃ t, exec .arbiterRun s = .next t ∧ LaunchedFromClass s t k c e) ∧
    (∀ (j c e : Nat) (rest : List Nat), k < 2 → j < 2 → j ≠ k →
      ((s.cls j).credits = 0 ∨ (s.cls j).queue = [] ∨ s.priorityTurn = j) →
      (∀ p, p < 256 → (s.point p).service = .inService) → (s.cls k).queue = c :: rest → MayLaunch s c →
      Chooses s e (s.circuit c).definition.rate → LastIdle s e (s.circuit c).definition.rate →
      ∃ t, exec .arbiterRun s = .next t ∧ LaunchedFromClass s t k c e)

/-! ## The phases of a probe (R48 to R71, R136, R137) -/

/-- The settle time ends, the lanes standing at a moment of the ms (log 6): a campaign or spot probe enters LOOP_UP, an
aborted one COURTESY_RELEASE, a RELEASE_ONLY probe LOOP_DOWN, a calibration its measurement with a limit of 1 s. A loop-up
timeout with attempts left enters RETRY_WAIT, whose end begins the next LOOP_UP. A window running at an arming is a
part-window for the detectors armed. An event taken late is the model's choice (log 3). -/
def Obligations.WaitsEndInTheNextPhase : Prop :=
  ∀ (e : Fin 16) (s : State) (x : Context), (s.engine e.val).context = some x →
    let g := s.engine e.val
    let begins (b : State) (c : Instr) (st : EngineState) (y : Context) (holds : Engine → Prop) : Prop :=
      ∃ t, exec c s = .next t ∧ (t.engine e.val).state = st ∧ (t.engine e.val).context = some y ∧
        (t.engine e.val).meas = g.meas ∧ holds (t.engine e.val) ∧ b.OnlyEngine t e.val ∧ t = { b with engines := t.engines }
    let inside (moment : Nat) : Bool := decide (0 < moment) || decide (0 < g.lane.winBits)
    let listens (moment : Nat) (h : Engine) : Prop :=
      h.lane.ais = ⟨true, inside moment, 0, 0, false⟩ ∧ h.lane.checker.arm = .unarmed ∧ h.lane.meter.armed = false ∧
        h.settleUntil = none
    let loopUp (moment : Nat) (h : Engine) : Prop := listens moment h ∧ h.lane.gen.codePos = 0 ∧
      h.lane.codeDet = ⟨some x.activate, inside moment, List.replicate x.activate.length 0, 0⟩
    let attempt : Context := { x with phaseTimer := 0, loopAttempts := x.loopAttempts + 1 }
    (∀ u m, g.settleUntil = some u → u ≤ s.now → s.laneTime ≤ m → m < 1250000 →
      let b := s.moveTo m
      (x.kind = .spot ∨ (x.kind = .campaign ∧ x.aborted = false) → begins b (.settleEnd ⟨e, m⟩) .loopUp attempt (loopUp m)) ∧
      (x.kind = .campaign → x.aborted = true → begins b (.settleEnd ⟨e, m⟩) .courtesyRelease { x with phaseTimer := 0 }
        (fun h => h.settleUntil = none ∧ h.lane.gen.codePos = 0 ∧ h.lane.ais.armed = false)) ∧
      (x.kind = .releaseOnly →
        begins b (.settleEnd ⟨e, m⟩) .loopDown { x with phaseTimer := 0, releaseAttempts := x.releaseAttempts + 1 }
          (fun h => h.checkFrom = none ∧ h.settleUntil = none ∧ h.lane.gen.codePos = 0)) ∧
      (x.kind = .calibration → begins b (.settleEnd ⟨e, m⟩) g.state x
        (fun h => h.limitUntil = some (s.now + 1000) ∧ h.settleUntil = none ∧ h.lane.checker.arm = .calibration ∧
          h.lane.checker.inSync = false ∧ h.lane.gen.reg = BitVec.allOnes 31))) ∧
    (g.state = .loopUp → x.timing.loopUpTimeout ≤ x.phaseTimer → x.loopAttempts < x.timing.loopAttempts →
      begins s (.loopUpTimeout e) .retryWait { x with phaseTimer := 0 }
        (fun h => listens s.laneTime h ∧ h.lane.codeDet.code = none ∧ h.lane.gen.reg = BitVec.allOnes 31)) ∧
    (g.state = .retryWait → x.timing.retrySpacing ≤ x.phaseTimer →
      begins s (.retrySpacingEnd e) .loopUp attempt (loopUp s.laneTime))

/-- LOOP_UP ends: a confirmation begins SOAK and reports "loop confirmed" to the far node (R136); the exhaustion of the
attempts writes NO_LOOP, begins COURTESY_RELEASE and reports NO_LOOP to it (R137). At level 4 with auto-hold on the second
NO_LOOP in a row makes an ACTIVE node HELD, its class and spot entries leave, and a NODE_HOLD notice of cause AUTO is offered;
the last class entry to leave may end the campaign. A HELD node only counts: that at level 4 with auto-hold on its counts go to
0 and its next-eligible time stays is the model's choice (log 18). `waitPending` is the model's own mark (log 19); an event
taken late (log 3) and a count held at 4294967295 (log 22) are its choices. -/
def Obligations.LoopUpReportsToTheNode : Prop :=
  ∀ (e : Fin 16) (s : State) (x : Context) (n : Nat), (s.engine e.val).context = some x →
    (s.engine e.val).state = .loopUp → x.farNode = some n → n < 64 →
    let w := s.node n
    let here (c : Nat) : Bool := (s.circuit c).definition.farNode == n
    let spotHere (y : SpotEntry) : Bool := match y with
      | .probe c _ => here c
      | .releaseOnly c => here c
      | .calibration _ _ => false
    let ends (t : State) : Prop := exec (.loopUpTimeout e) s = .next t ∧ (t.engine e.val).state = .courtesyRelease ∧
      (t.engine e.val).context = some { x with phaseTimer := 0, outcomes := x.outcomes ++ [.noLoop] } ∧
      (t.engine e.val).meas = (s.engine e.val).meas ∧ (∀ m, m ≠ n → t.node m = s.node m) ∧ s.OnlyEngine t e.val
    (x.timing.confirmTime ≤ (s.engine e.val).lane.codeDet.count →
      ∃ t, exec (.loopConfirmed e) s = .next t ∧ (t.engine e.val).state = .soak ∧
        (t.engine e.val).context = some { x with phaseTimer := 0, measured := true } ∧ (t.engine e.val).markersSent = 0 ∧
        (t.engine e.val).lane.checker.arm = .soak ∧ (t.engine e.val).lane.checker.inSync = false ∧
        (t.engine e.val).lane.gen.reg = BitVec.allOnes 31 ∧
        (t.engine e.val).lane.ais.armed = true ∧ (t.engine e.val).lane.meter.armed = true ∧
        (t.engine e.val).lane.meter.accumulating = false ∧
        (t.node n = if w.threshold ≤ w.successes + 1 then { w with fails := 0, successes := 0, level := w.level - 1 }
          else { w with fails := 0, successes := w.successes + 1 }) ∧
        (∀ m, m ≠ n → t.node m = s.node m) ∧ s.OnlyEngine t e.val ∧
        t = { s with engines := t.engines, nodes := t.nodes }) ∧
    (x.timing.loopUpTimeout ≤ x.phaseTimer → x.timing.loopAttempts ≤ x.loopAttempts →
      (w.fails = 0 ∨ w.level < 4 ∨ w.autoHold = false ∨ w.state = .held →
        ∃ t, ends t ∧
          (w.fails = 0 → t.node n = { w with successes := 0, fails := 1 }) ∧
          (1 ≤ w.fails → w.level < 4 → t.node n =
            { w with
              successes := 0, fails := 0, level := w.level + 1, waitPending := true
              nextEligible := s.now + 5000 * 2 ^ (w.level + 1) }) ∧
          (1 ≤ w.fails → 4 ≤ w.level → w.autoHold = false → t.node n =
            { w with successes := 0, fails := 0, waitPending := true, nextEligible := s.now + 80000 }) ∧
          (1 ≤ w.fails → 4 ≤ w.level → w.autoHold = true → t.node n = { w with successes := 0, fails := 0 }) ∧
          t = { s with engines := t.engines, nodes := t.nodes }) ∧
      (1 ≤ w.fails → 4 ≤ w.level → w.autoHold = true → w.state = .active →
        ∃ t, ends t ∧ t.node n = { w with successes := 0, fails := 0, state := .held } ∧
          HoldTakesTheWork s t n [] ⟨.notice, 0x84, 0, .ok, false, false,
            be8 n ++ [1] ++ be8 w.level ++ be8 w.occupancy ++ be8 (s.openLoops.countP (fun o => o.farNode == n)) ++
              be16 (s.queuedCircuits.countP here) ++ be8 (s.spot.countP spotHere), none⟩ ∧
          t.points = s.points ∧ t.openLoops = s.openLoops ∧ t.amc = s.amc ∧ t.now = s.now))

/-- A soak ends: at its full time with no outcome, at a dropout with SIGNAL_DROPOUT, at AIS with AIS_RECEIVED;
LOOP_DOWN begins with one more release attempt and the measurements stand. AIS in LOOP_UP or RETRY_WAIT begins
COURTESY_RELEASE. What a follower's lane reports is its lead's. An event taken late is the model's choice (log 3). -/
def Obligations.SoakEndsInLoopDown : Prop :=
  ∀ (e : Fin 16) (s : State) (x : Context),
    let l := if (s.engine e.val).state = .following then partner e.val else e.val
    (s.engine l).context = some x →
    let moves (c : Instr) (st : EngineState) (y : Context) : Prop :=
      ∃ t, exec c s = .next t ∧ (t.engine l).state = st ∧ (t.engine l).context = some y ∧
        (t.engine l).meas = (s.engine l).meas ∧ (t.engine l).lane.checker.arm = .unarmed ∧
        (t.engine l).lane.ais.armed = false ∧ (t.engine l).lane.meter.armed = false ∧ (t.engine l).checkFrom = none ∧
        s.OnlyEngine t l ∧ t = { s with engines := t.engines }
    let down (os : List ProbeOutcome) : Context :=
      { x with phaseTimer := 0, outcomes := x.outcomes ++ os, releaseAttempts := x.releaseAttempts + 1 }
    ((s.engine e.val).state = .soak → 1000 * x.soakTime ≤ x.phaseTimer → moves (.soakTimeEnd e) .loopDown (down [])) ∧
    ((s.engine l).state = .soak → (s.engine e.val).lane.meter.dropout = true →
      moves (.signalDropout e) .loopDown (down [.signalDropout])) ∧
    ((s.engine l).state = .soak → (s.engine e.val).lane.ais.raised = true →
      moves (.aisRaised e) .loopDown (down [.aisReceived])) ∧
    ((s.engine l).state = .loopUp ∨ (s.engine l).state = .retryWait → (s.engine e.val).lane.ais.raised = true →
      moves (.aisRaised e) .courtesyRelease { x with phaseTimer := 0, outcomes := x.outcomes ++ [.aisReceived] })

/-! ## The measurements (R31 to R34, R38, R40) -/

/-- In SOAK: the first sync gain on the lead's lane sends the delay word in place of the next 64 bits and reads the counter,
and lets the meters accumulate, the follower's of a WIDE probe too; a later gain sends none, and a gain on a follower's lane
is taken and does nothing more; a loss of sync counts in K, held at 255; a marker whose time floor(i s / (M + 1)) has come
waits for the next sequence bit, behind a delay word being sent, and leaves inverted. Bits received are taken one after
another. A checker in sync that takes a bit knows the places of its own generator's markers and word: a marker's place adds
to X, and to H when the bit arrives inverted; the word's places expect the word's bits; a checker armed for anything but a
soak counts nothing. A hunting checker loads 31 bits, then predicts each bit, loading it behind the prediction; a bit that
equals its prediction extends the run, another sets it to zero, and a run of 1,024 is sync, in which nothing is counted until
then. In sync the register runs on its own, and a block of 1,024 bits with 128 errors or more ends sync at its end. An
unarmed checker takes nothing. That the delay word is sent and expected most significant bit first and that the register
moves on beneath it is the model's choice (log 30), and so are an all-zero register that predicts nothing (log 9) and the
register at a loss (log 10). The moment and the bits of an event (log 6), the counter's reading (log 8) and which period of
the sequence a place is of (log 5) are the model's, and so is an event taken late (log 3). -/
def Obligations.SoakMeasures : Prop :=
  (∀ (e : Fin 16) (s : State) (x : Context), (s.engine e.val).state = .soak → (s.engine e.val).context = some x →
    (∀ (rx : List Bool) (m : Nat), s.laneTime ≤ m → m < 1250000 →
      let b := s.moveTo m
      let r := (b.engine e.val).receive rx
      r.lane.checker.gain = true →
      ∃ t, exec (.checkerSyncGain e rx m) s = .next t ∧ (t.engine e.val).lane.checker = { r.lane.checker with gain := false } ∧
        (r.lane.firstGain = false →
          (t.engine e.val).lane.gen = { r.lane.gen with wordLeft := 64 } ∧
          (t.engine e.val).lane.wordDet = ⟨some (s.freeCounter + m / 10), 0, 0, false⟩ ∧
          (t.engine e.val).lane.firstGain = true ∧ (t.engine e.val).lane.meter.accumulating = true) ∧
        (r.lane.firstGain = true →
          (t.engine e.val).lane.gen = r.lane.gen ∧ (t.engine e.val).lane.wordDet = r.lane.wordDet) ∧
        (x.rate = .wide → e.val + 1 < 16 →
          let f := b.engine (e.val + 1)
          t.engine (e.val + 1) = if r.lane.firstGain = true then f
            else { f with lane := { f.lane with meter := { f.lane.meter with accumulating := true } } }) ∧
        (t.engine e.val).meas = r.meas ∧ (t.engine e.val).state = .soak ∧ (t.engine e.val).context = some x ∧
        b.OnlyEngine t e.val ∧ t = { b with engines := t.engines }) ∧
    (∀ (rx : List Bool) (v : Bool) (m : Nat), s.laneTime ≤ m → m < 1250000 → (s.engine e.val).lane.checker.arm = .soak →
      let b := s.moveTo m
      let r := (b.engine e.val).receive rx
      let r' := (b.engine e.val).receive (rx ++ [v])
      r.lane.checker.inSync = true → r'.lane.checker.inSync = false →
      exec (.syncLoss ⟨e, m⟩ (rx ++ [v])) s = .next (b.setEngine e.val r') ∧
      r'.meas.lossesK = min (r.meas.lossesK + 1) 255 ∧ r'.meas.bitsB = min (r.meas.bitsB + 1) 281474976710655) ∧
    ((s.engine e.val).markersSent + 1 ≤ x.markers →
      ((s.engine e.val).markersSent + 1) * (1000 * x.soakTime) / (x.markers + 1) ≤ x.phaseTimer →
      ∃ t, exec (.marker e) s = .next t ∧ (t.engine e.val).markersSent = (s.engine e.val).markersSent + 1 ∧
        (t.engine e.val).lane.gen.markersDue = (s.engine e.val).lane.gen.markersDue + 1 ∧
        (x.rate = .wide → e.val + 1 < 16 →
          (t.engine (e.val + 1)).lane.gen.markersDue = (s.engine (e.val + 1)).lane.gen.markersDue + 1) ∧
        (t.engine e.val).state = .soak ∧ (t.engine e.val).context = some x ∧
        (t.engine e.val).meas = (s.engine e.val).meas ∧ s.OnlyEngine t e.val ∧ t = { s with engines := t.engines })) ∧
  (∀ (e : Fin 16) (s : State) (rx : List Bool) (m : Nat), (s.engine e.val).state = .following →
    (s.engine (partner e.val)).state = .soak → s.laneTime ≤ m → m < 1250000 →
    let b := s.moveTo m
    let r := (b.engine e.val).receive rx
    r.lane.checker.gain = true → exec (.checkerSyncGain e rx m) s = .next (b.setEngine e.val
      { r with lane := { r.lane with checker := { r.lane.checker with gain := false } } })) ∧
  (∀ (g : Engine) (rx : List Bool) (v : Bool), g.receive [] = g ∧ g.receive (rx ++ [v]) = (g.receive rx).receive [v]) ∧
  (∀ (g : Engine) (v : Bool), g.lane.checker.arm = .unarmed →
    let h := g.receive [v]
    h.lane.checker = g.lane.checker ∧ h.lane.gen = g.lane.gen ∧ h.meas = g.meas) ∧
  (∀ (g : Generator) (w : BitVec 64),
    let last := g.reg.getLsbD 30
    let onward : Generator := { g with
      reg := (g.reg.setWidth 30).concat (g.reg.getLsbD 30 ^^ g.reg.getLsbD 27), sent := g.sent + 1 }
    (g.wordLeft = 0 → g.markersDue = 0 → g.output .test w = some last ∧ g.run .test 1 = onward) ∧
    (g.wordLeft = 0 → 1 ≤ g.markersDue → g.output .test w = some !last ∧
      g.run .test 1 = { onward with
        markersDue := g.markersDue - 1, placed := g.placed ++ [⟨g.reg, g.sent, .marker⟩] }) ∧
    (∀ i, i < 64 → g.wordLeft = 64 - i → g.output .test w = some (w.getMsbD i) ∧
      g.run .test 1 = { onward with
        wordLeft := 63 - i, placed := g.placed ++ [⟨g.reg, g.sent, .word i⟩] })) ∧
  (∀ (g : Engine) (v : Bool), g.lane.checker.inSync = false →
    let k := g.lane.checker
    let h := g.receive [v]
    let loading := (k.reg.setWidth 30).concat v
    let predicted := k.reg.getLsbD 30 ^^ k.reg.getLsbD 27
    h.meas = g.meas ∧
    (k.arm ≠ .unarmed → k.loaded < 31 → h.lane.checker = { k with reg := loading, loaded := k.loaded + 1, run := 0 }) ∧
    (k.arm ≠ .unarmed → 31 ≤ k.loaded → (v ≠ predicted ∨ k.reg = 0) → h.lane.checker = { k with reg := loading, run := 0 }) ∧
    (k.arm ≠ .unarmed → 31 ≤ k.loaded → v = predicted → k.reg ≠ 0 → k.run ≠ 1023 →
      h.lane.checker = { k with reg := loading, run := k.run + 1 }) ∧
    (k.arm ≠ .unarmed → 31 ≤ k.loaded → v = predicted → k.reg ≠ 0 → k.run = 1023 →
      h.lane.checker = { k with
        reg := loading, run := 1024, inSync := true, blockBits := 0, blockErrors := 0, gain := true })) ∧
  ∀ (g : Engine) (v : Bool), g.lane.checker.arm ≠ .unarmed → g.lane.checker.inSync = true →
    let step (r : BitVec 31) : BitVec 31 := (r.setWidth 30).concat (r.getLsbD 30 ^^ r.getLsbD 27)
    let own := g.lane.checker.reg.getLsbD 30 ^^ g.lane.checker.reg.getLsbD 27
    let takes (what : Option Alteration) : Prop :=
      let wanted := match what with
        | some (.word i) => g.delayWord.getMsbD i
        | some .marker => own
        | none => own
      let h := g.receive [v]
      h.lane.gen = { g.lane.gen with placed := [] } ∧
        (g.lane.checker.arm ≠ .soak → h.meas = g.meas) ∧
        (g.lane.checker.arm = .soak →
          h.meas.bitsB = min (g.meas.bitsB + 1) 281474976710655 ∧
          h.meas.errorsE = min (g.meas.errorsE + (if v = wanted then 0 else 1)) 4294967295 ∧
          h.meas.expectedX = g.meas.expectedX + (if what = some .marker then 1 else 0) ∧
          h.meas.hitsH = g.meas.hitsH + (if what = some .marker ∧ v ≠ own then 1 else 0) ∧
          h.meas = { g.meas with
            bitsB := h.meas.bitsB, errorsE := h.meas.errorsE, expectedX := h.meas.expectedX, hitsH := h.meas.hitsH
            lossesK := h.meas.lossesK }) ∧
        (let k := g.lane.checker
         let bits := k.blockBits + 1
         let errors := k.blockErrors + (if v = wanted then 0 else 1)
         let onward := (k.reg.setWidth 30).concat own
         (bits = 1024 → 128 ≤ errors → (k.arm = .soak → h.meas.lossesK = min (g.meas.lossesK + 1) 255) ∧
           h.lane.checker = { k with reg := 0, inSync := false, loaded := 0, run := 0, blockBits := 0, blockErrors := 0 }) ∧
         (bits = 1024 → errors < 128 → h.lane.checker = { k with reg := onward, blockBits := 0, blockErrors := 0 }) ∧
         (bits ≠ 1024 → h.lane.checker = { k with reg := onward, blockBits := bits, blockErrors := errors }) ∧
         (k.arm = .soak → (bits ≠ 1024 ∨ errors < 128) → h.meas.lossesK = min g.meas.lossesK 255))
    (g.lane.gen.placed = [] → takes none) ∧
    (∀ p, g.lane.gen.placed = [p] → p.reg = step^[31] g.lane.checker.reg → g.lane.gen.sent < p.index + 2147483647 →
      takes (some p.what))

/-- The delay word is found by the bit with which the last 64 bits received while it is searched for, and no fewer, are the
engine's word bit for bit; without a search no bit is kept. Found within 2,500,000 counts of its departure it gives T, from the
counter as its first bit left to the counter as its first bit arrived, 64 bit periods before its last; a calibration then stores
floor((4T + 25) / 50), limited to 2000, and disconnects. Not found within 20 ms of the departure, the search stops; a calibration
disconnects, as it does at its 1 s limit, with its offset unchanged. The first sync gain of a calibration sends its word, reads
the counter and lifts the limit; a later one does nothing more. The moment and the bits of an event (log 6), the word's first
bit being its most significant (log 30) and the counter's readings, the 20 ms among them (log 8), are the model's; an event taken
late is its choice (log 3). -/
def Obligations.DelayWordGivesTheDelay : Prop :=
  (∀ (g : Engine) (v : Bool),
    let found := g.lane.wordDet
    let last := (found.hist.setWidth 63).concat v
    let count := min (found.histBits + 1) 64
    (found.search = none → (g.receive [v]).lane.wordDet = found) ∧
    (found.search ≠ none → (g.receive [v]).lane.wordDet =
      { found with hist := last, histBits := count, seen := found.seen || decide (count = 64 ∧ last = g.delayWord) })) ∧
  (∀ (e : Fin 16) (s : State) (rx : List Bool) (m : Nat), (s.engine e.val).state = .calibrating → s.laneTime ≤ m →
    m < 1250000 →
    let b := s.moveTo m
    let r := (b.engine e.val).receive rx
    let l : Lane := { r.lane with checker := { r.lane.checker with gain := false } }
    r.lane.checker.gain = true →
    ((s.engine e.val).limitUntil ≠ none → exec (.checkerSyncGain e rx m) s = .next (b.setEngine e.val
      { r with
        limitUntil := none
        lane := { l with
          gen := { l.gen with wordLeft := 64 }
          wordDet := ⟨some (s.freeCounter + m / 10), 0, 0, false⟩
          firstGain := true } })) ∧
    ((s.engine e.val).limitUntil = none →
      exec (.checkerSyncGain e rx m) s = .next (b.setEngine e.val { r with lane := l }))) ∧
  ∀ (e : Fin 16) (s : State),
    let g := s.engine e.val
    let disconnects (b t : State) : Prop := (t.engine e.val).state = .disconnecting ∧
      s.Asks t ⟨.disconnect, g.context.bind Context.accessPoint, some (laneSet e.val g.wide), .engine e.val⟩ ∧
      b.OnlyEngine t e.val ∧ t = { b with engines := t.engines, amc := t.amc }
    (∀ (rx : List Bool) (m d : Nat), s.laneTime ≤ m → m < 1250000 →
      let b := s.moveTo m
      let r := (b.engine e.val).receive rx
      let ticks := ((s.freeCounter : Int) + ((m : Int) - 64) / 10 - (d : Int)).toNat
      r.lane.wordDet.search = some d → r.lane.wordDet.seen = true → ticks ≤ 2500000 →
      ∃ t, exec (.delayWordFound e rx m) s = .next t ∧ (t.engine e.val).meas = { r.meas with ticksT := some ticks } ∧
        (t.engine e.val).lane.wordDet.search = none ∧
        (g.state ≠ .calibrating → (t.engine e.val).state = g.state ∧ (t.engine e.val).context = g.context ∧
          (t.engine e.val).localOffset = g.localOffset ∧ (∀ d, d ≠ e.val → t.engine d = b.engine d) ∧
          t = { b with engines := t.engines }) ∧
        (g.state = .calibrating → (t.engine e.val).localOffset = min ((4 * ticks + 25) / 50) 2000 ∧
          (t.engine e.val).context = g.context.map (fun x =>
            { x with calDelay := some ((4 * ticks + 25) / 50), phaseTimer := 0 }) ∧ disconnects b t)) ∧
    (∀ d m, g.lane.wordDet.search = some d → s.laneTime ≤ m → m < 1250000 → d + 2500000 ≤ s.freeCounter + m / 10 →
      ∃ t, exec (.delayWordTimeout ⟨e, m⟩) s = .next t ∧ (t.engine e.val).meas = g.meas ∧
        (t.engine e.val).localOffset = g.localOffset ∧ (t.engine e.val).lane.wordDet.search = none ∧
        (g.state = .calibrating → disconnects (s.moveTo m) t) ∧
        (g.state ≠ .calibrating → (t.engine e.val).state = g.state ∧ (t.engine e.val).context = g.context ∧
          (∀ d, d ≠ e.val → t.engine d = (s.moveTo m).engine d) ∧ t = { s.moveTo m with engines := t.engines })) ∧
    (∀ u, g.limitUntil = some u → u ≤ s.now →
      ∃ t, exec (.calibrationLimit e) s = .next t ∧ (t.engine e.val).meas = g.meas ∧
        (t.engine e.val).localOffset = g.localOffset ∧ (t.engine e.val).limitUntil = none ∧ disconnects s t)

/-! ## The release (R60 to R64, R68, R127, R130, R148) -/

/-- The hold of a release attempt ends in its check. The check passed, or the courtesy hold ended, is the release end: the
slot is returned, the verdict of the outcomes and of the record handed over (R43), graded by the limits and the mode of R75 and
R76, is written and goes out, the circuit is IDLE, a baseline
campaign's PASS or LIMITED writes the baselines, a campaign probe is counted under its grade and may end its campaign, and the
engine asks for its DISCONNECT. An event taken late (log 3) and a count held at 4294967295 (log 22) are the model's
choices. The run that it starts (R104) is a mark, the model's choice (log 20). -/
def Obligations.ReleaseEndGradesTheProbe : Prop :=
  ∀ (e : Fin 16) (s : State) (x : Context), (s.engine e.val).context = some x →
    let g := s.engine e.val
    (g.state = .loopDown → g.checkFrom = none → x.timing.releaseHold ≤ x.phaseTimer →
      ∃ t, exec (.releaseHoldEnd e) s = .next t ∧ (t.engine e.val).checkFrom = some s.now ∧
        (t.engine e.val).lane.checker.arm = .release ∧ (t.engine e.val).lane.checker.inSync = false ∧
        (t.engine e.val).lane.gen.reg = BitVec.allOnes 31 ∧
        (t.engine e.val).state = .loopDown ∧ (t.engine e.val).context = some x ∧ (t.engine e.val).meas = g.meas ∧
        s.OnlyEngine t e.val ∧ t = { s with engines := t.engines }) ∧
    (∀ (n c : Nat) (step : Instr), x.farNode = some n → n < 64 → x.circuit = some c → c < 2048 →
      x.kind ≠ .calibration → .blocked ∉ x.outcomes → .stuckLoop ∉ x.outcomes → .released ∉ x.outcomes →
      ((step = .releaseCheckEnd e ∧ ∃ u, g.checkFrom = some u ∧ u + x.timing.releaseCheck ≤ s.now) ∨
        (step = .courtesyHoldEnd e ∧ g.state = .courtesyRelease ∧ x.timing.releaseHold ≤ x.phaseTimer ∧
          x.kind ≠ .releaseOnly)) →
      let y : Context := if x.kind = .releaseOnly then { x with outcomes := x.outcomes ++ [.released] } else x
      let v := verdictOf y e.val (handedOver s e.val x) (gradedBy s e.val c x)
      let writes : Prop := x.kind = .campaign ∧ s.campaign.kind = .baseline ∧ (v.grade = .pass ∨ v.grade = .limited)
      ∃ t r, exec step s = .next t ∧ t.node n = { s.node n with occupancy := (s.node n).occupancy - 1 } ∧
        (∀ m, m ≠ n → t.node m = s.node m) ∧ (∀ d, d ≠ c → t.circuit d = s.circuit d) ∧
        t.circuit c = { s.circuit c with
          status := .idle, last := some v, baseDelay := (t.circuit c).baseDelay, baseLevel := (t.circuit c).baseLevel } ∧
        (writes → (t.circuit c).baseDelay = v.delayDn.or (s.circuit c).baseDelay ∧
          (t.circuit c).baseLevel = v.levelLm.or (s.circuit c).baseLevel) ∧
        (¬writes → (t.circuit c).baseDelay = (s.circuit c).baseDelay ∧ (t.circuit c).baseLevel = (s.circuit c).baseLevel) ∧
        (x.kind = .releaseOnly → v.grade = .released) ∧
        VerdictGoesOut s x c v r ∧
        (s.mli.tx.length < 47 → ∃ ended, EndGoesOut s t x ended ∧
          (VerdictHasPlace s x → t.mli.tx = s.mli.tx ++ r ++ ended)) ∧
        (∀ i d, x.kind ≠ .campaign → x.slot = some i → s.slot i = some d → d.placed = false →
          t.slot i = some { d with placed := true }) ∧
        (x.kind = .campaign → CountedIn s t v) ∧
        (x.kind ≠ .campaign → t.campaign = s.campaign ∧ t.classes = s.classes) ∧
        (t.engine e.val).state = .disconnecting ∧ (t.engine e.val).context = some { y with phaseTimer := 0 } ∧
        (t.engine e.val).meas = g.meas ∧ s.OnlyEngine t e.val ∧
        s.Asks t ⟨.disconnect, x.accessPoint, some (laneSet e.val (x.rate == .wide)), .engine e.val⟩ ∧
        t.points = s.points ∧ t.openLoops = s.openLoops ∧ t.spot = s.spot ∧ t.runDue = true)

/-- A sync gain during the check of a release attempt, on the lane of the engine or of the follower it leads: with attempts
left the next attempt begins; with none left the loop is stuck: its slot passes to a new open loop entry, the circuit is
OPEN_LOOP with a verdict of grade STUCK_LOOP, the verdict goes out, a STUCK_LOOP notice follows it, then CAMPAIGN_END if the
campaign ends with this probe, and the engine asks for its DISCONNECT. The moment and the bits of an event are the model's
(log 6), and so is a count held at 4294967295 (log 22). -/
def Obligations.StandingLoopJoinsTheList : Prop :=
  ∀ (e : Fin 16) (l : Nat) (s : State) (x : Context) (rx : List Bool) (m u : Nat), s.laneTime ≤ m → m < 1250000 →
    let b := (s.moveTo m).setEngine e.val (((s.moveTo m).engine e.val).receive rx)
    (e.val = l ∨ (e.val = l + 1 ∧ l % 2 = 0 ∧ (s.engine e.val).state = .following ∧ x.rate = .wide)) →
    (s.engine l).state = .loopDown → (s.engine l).checkFrom = some u → (s.engine l).context = some x →
    (b.engine e.val).lane.checker.gain = true →
    (x.releaseAttempts < x.timing.releaseAttempts →
      ∃ t, exec (.checkerSyncGain e rx m) s = .next t ∧ (t.engine l).state = .loopDown ∧ (t.engine l).checkFrom = none ∧
        (t.engine l).lane.checker.arm = .unarmed ∧ (t.engine l).lane.gen.codePos = 0 ∧
        (t.engine l).context = some { x with phaseTimer := 0, releaseAttempts := x.releaseAttempts + 1 } ∧
        (t.engine l).meas = (b.engine l).meas ∧ b.OnlyEngine t l ∧ t = { b with engines := t.engines }) ∧
    (∀ n p c, x.timing.releaseAttempts ≤ x.releaseAttempts → x.farNode = some n → x.accessPoint = some p →
      x.circuit = some c → c < 2048 → x.kind ≠ .calibration → .blocked ∉ x.outcomes →
      let y : Context := { x with outcomes := x.outcomes ++ [.stuckLoop] }
      let v := verdictOf y l (handedOver b l x) (gradedBy b l c x)
      let total := min (x.releaseTotal.getD 0 + x.releaseAttempts) 255
      ∃ t r, exec (.checkerSyncGain e rx m) s = .next t ∧
        t.openLoops = s.openLoops ++ [⟨c, n, p, x.activate, x.deactivate, s.now, total⟩] ∧
        t.circuit c = { s.circuit c with status := .openLoop, last := some v } ∧ v.grade = .stuckLoop ∧
        (∀ d, d ≠ c → t.circuit d = s.circuit d) ∧ t.nodes = s.nodes ∧
        VerdictGoesOut s x c v r ∧
        (s.mli.tx.length < 46 → ∃ ended, EndGoesOut s t x ended ∧
          (VerdictHasPlace s x → t.mli.tx = s.mli.tx ++ r ++ ⟨.notice, 0x83, 0, .ok, false, false,
              be16 c ++ be8 n ++ be8 p ++ be8 x.kind.byte ++ be16 x.campaignNumber ++ be8 x.releaseAttempts ++ be8 total ++
                be8 (s.openLoops.length + 1), none⟩ :: ended)) ∧
        (x.kind = .campaign → CountedIn s t v) ∧
        (x.kind ≠ .campaign → t.campaign = s.campaign ∧ t.classes = s.classes) ∧
        (t.engine l).state = .disconnecting ∧ (t.engine l).context = some { y with phaseTimer := 0 } ∧
        (t.engine l).meas = (b.engine l).meas ∧ b.OnlyEngine t l ∧
        s.Asks t ⟨.disconnect, some p, some (laneSet l (x.rate == .wide)), .engine l⟩ ∧
        t.points = s.points ∧ t.spot = s.spot)

/-! ## The grade (R78 to R87) -/

/-- The verdict of a measured probe: payload errors, delay and level by the arithmetic of their stages, the flag set, and the
grade as the first case that applies: BLOCKED, STUCK_LOOP, RELEASED, the fault of highest rank, CANCELLED, MARGINAL, LIMITED,
PASS. The verdict of an unmeasured probe: counts at zero, delay and level absent, no flag, and the grade from its outcomes and
abort mark alone. -/
def Obligations.GradeIsTheFirstCase : Prop :=
  ∀ (x : Context) (e : Nat) (m : Measured) (q : GradeLimits),
    let v := verdictOf x e m q
    let missed := m.expectedX - m.hitsH
    let own := m.errorsE - m.hitsH
    let full := decide (m.errorsE = 4294967295)
    let payload := if full then 4294967295 else if missed = 0 ∨ own = 0 then own else min (own + missed) 4294967295
    let dn := m.ticksT.map (fun t => min ((4 * t + 25) / 50 - q.offset) 65535)
    let mean (lane : Int × Nat) : Int :=
      max (-400) (min ((2 * lane.1 + (lane.2 : Int)) / (2 * (lane.2 : Int))) 50)
    let lm := ((m.lanes.filter (fun lane => decide (0 < lane.2))).map mean).min?
    let error := decide (m.bitsB / 10 ^ q.exponent < payload) || decide (0 < m.lossesK)
    let berShort := !error && decide (m.bitsB < 10 ^ q.exponent)
    let windowOn := decide (q.windowLow ≤ q.windowHigh)
    let route := windowOn && dn.any (fun d => decide (d < q.windowLow) || decide (q.windowHigh < d))
    let fall := if q.mode = .verify then q.baseLevel.bind (fun b => lm.map (fun l => b - l)) else none
    let loss := lm.any (fun l => decide (l < q.minLevel)) || fall.any (fun d => decide ((q.lossFail : Int) < d))
    let shift := decide (q.mode = .verify) && dn.any (fun d => q.baseDelay.any (fun b =>
      decide (q.shiftTolerance < d - b) || decide (q.shiftTolerance < b - d)))
    let lossRise := fall.any (fun d => decide (d ≤ (q.lossFail : Int)) && decide ((q.lossWarn : Int) < d))
    let levelRise := fall.any (fun d => decide (d < -30))
    let marginal := shift || lossRise || levelRise
    let limited := berShort || (dn.isNone && (windowOn || q.baseDelay.isSome))
    v.campaignNumber = x.campaignNumber ∧ v.engine = some e ∧ v.loopAttempts = x.loopAttempts ∧
    v.releaseAttempts = x.releaseAttempts ∧
    (x.measured = true →
      v.bitsB = m.bitsB ∧ v.errorsE = m.errorsE ∧ v.payloadP = payload ∧ v.hitsH = m.hitsH ∧ v.expectedX = m.expectedX ∧
      v.lossesK = m.lossesK ∧ v.delayDn = dn ∧ v.levelLm = lm ∧
      v.flags = {
        markersMissed := decide (0 < missed) && (full || decide (0 < own))
        berShort := berShort
        routeShift := shift
        delayUnmeasured := dn.isNone
        lossRise := lossRise
        levelRise := levelRise
        levelUnmeasured := lm.isNone
        soakShortened := decide (.soakShortened ∈ x.outcomes)
        manual := false } ∧
      v.grade =
        if .blocked ∈ x.outcomes then .blocked
        else if .stuckLoop ∈ x.outcomes then .stuckLoop
        else if .released ∈ x.outcomes then .released
        else if .noLoop ∈ x.outcomes then .noLoop
        else if .aisReceived ∈ x.outcomes then .aisReceived
        else if full = false ∧ 0 < missed ∧ own = 0 then .foreignEcho
        else if .signalDropout ∈ x.outcomes then .signalDropout
        else if route = true then .routeFault
        else if error = true then .errorFault
        else if loss = true then .lossFault
        else if x.aborted = true then .cancelled
        else if marginal = true then .marginal
        else if limited = true then .limited
        else .pass) ∧
    (x.measured = false →
      v.bitsB = 0 ∧ v.errorsE = 0 ∧ v.payloadP = 0 ∧ v.hitsH = 0 ∧ v.expectedX = 0 ∧ v.lossesK = 0 ∧ v.delayDn = none ∧
      v.levelLm = none ∧ v.flags = ⟨false, false, false, false, false, false, false, false, false⟩ ∧
      v.grade =
        if .blocked ∈ x.outcomes then .blocked
        else if .stuckLoop ∈ x.outcomes then .stuckLoop
        else if .released ∈ x.outcomes then .released
        else if .noLoop ∈ x.outcomes then .noLoop
        else if .aisReceived ∈ x.outcomes then .aisReceived
        else if .signalDropout ∈ x.outcomes then .signalDropout
        else if x.aborted = true then .cancelled
        else .pass)
end

