-- ==== Sys2Proof/Laws/State.lean ====
section
/-! SUPPORT. State: what each update leaves and what it writes, one lemma a field, and reading an entry back. -/

namespace Sys2Proof.Machine

/-! ## setCircuit -/

@[simp] theorem setCircuit_pending (s : State) (c : Nat) (r : Circuit) : (s.setCircuit c r).pending = s.pending := rfl
@[simp] theorem setCircuit_now (s : State) (c : Nat) (r : Circuit) : (s.setCircuit c r).now = s.now := rfl
@[simp] theorem setCircuit_freeCounter (s : State) (c : Nat) (r : Circuit) : (s.setCircuit c r).freeCounter = s.freeCounter := rfl
@[simp] theorem setCircuit_laneTime (s : State) (c : Nat) (r : Circuit) : (s.setCircuit c r).laneTime = s.laneTime := rfl
@[simp] theorem setCircuit_strapA (s : State) (c : Nat) (r : Circuit) : (s.setCircuit c r).strapA = s.strapA := rfl
@[simp] theorem setCircuit_strapB (s : State) (c : Nat) (r : Circuit) : (s.setCircuit c r).strapB = s.strapB := rfl
@[simp] theorem setCircuit_lineRate (s : State) (c : Nat) (r : Circuit) : (s.setCircuit c r).lineRate = s.lineRate := rfl
@[simp] theorem setCircuit_engines (s : State) (c : Nat) (r : Circuit) : (s.setCircuit c r).engines = s.engines := rfl
@[simp] theorem setCircuit_priorityTurn (s : State) (c : Nat) (r : Circuit) : (s.setCircuit c r).priorityTurn = s.priorityTurn := rfl
@[simp] theorem setCircuit_standardTurn (s : State) (c : Nat) (r : Circuit) : (s.setCircuit c r).standardTurn = s.standardTurn := rfl
@[simp] theorem setCircuit_points (s : State) (c : Nat) (r : Circuit) : (s.setCircuit c r).points = s.points := rfl
@[simp] theorem setCircuit_nodes (s : State) (c : Nat) (r : Circuit) : (s.setCircuit c r).nodes = s.nodes := rfl
@[simp] theorem setCircuit_runDue (s : State) (c : Nat) (r : Circuit) : (s.setCircuit c r).runDue = s.runDue := rfl
@[simp] theorem setCircuit_campaign (s : State) (c : Nat) (r : Circuit) : (s.setCircuit c r).campaign = s.campaign := rfl
@[simp] theorem setCircuit_classes (s : State) (c : Nat) (r : Circuit) : (s.setCircuit c r).classes = s.classes := rfl
@[simp] theorem setCircuit_spot (s : State) (c : Nat) (r : Circuit) : (s.setCircuit c r).spot = s.spot := rfl
@[simp] theorem setCircuit_openLoops (s : State) (c : Nat) (r : Circuit) : (s.setCircuit c r).openLoops = s.openLoops := rfl
@[simp] theorem setCircuit_amc (s : State) (c : Nat) (r : Circuit) : (s.setCircuit c r).amc = s.amc := rfl
@[simp] theorem setCircuit_mli (s : State) (c : Nat) (r : Circuit) : (s.setCircuit c r).mli = s.mli := rfl
@[simp] theorem setCircuit_launches (s : State) (c : Nat) (r : Circuit) : (s.setCircuit c r).launches = s.launches := rfl

/-! ## setEngine -/

@[simp] theorem setEngine_pending (s : State) (e : Nat) (g : Engine) : (s.setEngine e g).pending = s.pending := rfl
@[simp] theorem setEngine_now (s : State) (e : Nat) (g : Engine) : (s.setEngine e g).now = s.now := rfl
@[simp] theorem setEngine_freeCounter (s : State) (e : Nat) (g : Engine) : (s.setEngine e g).freeCounter = s.freeCounter := rfl
@[simp] theorem setEngine_laneTime (s : State) (e : Nat) (g : Engine) : (s.setEngine e g).laneTime = s.laneTime := rfl
@[simp] theorem setEngine_strapA (s : State) (e : Nat) (g : Engine) : (s.setEngine e g).strapA = s.strapA := rfl
@[simp] theorem setEngine_strapB (s : State) (e : Nat) (g : Engine) : (s.setEngine e g).strapB = s.strapB := rfl
@[simp] theorem setEngine_lineRate (s : State) (e : Nat) (g : Engine) : (s.setEngine e g).lineRate = s.lineRate := rfl
@[simp] theorem setEngine_circuits (s : State) (e : Nat) (g : Engine) : (s.setEngine e g).circuits = s.circuits := rfl
@[simp] theorem setEngine_priorityTurn (s : State) (e : Nat) (g : Engine) : (s.setEngine e g).priorityTurn = s.priorityTurn := rfl
@[simp] theorem setEngine_standardTurn (s : State) (e : Nat) (g : Engine) : (s.setEngine e g).standardTurn = s.standardTurn := rfl
@[simp] theorem setEngine_points (s : State) (e : Nat) (g : Engine) : (s.setEngine e g).points = s.points := rfl
@[simp] theorem setEngine_nodes (s : State) (e : Nat) (g : Engine) : (s.setEngine e g).nodes = s.nodes := rfl
@[simp] theorem setEngine_runDue (s : State) (e : Nat) (g : Engine) : (s.setEngine e g).runDue = s.runDue := rfl
@[simp] theorem setEngine_campaign (s : State) (e : Nat) (g : Engine) : (s.setEngine e g).campaign = s.campaign := rfl
@[simp] theorem setEngine_classes (s : State) (e : Nat) (g : Engine) : (s.setEngine e g).classes = s.classes := rfl
@[simp] theorem setEngine_spot (s : State) (e : Nat) (g : Engine) : (s.setEngine e g).spot = s.spot := rfl
@[simp] theorem setEngine_openLoops (s : State) (e : Nat) (g : Engine) : (s.setEngine e g).openLoops = s.openLoops := rfl
@[simp] theorem setEngine_amc (s : State) (e : Nat) (g : Engine) : (s.setEngine e g).amc = s.amc := rfl
@[simp] theorem setEngine_mli (s : State) (e : Nat) (g : Engine) : (s.setEngine e g).mli = s.mli := rfl
@[simp] theorem setEngine_launches (s : State) (e : Nat) (g : Engine) : (s.setEngine e g).launches = s.launches := rfl

/-! ## setPoint -/

@[simp] theorem setPoint_pending (s : State) (p : Nat) (x : Point) : (s.setPoint p x).pending = s.pending := rfl
@[simp] theorem setPoint_now (s : State) (p : Nat) (x : Point) : (s.setPoint p x).now = s.now := rfl
@[simp] theorem setPoint_freeCounter (s : State) (p : Nat) (x : Point) : (s.setPoint p x).freeCounter = s.freeCounter := rfl
@[simp] theorem setPoint_laneTime (s : State) (p : Nat) (x : Point) : (s.setPoint p x).laneTime = s.laneTime := rfl
@[simp] theorem setPoint_strapA (s : State) (p : Nat) (x : Point) : (s.setPoint p x).strapA = s.strapA := rfl
@[simp] theorem setPoint_strapB (s : State) (p : Nat) (x : Point) : (s.setPoint p x).strapB = s.strapB := rfl
@[simp] theorem setPoint_lineRate (s : State) (p : Nat) (x : Point) : (s.setPoint p x).lineRate = s.lineRate := rfl
@[simp] theorem setPoint_circuits (s : State) (p : Nat) (x : Point) : (s.setPoint p x).circuits = s.circuits := rfl
@[simp] theorem setPoint_engines (s : State) (p : Nat) (x : Point) : (s.setPoint p x).engines = s.engines := rfl
@[simp] theorem setPoint_priorityTurn (s : State) (p : Nat) (x : Point) : (s.setPoint p x).priorityTurn = s.priorityTurn := rfl
@[simp] theorem setPoint_standardTurn (s : State) (p : Nat) (x : Point) : (s.setPoint p x).standardTurn = s.standardTurn := rfl
@[simp] theorem setPoint_nodes (s : State) (p : Nat) (x : Point) : (s.setPoint p x).nodes = s.nodes := rfl
@[simp] theorem setPoint_runDue (s : State) (p : Nat) (x : Point) : (s.setPoint p x).runDue = s.runDue := rfl
@[simp] theorem setPoint_campaign (s : State) (p : Nat) (x : Point) : (s.setPoint p x).campaign = s.campaign := rfl
@[simp] theorem setPoint_classes (s : State) (p : Nat) (x : Point) : (s.setPoint p x).classes = s.classes := rfl
@[simp] theorem setPoint_spot (s : State) (p : Nat) (x : Point) : (s.setPoint p x).spot = s.spot := rfl
@[simp] theorem setPoint_openLoops (s : State) (p : Nat) (x : Point) : (s.setPoint p x).openLoops = s.openLoops := rfl
@[simp] theorem setPoint_amc (s : State) (p : Nat) (x : Point) : (s.setPoint p x).amc = s.amc := rfl
@[simp] theorem setPoint_mli (s : State) (p : Nat) (x : Point) : (s.setPoint p x).mli = s.mli := rfl
@[simp] theorem setPoint_launches (s : State) (p : Nat) (x : Point) : (s.setPoint p x).launches = s.launches := rfl

/-! ## setNode -/

@[simp] theorem setNode_pending (s : State) (n : Nat) (x : Node) : (s.setNode n x).pending = s.pending := rfl
@[simp] theorem setNode_now (s : State) (n : Nat) (x : Node) : (s.setNode n x).now = s.now := rfl
@[simp] theorem setNode_freeCounter (s : State) (n : Nat) (x : Node) : (s.setNode n x).freeCounter = s.freeCounter := rfl
@[simp] theorem setNode_laneTime (s : State) (n : Nat) (x : Node) : (s.setNode n x).laneTime = s.laneTime := rfl
@[simp] theorem setNode_strapA (s : State) (n : Nat) (x : Node) : (s.setNode n x).strapA = s.strapA := rfl
@[simp] theorem setNode_strapB (s : State) (n : Nat) (x : Node) : (s.setNode n x).strapB = s.strapB := rfl
@[simp] theorem setNode_lineRate (s : State) (n : Nat) (x : Node) : (s.setNode n x).lineRate = s.lineRate := rfl
@[simp] theorem setNode_circuits (s : State) (n : Nat) (x : Node) : (s.setNode n x).circuits = s.circuits := rfl
@[simp] theorem setNode_engines (s : State) (n : Nat) (x : Node) : (s.setNode n x).engines = s.engines := rfl
@[simp] theorem setNode_priorityTurn (s : State) (n : Nat) (x : Node) : (s.setNode n x).priorityTurn = s.priorityTurn := rfl
@[simp] theorem setNode_standardTurn (s : State) (n : Nat) (x : Node) : (s.setNode n x).standardTurn = s.standardTurn := rfl
@[simp] theorem setNode_points (s : State) (n : Nat) (x : Node) : (s.setNode n x).points = s.points := rfl
@[simp] theorem setNode_runDue (s : State) (n : Nat) (x : Node) : (s.setNode n x).runDue = s.runDue := rfl
@[simp] theorem setNode_campaign (s : State) (n : Nat) (x : Node) : (s.setNode n x).campaign = s.campaign := rfl
@[simp] theorem setNode_classes (s : State) (n : Nat) (x : Node) : (s.setNode n x).classes = s.classes := rfl
@[simp] theorem setNode_spot (s : State) (n : Nat) (x : Node) : (s.setNode n x).spot = s.spot := rfl
@[simp] theorem setNode_openLoops (s : State) (n : Nat) (x : Node) : (s.setNode n x).openLoops = s.openLoops := rfl
@[simp] theorem setNode_amc (s : State) (n : Nat) (x : Node) : (s.setNode n x).amc = s.amc := rfl
@[simp] theorem setNode_mli (s : State) (n : Nat) (x : Node) : (s.setNode n x).mli = s.mli := rfl
@[simp] theorem setNode_launches (s : State) (n : Nat) (x : Node) : (s.setNode n x).launches = s.launches := rfl

/-! ## setCls -/

@[simp] theorem setCls_pending (s : State) (k : Nat) (x : PacingClass) : (s.setCls k x).pending = s.pending := rfl
@[simp] theorem setCls_now (s : State) (k : Nat) (x : PacingClass) : (s.setCls k x).now = s.now := rfl
@[simp] theorem setCls_freeCounter (s : State) (k : Nat) (x : PacingClass) : (s.setCls k x).freeCounter = s.freeCounter := rfl
@[simp] theorem setCls_laneTime (s : State) (k : Nat) (x : PacingClass) : (s.setCls k x).laneTime = s.laneTime := rfl
@[simp] theorem setCls_strapA (s : State) (k : Nat) (x : PacingClass) : (s.setCls k x).strapA = s.strapA := rfl
@[simp] theorem setCls_strapB (s : State) (k : Nat) (x : PacingClass) : (s.setCls k x).strapB = s.strapB := rfl
@[simp] theorem setCls_lineRate (s : State) (k : Nat) (x : PacingClass) : (s.setCls k x).lineRate = s.lineRate := rfl
@[simp] theorem setCls_circuits (s : State) (k : Nat) (x : PacingClass) : (s.setCls k x).circuits = s.circuits := rfl
@[simp] theorem setCls_engines (s : State) (k : Nat) (x : PacingClass) : (s.setCls k x).engines = s.engines := rfl
@[simp] theorem setCls_priorityTurn (s : State) (k : Nat) (x : PacingClass) : (s.setCls k x).priorityTurn = s.priorityTurn := rfl
@[simp] theorem setCls_standardTurn (s : State) (k : Nat) (x : PacingClass) : (s.setCls k x).standardTurn = s.standardTurn := rfl
@[simp] theorem setCls_points (s : State) (k : Nat) (x : PacingClass) : (s.setCls k x).points = s.points := rfl
@[simp] theorem setCls_nodes (s : State) (k : Nat) (x : PacingClass) : (s.setCls k x).nodes = s.nodes := rfl
@[simp] theorem setCls_runDue (s : State) (k : Nat) (x : PacingClass) : (s.setCls k x).runDue = s.runDue := rfl
@[simp] theorem setCls_campaign (s : State) (k : Nat) (x : PacingClass) : (s.setCls k x).campaign = s.campaign := rfl
@[simp] theorem setCls_spot (s : State) (k : Nat) (x : PacingClass) : (s.setCls k x).spot = s.spot := rfl
@[simp] theorem setCls_openLoops (s : State) (k : Nat) (x : PacingClass) : (s.setCls k x).openLoops = s.openLoops := rfl
@[simp] theorem setCls_amc (s : State) (k : Nat) (x : PacingClass) : (s.setCls k x).amc = s.amc := rfl
@[simp] theorem setCls_mli (s : State) (k : Nat) (x : PacingClass) : (s.setCls k x).mli = s.mli := rfl
@[simp] theorem setCls_launches (s : State) (k : Nat) (x : PacingClass) : (s.setCls k x).launches = s.launches := rfl

/-! ## startRun -/

@[simp] theorem startRun_pending (s : State) : (s.startRun).pending = s.pending := rfl
@[simp] theorem startRun_now (s : State) : (s.startRun).now = s.now := rfl
@[simp] theorem startRun_freeCounter (s : State) : (s.startRun).freeCounter = s.freeCounter := rfl
@[simp] theorem startRun_laneTime (s : State) : (s.startRun).laneTime = s.laneTime := rfl
@[simp] theorem startRun_strapA (s : State) : (s.startRun).strapA = s.strapA := rfl
@[simp] theorem startRun_strapB (s : State) : (s.startRun).strapB = s.strapB := rfl
@[simp] theorem startRun_lineRate (s : State) : (s.startRun).lineRate = s.lineRate := rfl
@[simp] theorem startRun_circuits (s : State) : (s.startRun).circuits = s.circuits := rfl
@[simp] theorem startRun_engines (s : State) : (s.startRun).engines = s.engines := rfl
@[simp] theorem startRun_priorityTurn (s : State) : (s.startRun).priorityTurn = s.priorityTurn := rfl
@[simp] theorem startRun_standardTurn (s : State) : (s.startRun).standardTurn = s.standardTurn := rfl
@[simp] theorem startRun_points (s : State) : (s.startRun).points = s.points := rfl
@[simp] theorem startRun_nodes (s : State) : (s.startRun).nodes = s.nodes := rfl
@[simp] theorem startRun_campaign (s : State) : (s.startRun).campaign = s.campaign := rfl
@[simp] theorem startRun_classes (s : State) : (s.startRun).classes = s.classes := rfl
@[simp] theorem startRun_spot (s : State) : (s.startRun).spot = s.spot := rfl
@[simp] theorem startRun_openLoops (s : State) : (s.startRun).openLoops = s.openLoops := rfl
@[simp] theorem startRun_amc (s : State) : (s.startRun).amc = s.amc := rfl
@[simp] theorem startRun_mli (s : State) : (s.startRun).mli = s.mli := rfl
@[simp] theorem startRun_launches (s : State) : (s.startRun).launches = s.launches := rfl

/-! ## place -/

@[simp] theorem place_pending (s : State) (r : TxRecord) : (s.place r).pending = s.pending := rfl
@[simp] theorem place_now (s : State) (r : TxRecord) : (s.place r).now = s.now := rfl
@[simp] theorem place_freeCounter (s : State) (r : TxRecord) : (s.place r).freeCounter = s.freeCounter := rfl
@[simp] theorem place_laneTime (s : State) (r : TxRecord) : (s.place r).laneTime = s.laneTime := rfl
@[simp] theorem place_strapA (s : State) (r : TxRecord) : (s.place r).strapA = s.strapA := rfl
@[simp] theorem place_strapB (s : State) (r : TxRecord) : (s.place r).strapB = s.strapB := rfl
@[simp] theorem place_lineRate (s : State) (r : TxRecord) : (s.place r).lineRate = s.lineRate := rfl
@[simp] theorem place_circuits (s : State) (r : TxRecord) : (s.place r).circuits = s.circuits := rfl
@[simp] theorem place_engines (s : State) (r : TxRecord) : (s.place r).engines = s.engines := rfl
@[simp] theorem place_priorityTurn (s : State) (r : TxRecord) : (s.place r).priorityTurn = s.priorityTurn := rfl
@[simp] theorem place_standardTurn (s : State) (r : TxRecord) : (s.place r).standardTurn = s.standardTurn := rfl
@[simp] theorem place_points (s : State) (r : TxRecord) : (s.place r).points = s.points := rfl
@[simp] theorem place_nodes (s : State) (r : TxRecord) : (s.place r).nodes = s.nodes := rfl
@[simp] theorem place_runDue (s : State) (r : TxRecord) : (s.place r).runDue = s.runDue := rfl
@[simp] theorem place_campaign (s : State) (r : TxRecord) : (s.place r).campaign = s.campaign := rfl
@[simp] theorem place_classes (s : State) (r : TxRecord) : (s.place r).classes = s.classes := rfl
@[simp] theorem place_spot (s : State) (r : TxRecord) : (s.place r).spot = s.spot := rfl
@[simp] theorem place_openLoops (s : State) (r : TxRecord) : (s.place r).openLoops = s.openLoops := rfl
@[simp] theorem place_amc (s : State) (r : TxRecord) : (s.place r).amc = s.amc := rfl
@[simp] theorem place_launches (s : State) (r : TxRecord) : (s.place r).launches = s.launches := rfl

/-! ## setSlot -/

@[simp] theorem setSlot_pending (s : State) (i : Nat) (x : Option DeferredSlot) : (s.setSlot i x).pending = s.pending := rfl
@[simp] theorem setSlot_now (s : State) (i : Nat) (x : Option DeferredSlot) : (s.setSlot i x).now = s.now := rfl
@[simp] theorem setSlot_freeCounter (s : State) (i : Nat) (x : Option DeferredSlot) : (s.setSlot i x).freeCounter = s.freeCounter := rfl
@[simp] theorem setSlot_laneTime (s : State) (i : Nat) (x : Option DeferredSlot) : (s.setSlot i x).laneTime = s.laneTime := rfl
@[simp] theorem setSlot_strapA (s : State) (i : Nat) (x : Option DeferredSlot) : (s.setSlot i x).strapA = s.strapA := rfl
@[simp] theorem setSlot_strapB (s : State) (i : Nat) (x : Option DeferredSlot) : (s.setSlot i x).strapB = s.strapB := rfl
@[simp] theorem setSlot_lineRate (s : State) (i : Nat) (x : Option DeferredSlot) : (s.setSlot i x).lineRate = s.lineRate := rfl
@[simp] theorem setSlot_circuits (s : State) (i : Nat) (x : Option DeferredSlot) : (s.setSlot i x).circuits = s.circuits := rfl
@[simp] theorem setSlot_engines (s : State) (i : Nat) (x : Option DeferredSlot) : (s.setSlot i x).engines = s.engines := rfl
@[simp] theorem setSlot_priorityTurn (s : State) (i : Nat) (x : Option DeferredSlot) : (s.setSlot i x).priorityTurn = s.priorityTurn := rfl
@[simp] theorem setSlot_standardTurn (s : State) (i : Nat) (x : Option DeferredSlot) : (s.setSlot i x).standardTurn = s.standardTurn := rfl
@[simp] theorem setSlot_points (s : State) (i : Nat) (x : Option DeferredSlot) : (s.setSlot i x).points = s.points := rfl
@[simp] theorem setSlot_nodes (s : State) (i : Nat) (x : Option DeferredSlot) : (s.setSlot i x).nodes = s.nodes := rfl
@[simp] theorem setSlot_runDue (s : State) (i : Nat) (x : Option DeferredSlot) : (s.setSlot i x).runDue = s.runDue := rfl
@[simp] theorem setSlot_campaign (s : State) (i : Nat) (x : Option DeferredSlot) : (s.setSlot i x).campaign = s.campaign := rfl
@[simp] theorem setSlot_classes (s : State) (i : Nat) (x : Option DeferredSlot) : (s.setSlot i x).classes = s.classes := rfl
@[simp] theorem setSlot_spot (s : State) (i : Nat) (x : Option DeferredSlot) : (s.setSlot i x).spot = s.spot := rfl
@[simp] theorem setSlot_openLoops (s : State) (i : Nat) (x : Option DeferredSlot) : (s.setSlot i x).openLoops = s.openLoops := rfl
@[simp] theorem setSlot_amc (s : State) (i : Nat) (x : Option DeferredSlot) : (s.setSlot i x).amc = s.amc := rfl
@[simp] theorem setSlot_launches (s : State) (i : Nat) (x : Option DeferredSlot) : (s.setSlot i x).launches = s.launches := rfl

/-! ## modCampaign -/

@[simp] theorem modCampaign_pending (s : State) (f : Campaign → Campaign) : (s.modCampaign f).pending = s.pending := rfl
@[simp] theorem modCampaign_now (s : State) (f : Campaign → Campaign) : (s.modCampaign f).now = s.now := rfl
@[simp] theorem modCampaign_freeCounter (s : State) (f : Campaign → Campaign) : (s.modCampaign f).freeCounter = s.freeCounter := rfl
@[simp] theorem modCampaign_laneTime (s : State) (f : Campaign → Campaign) : (s.modCampaign f).laneTime = s.laneTime := rfl
@[simp] theorem modCampaign_strapA (s : State) (f : Campaign → Campaign) : (s.modCampaign f).strapA = s.strapA := rfl
@[simp] theorem modCampaign_strapB (s : State) (f : Campaign → Campaign) : (s.modCampaign f).strapB = s.strapB := rfl
@[simp] theorem modCampaign_lineRate (s : State) (f : Campaign → Campaign) : (s.modCampaign f).lineRate = s.lineRate := rfl
@[simp] theorem modCampaign_circuits (s : State) (f : Campaign → Campaign) : (s.modCampaign f).circuits = s.circuits := rfl
@[simp] theorem modCampaign_engines (s : State) (f : Campaign → Campaign) : (s.modCampaign f).engines = s.engines := rfl
@[simp] theorem modCampaign_priorityTurn (s : State) (f : Campaign → Campaign) : (s.modCampaign f).priorityTurn = s.priorityTurn := rfl
@[simp] theorem modCampaign_standardTurn (s : State) (f : Campaign → Campaign) : (s.modCampaign f).standardTurn = s.standardTurn := rfl
@[simp] theorem modCampaign_points (s : State) (f : Campaign → Campaign) : (s.modCampaign f).points = s.points := rfl
@[simp] theorem modCampaign_nodes (s : State) (f : Campaign → Campaign) : (s.modCampaign f).nodes = s.nodes := rfl
@[simp] theorem modCampaign_runDue (s : State) (f : Campaign → Campaign) : (s.modCampaign f).runDue = s.runDue := rfl
@[simp] theorem modCampaign_classes (s : State) (f : Campaign → Campaign) : (s.modCampaign f).classes = s.classes := rfl
@[simp] theorem modCampaign_spot (s : State) (f : Campaign → Campaign) : (s.modCampaign f).spot = s.spot := rfl
@[simp] theorem modCampaign_openLoops (s : State) (f : Campaign → Campaign) : (s.modCampaign f).openLoops = s.openLoops := rfl
@[simp] theorem modCampaign_amc (s : State) (f : Campaign → Campaign) : (s.modCampaign f).amc = s.amc := rfl
@[simp] theorem modCampaign_mli (s : State) (f : Campaign → Campaign) : (s.modCampaign f).mli = s.mli := rfl
@[simp] theorem modCampaign_launches (s : State) (f : Campaign → Campaign) : (s.modCampaign f).launches = s.launches := rfl

/-! ## What the updates write -/

@[simp] theorem startRun_runDue (s : State) : s.startRun.runDue = true := rfl
@[simp] theorem modCampaign_campaign (s : State) (f : Campaign → Campaign) : (s.modCampaign f).campaign = f s.campaign := rfl
@[simp] theorem place_tx (s : State) (r : TxRecord) : (s.place r).mli.tx = s.mli.tx ++ [r] := rfl
@[simp] theorem place_slots (s : State) (r : TxRecord) : (s.place r).mli.slots = s.mli.slots := rfl
@[simp] theorem place_rxBuffer (s : State) (r : TxRecord) : (s.place r).mli.rxBuffer = s.mli.rxBuffer := rfl
@[simp] theorem place_receiver (s : State) (r : TxRecord) : (s.place r).mli.receiver = s.mli.receiver := rfl
@[simp] theorem place_rxAt (s : State) (r : TxRecord) : (s.place r).mli.rxAt = s.mli.rxAt := rfl
@[simp] theorem place_nextOrder (s : State) (r : TxRecord) : (s.place r).mli.nextOrder = s.mli.nextOrder := rfl
@[simp] theorem place_frameErrors (s : State) (r : TxRecord) : (s.place r).mli.frameErrors = s.mli.frameErrors := rfl
@[simp] theorem place_overruns (s : State) (r : TxRecord) : (s.place r).mli.overruns = s.mli.overruns := rfl
@[simp] theorem place_dropped (s : State) (r : TxRecord) : (s.place r).mli.dropped = s.mli.dropped := rfl
@[simp] theorem place_startup (s : State) (r : TxRecord) : (s.place r).mli.startup = s.mli.startup := rfl
@[simp] theorem setSlot_tx (s : State) (i : Nat) (x : Option DeferredSlot) : (s.setSlot i x).mli.tx = s.mli.tx := rfl
@[simp] theorem setSlot_rxBuffer (s : State) (i : Nat) (x : Option DeferredSlot) :
    (s.setSlot i x).mli.rxBuffer = s.mli.rxBuffer := rfl
@[simp] theorem setSlot_receiver (s : State) (i : Nat) (x : Option DeferredSlot) :
    (s.setSlot i x).mli.receiver = s.mli.receiver := rfl
@[simp] theorem setSlot_rxAt (s : State) (i : Nat) (x : Option DeferredSlot) : (s.setSlot i x).mli.rxAt = s.mli.rxAt := rfl
@[simp] theorem setSlot_nextOrder (s : State) (i : Nat) (x : Option DeferredSlot) :
    (s.setSlot i x).mli.nextOrder = s.mli.nextOrder := rfl
@[simp] theorem setSlot_frameErrors (s : State) (i : Nat) (x : Option DeferredSlot) :
    (s.setSlot i x).mli.frameErrors = s.mli.frameErrors := rfl
@[simp] theorem setSlot_overruns (s : State) (i : Nat) (x : Option DeferredSlot) :
    (s.setSlot i x).mli.overruns = s.mli.overruns := rfl
@[simp] theorem setSlot_dropped (s : State) (i : Nat) (x : Option DeferredSlot) :
    (s.setSlot i x).mli.dropped = s.mli.dropped := rfl
@[simp] theorem setSlot_startup (s : State) (i : Nat) (x : Option DeferredSlot) :
    (s.setSlot i x).mli.startup = s.mli.startup := rfl

/-! ## Reading an entry back -/

@[simp] theorem circuit_setCircuit_self (s : State) (c : Nat) (x : Circuit) (h : c < 2048) : (s.setCircuit c x).circuit c = x := by
  simp [State.setCircuit, State.circuit, h]

@[simp] theorem circuit_setCircuit_ne (s : State) (c d : Nat) (x : Circuit) (h : c ≠ d) : (s.setCircuit c x).circuit d = s.circuit d := by
  simp [State.setCircuit, State.circuit, h]

/-- Whatever the two numbers, an entry after a write is the one written or the one that stood. -/
theorem circuit_setCircuit (s : State) (c d : Nat) (x : Circuit) :
    (s.setCircuit c x).circuit d = if c = d ∧ c < 2048 then x else s.circuit d := by
  by_cases h : c = d
  · subst h
    by_cases h2 : c < 2048
    · simp [h2]
    · simp [State.setCircuit, State.circuit, h2]
  · simp [h]

@[simp] theorem engine_setEngine_self (s : State) (e : Nat) (x : Engine) (h : e < 16) : (s.setEngine e x).engine e = x := by
  simp [State.setEngine, State.engine, h]

@[simp] theorem engine_setEngine_ne (s : State) (e d : Nat) (x : Engine) (h : e ≠ d) : (s.setEngine e x).engine d = s.engine d := by
  simp [State.setEngine, State.engine, h]

/-- Whatever the two numbers, an entry after a write is the one written or the one that stood. -/
theorem engine_setEngine (s : State) (e d : Nat) (x : Engine) :
    (s.setEngine e x).engine d = if e = d ∧ e < 16 then x else s.engine d := by
  by_cases h : e = d
  · subst h
    by_cases h2 : e < 16
    · simp [h2]
    · simp [State.setEngine, State.engine, h2]
  · simp [h]

@[simp] theorem point_setPoint_self (s : State) (p : Nat) (x : Point) (h : p < 256) : (s.setPoint p x).point p = x := by
  simp [State.setPoint, State.point, h]

@[simp] theorem point_setPoint_ne (s : State) (p d : Nat) (x : Point) (h : p ≠ d) : (s.setPoint p x).point d = s.point d := by
  simp [State.setPoint, State.point, h]

/-- Whatever the two numbers, an entry after a write is the one written or the one that stood. -/
theorem point_setPoint (s : State) (p d : Nat) (x : Point) :
    (s.setPoint p x).point d = if p = d ∧ p < 256 then x else s.point d := by
  by_cases h : p = d
  · subst h
    by_cases h2 : p < 256
    · simp [h2]
    · simp [State.setPoint, State.point, h2]
  · simp [h]

@[simp] theorem node_setNode_self (s : State) (n : Nat) (x : Node) (h : n < 64) : (s.setNode n x).node n = x := by
  simp [State.setNode, State.node, h]

@[simp] theorem node_setNode_ne (s : State) (n d : Nat) (x : Node) (h : n ≠ d) : (s.setNode n x).node d = s.node d := by
  simp [State.setNode, State.node, h]

/-- Whatever the two numbers, an entry after a write is the one written or the one that stood. -/
theorem node_setNode (s : State) (n d : Nat) (x : Node) :
    (s.setNode n x).node d = if n = d ∧ n < 64 then x else s.node d := by
  by_cases h : n = d
  · subst h
    by_cases h2 : n < 64
    · simp [h2]
    · simp [State.setNode, State.node, h2]
  · simp [h]

@[simp] theorem cls_setCls_self (s : State) (k : Nat) (x : PacingClass) (h : k < 4) : (s.setCls k x).cls k = x := by
  simp [State.setCls, State.cls, h]

@[simp] theorem cls_setCls_ne (s : State) (k d : Nat) (x : PacingClass) (h : k ≠ d) : (s.setCls k x).cls d = s.cls d := by
  simp [State.setCls, State.cls, h]

/-- Whatever the two numbers, an entry after a write is the one written or the one that stood. -/
theorem cls_setCls (s : State) (k d : Nat) (x : PacingClass) :
    (s.setCls k x).cls d = if k = d ∧ k < 4 then x else s.cls d := by
  by_cases h : k = d
  · subst h
    by_cases h2 : k < 4
    · simp [h2]
    · simp [State.setCls, State.cls, h2]
  · simp [h]

@[simp] theorem slot_setSlot_self (s : State) (i : Nat) (x : Option DeferredSlot) (h : i < 8) : (s.setSlot i x).slot i = x := by
  simp [State.setSlot, State.slot, h]

@[simp] theorem slot_setSlot_ne (s : State) (i j : Nat) (x : Option DeferredSlot) (h : i ≠ j) :
    (s.setSlot i x).slot j = s.slot j := by
  simp [State.setSlot, State.slot, h]

/-! ## Entries of the other tables -/

@[simp] theorem setCircuit_engine (s : State) (c : Nat) (r : Circuit) (d : Nat) : (s.setCircuit c r).engine d = s.engine d := rfl
@[simp] theorem setCircuit_point (s : State) (c : Nat) (r : Circuit) (d : Nat) : (s.setCircuit c r).point d = s.point d := rfl
@[simp] theorem setCircuit_node (s : State) (c : Nat) (r : Circuit) (d : Nat) : (s.setCircuit c r).node d = s.node d := rfl
@[simp] theorem setCircuit_cls (s : State) (c : Nat) (r : Circuit) (d : Nat) : (s.setCircuit c r).cls d = s.cls d := rfl
@[simp] theorem setCircuit_slot (s : State) (c : Nat) (r : Circuit) (d : Nat) : (s.setCircuit c r).slot d = s.slot d := rfl
@[simp] theorem setEngine_circuit (s : State) (e : Nat) (g : Engine) (d : Nat) : (s.setEngine e g).circuit d = s.circuit d := rfl
@[simp] theorem setEngine_point (s : State) (e : Nat) (g : Engine) (d : Nat) : (s.setEngine e g).point d = s.point d := rfl
@[simp] theorem setEngine_node (s : State) (e : Nat) (g : Engine) (d : Nat) : (s.setEngine e g).node d = s.node d := rfl
@[simp] theorem setEngine_cls (s : State) (e : Nat) (g : Engine) (d : Nat) : (s.setEngine e g).cls d = s.cls d := rfl
@[simp] theorem setEngine_slot (s : State) (e : Nat) (g : Engine) (d : Nat) : (s.setEngine e g).slot d = s.slot d := rfl
@[simp] theorem setPoint_circuit (s : State) (p : Nat) (x : Point) (d : Nat) : (s.setPoint p x).circuit d = s.circuit d := rfl
@[simp] theorem setPoint_engine (s : State) (p : Nat) (x : Point) (d : Nat) : (s.setPoint p x).engine d = s.engine d := rfl
@[simp] theorem setPoint_node (s : State) (p : Nat) (x : Point) (d : Nat) : (s.setPoint p x).node d = s.node d := rfl
@[simp] theorem setPoint_cls (s : State) (p : Nat) (x : Point) (d : Nat) : (s.setPoint p x).cls d = s.cls d := rfl
@[simp] theorem setPoint_slot (s : State) (p : Nat) (x : Point) (d : Nat) : (s.setPoint p x).slot d = s.slot d := rfl
@[simp] theorem setNode_circuit (s : State) (n : Nat) (x : Node) (d : Nat) : (s.setNode n x).circuit d = s.circuit d := rfl
@[simp] theorem setNode_engine (s : State) (n : Nat) (x : Node) (d : Nat) : (s.setNode n x).engine d = s.engine d := rfl
@[simp] theorem setNode_point (s : State) (n : Nat) (x : Node) (d : Nat) : (s.setNode n x).point d = s.point d := rfl
@[simp] theorem setNode_cls (s : State) (n : Nat) (x : Node) (d : Nat) : (s.setNode n x).cls d = s.cls d := rfl
@[simp] theorem setNode_slot (s : State) (n : Nat) (x : Node) (d : Nat) : (s.setNode n x).slot d = s.slot d := rfl
@[simp] theorem setCls_circuit (s : State) (k : Nat) (x : PacingClass) (d : Nat) : (s.setCls k x).circuit d = s.circuit d := rfl
@[simp] theorem setCls_engine (s : State) (k : Nat) (x : PacingClass) (d : Nat) : (s.setCls k x).engine d = s.engine d := rfl
@[simp] theorem setCls_point (s : State) (k : Nat) (x : PacingClass) (d : Nat) : (s.setCls k x).point d = s.point d := rfl
@[simp] theorem setCls_node (s : State) (k : Nat) (x : PacingClass) (d : Nat) : (s.setCls k x).node d = s.node d := rfl
@[simp] theorem setCls_slot (s : State) (k : Nat) (x : PacingClass) (d : Nat) : (s.setCls k x).slot d = s.slot d := rfl
@[simp] theorem startRun_circuit (s : State) (d : Nat) : (s.startRun).circuit d = s.circuit d := rfl
@[simp] theorem startRun_engine (s : State) (d : Nat) : (s.startRun).engine d = s.engine d := rfl
@[simp] theorem startRun_point (s : State) (d : Nat) : (s.startRun).point d = s.point d := rfl
@[simp] theorem startRun_node (s : State) (d : Nat) : (s.startRun).node d = s.node d := rfl
@[simp] theorem startRun_cls (s : State) (d : Nat) : (s.startRun).cls d = s.cls d := rfl
@[simp] theorem startRun_slot (s : State) (d : Nat) : (s.startRun).slot d = s.slot d := rfl
@[simp] theorem place_circuit (s : State) (r : TxRecord) (d : Nat) : (s.place r).circuit d = s.circuit d := rfl
@[simp] theorem place_engine (s : State) (r : TxRecord) (d : Nat) : (s.place r).engine d = s.engine d := rfl
@[simp] theorem place_point (s : State) (r : TxRecord) (d : Nat) : (s.place r).point d = s.point d := rfl
@[simp] theorem place_node (s : State) (r : TxRecord) (d : Nat) : (s.place r).node d = s.node d := rfl
@[simp] theorem place_cls (s : State) (r : TxRecord) (d : Nat) : (s.place r).cls d = s.cls d := rfl
@[simp] theorem place_slot (s : State) (r : TxRecord) (d : Nat) : (s.place r).slot d = s.slot d := rfl
@[simp] theorem setSlot_circuit (s : State) (i : Nat) (x : Option DeferredSlot) (d : Nat) : (s.setSlot i x).circuit d = s.circuit d := rfl
@[simp] theorem setSlot_engine (s : State) (i : Nat) (x : Option DeferredSlot) (d : Nat) : (s.setSlot i x).engine d = s.engine d := rfl
@[simp] theorem setSlot_point (s : State) (i : Nat) (x : Option DeferredSlot) (d : Nat) : (s.setSlot i x).point d = s.point d := rfl
@[simp] theorem setSlot_node (s : State) (i : Nat) (x : Option DeferredSlot) (d : Nat) : (s.setSlot i x).node d = s.node d := rfl
@[simp] theorem setSlot_cls (s : State) (i : Nat) (x : Option DeferredSlot) (d : Nat) : (s.setSlot i x).cls d = s.cls d := rfl
@[simp] theorem modCampaign_circuit (s : State) (f : Campaign → Campaign) (d : Nat) : (s.modCampaign f).circuit d = s.circuit d := rfl
@[simp] theorem modCampaign_engine (s : State) (f : Campaign → Campaign) (d : Nat) : (s.modCampaign f).engine d = s.engine d := rfl
@[simp] theorem modCampaign_point (s : State) (f : Campaign → Campaign) (d : Nat) : (s.modCampaign f).point d = s.point d := rfl
@[simp] theorem modCampaign_node (s : State) (f : Campaign → Campaign) (d : Nat) : (s.modCampaign f).node d = s.node d := rfl
@[simp] theorem modCampaign_cls (s : State) (f : Campaign → Campaign) (d : Nat) : (s.modCampaign f).cls d = s.cls d := rfl
@[simp] theorem modCampaign_slot (s : State) (f : Campaign → Campaign) (d : Nat) : (s.modCampaign f).slot d = s.slot d := rfl

theorem circuit_congr {s t : State} (h : t.circuits = s.circuits) (c : Nat) : t.circuit c = s.circuit c := by
  simp only [State.circuit, h]

theorem engine_congr {s t : State} (h : t.engines = s.engines) (e : Nat) : t.engine e = s.engine e := by
  simp only [State.engine, h]

theorem point_congr {s t : State} (h : t.points = s.points) (p : Nat) : t.point p = s.point p := by
  simp only [State.point, h]

theorem node_congr {s t : State} (h : t.nodes = s.nodes) (n : Nat) : t.node n = s.node n := by
  simp only [State.node, h]

theorem cls_congr {s t : State} (h : t.classes = s.classes) (k : Nat) : t.cls k = s.cls k := by
  simp only [State.cls, h]

end Sys2Proof.Machine
end

