-- ==== Sys2Proof/Laws/Ops.lean ====
section
/-! SUPPORT. The shared operations: for each one lemma that says what it leaves unchanged, and what it writes. -/

namespace Sys2Proof.Machine

/-! ## Runs and records -/

@[simp] theorem startRunIf_frame (s : State) (b : Bool) :
    (s.startRunIf b).pending = s.pending ∧ (s.startRunIf b).now = s.now ∧
    (s.startRunIf b).freeCounter = s.freeCounter ∧ (s.startRunIf b).laneTime = s.laneTime ∧ (s.startRunIf b).strapA = s.strapA ∧
    (s.startRunIf b).strapB = s.strapB ∧ (s.startRunIf b).lineRate = s.lineRate ∧
    (s.startRunIf b).circuits = s.circuits ∧ (s.startRunIf b).engines = s.engines ∧
    (s.startRunIf b).priorityTurn = s.priorityTurn ∧ (s.startRunIf b).standardTurn = s.standardTurn ∧
    (s.startRunIf b).points = s.points ∧ (s.startRunIf b).nodes = s.nodes ∧ (s.startRunIf b).campaign = s.campaign ∧
    (s.startRunIf b).classes = s.classes ∧ (s.startRunIf b).spot = s.spot ∧
    (s.startRunIf b).openLoops = s.openLoops ∧ (s.startRunIf b).amc = s.amc ∧ (s.startRunIf b).mli = s.mli ∧
    (s.startRunIf b).launches = s.launches := by
  unfold State.startRunIf; split <;> simp

theorem startRunIf_runDue (s : State) (b : Bool) : (s.startRunIf b).runDue = (s.runDue || b) := by
  cases b <;> simp [State.startRunIf]

@[simp] theorem offer_frame (s : State) (code : Byte) (p : List Byte) :
    (s.offer code p).pending = s.pending ∧ (s.offer code p).now = s.now ∧
    (s.offer code p).freeCounter = s.freeCounter ∧ (s.offer code p).laneTime = s.laneTime ∧ (s.offer code p).strapA = s.strapA ∧
    (s.offer code p).strapB = s.strapB ∧ (s.offer code p).lineRate = s.lineRate ∧
    (s.offer code p).circuits = s.circuits ∧ (s.offer code p).engines = s.engines ∧
    (s.offer code p).priorityTurn = s.priorityTurn ∧ (s.offer code p).standardTurn = s.standardTurn ∧
    (s.offer code p).points = s.points ∧ (s.offer code p).nodes = s.nodes ∧ (s.offer code p).runDue = s.runDue ∧
    (s.offer code p).campaign = s.campaign ∧ (s.offer code p).classes = s.classes ∧ (s.offer code p).spot = s.spot ∧
    (s.offer code p).openLoops = s.openLoops ∧ (s.offer code p).amc = s.amc ∧ (s.offer code p).launches = s.launches := by
  unfold State.offer; split <;> simp

/-- An offered notice joins the tail below 48 records; otherwise it is dropped and counted (R174). -/
theorem offer_tx (s : State) (code : Byte) (p : List Byte) :
    (s.offer code p).mli.tx = if s.mli.tx.length < 48 then s.mli.tx ++ [noticeRecord code p] else s.mli.tx := by
  unfold State.offer; split <;> simp_all

theorem offer_dropped (s : State) (code : Byte) (p : List Byte) :
    (s.offer code p).mli.dropped = if s.mli.tx.length < 48 then s.mli.dropped else min (s.mli.dropped + 1) 65535 := by
  unfold State.offer; split <;> simp_all [satAdd, linkCountMax]

@[simp] theorem offer_mli_frame (s : State) (code : Byte) (p : List Byte) :
    (s.offer code p).mli.slots = s.mli.slots ∧ (s.offer code p).mli.rxBuffer = s.mli.rxBuffer ∧
    (s.offer code p).mli.receiver = s.mli.receiver ∧ (s.offer code p).mli.rxAt = s.mli.rxAt ∧
    (s.offer code p).mli.nextOrder = s.mli.nextOrder ∧ (s.offer code p).mli.frameErrors = s.mli.frameErrors ∧
    (s.offer code p).mli.overruns = s.mli.overruns ∧ (s.offer code p).mli.startup = s.mli.startup := by
  unfold State.offer; split <;> simp

@[simp] theorem reply_frame (s : State) (c : Cmd) (st : Status) (p : List Byte) (b : Bool) :
    (s.reply c st p b).pending = s.pending ∧ (s.reply c st p b).now = s.now ∧
    (s.reply c st p b).freeCounter = s.freeCounter ∧ (s.reply c st p b).laneTime = s.laneTime ∧ (s.reply c st p b).strapA = s.strapA ∧
    (s.reply c st p b).strapB = s.strapB ∧ (s.reply c st p b).lineRate = s.lineRate ∧
    (s.reply c st p b).circuits = s.circuits ∧ (s.reply c st p b).engines = s.engines ∧
    (s.reply c st p b).priorityTurn = s.priorityTurn ∧ (s.reply c st p b).standardTurn = s.standardTurn ∧
    (s.reply c st p b).points = s.points ∧ (s.reply c st p b).nodes = s.nodes ∧
    (s.reply c st p b).runDue = s.runDue ∧ (s.reply c st p b).campaign = s.campaign ∧
    (s.reply c st p b).classes = s.classes ∧ (s.reply c st p b).spot = s.spot ∧
    (s.reply c st p b).openLoops = s.openLoops ∧ (s.reply c st p b).amc = s.amc ∧
    (s.reply c st p b).launches = s.launches := by
  simp [State.reply]

@[simp] theorem reply_tx (s : State) (c : Cmd) (st : Status) (p : List Byte) (b : Bool) :
    (s.reply c st p b).mli.tx = s.mli.tx ++ [⟨.reply, c.code, c.tag, st, b, false, p, none⟩] := rfl

@[simp] theorem reply_mli_frame (s : State) (c : Cmd) (st : Status) (p : List Byte) (b : Bool) :
    (s.reply c st p b).mli.slots = s.mli.slots ∧ (s.reply c st p b).mli.rxBuffer = s.mli.rxBuffer ∧
    (s.reply c st p b).mli.receiver = s.mli.receiver ∧ (s.reply c st p b).mli.rxAt = s.mli.rxAt ∧
    (s.reply c st p b).mli.nextOrder = s.mli.nextOrder ∧ (s.reply c st p b).mli.frameErrors = s.mli.frameErrors ∧
    (s.reply c st p b).mli.overruns = s.mli.overruns ∧ (s.reply c st p b).mli.dropped = s.mli.dropped ∧
    (s.reply c st p b).mli.startup = s.mli.startup := by
  simp [State.reply]

/-! ## Deferred replies -/

@[simp] theorem takeSlot_frame (s : State) (i : Nat) (c : Cmd) (op : DeferredOp) :
    (s.takeSlot i c op).pending = s.pending ∧ (s.takeSlot i c op).now = s.now ∧
    (s.takeSlot i c op).freeCounter = s.freeCounter ∧ (s.takeSlot i c op).laneTime = s.laneTime ∧ (s.takeSlot i c op).strapA = s.strapA ∧
    (s.takeSlot i c op).strapB = s.strapB ∧ (s.takeSlot i c op).lineRate = s.lineRate ∧
    (s.takeSlot i c op).circuits = s.circuits ∧ (s.takeSlot i c op).engines = s.engines ∧
    (s.takeSlot i c op).priorityTurn = s.priorityTurn ∧ (s.takeSlot i c op).standardTurn = s.standardTurn ∧
    (s.takeSlot i c op).points = s.points ∧ (s.takeSlot i c op).nodes = s.nodes ∧
    (s.takeSlot i c op).runDue = s.runDue ∧ (s.takeSlot i c op).campaign = s.campaign ∧
    (s.takeSlot i c op).classes = s.classes ∧ (s.takeSlot i c op).spot = s.spot ∧
    (s.takeSlot i c op).openLoops = s.openLoops ∧ (s.takeSlot i c op).amc = s.amc ∧
    (s.takeSlot i c op).launches = s.launches := by
  simp [State.takeSlot]

@[simp] theorem answer_frame (s : State) (i : Nat) (st : Status) (b : Bool) (p : List Byte) :
    (s.answer i st b p).pending = s.pending ∧ (s.answer i st b p).now = s.now ∧
    (s.answer i st b p).freeCounter = s.freeCounter ∧ (s.answer i st b p).laneTime = s.laneTime ∧ (s.answer i st b p).strapA = s.strapA ∧
    (s.answer i st b p).strapB = s.strapB ∧ (s.answer i st b p).lineRate = s.lineRate ∧
    (s.answer i st b p).circuits = s.circuits ∧ (s.answer i st b p).engines = s.engines ∧
    (s.answer i st b p).priorityTurn = s.priorityTurn ∧ (s.answer i st b p).standardTurn = s.standardTurn ∧
    (s.answer i st b p).points = s.points ∧ (s.answer i st b p).nodes = s.nodes ∧
    (s.answer i st b p).runDue = s.runDue ∧ (s.answer i st b p).campaign = s.campaign ∧
    (s.answer i st b p).classes = s.classes ∧ (s.answer i st b p).spot = s.spot ∧
    (s.answer i st b p).openLoops = s.openLoops ∧ (s.answer i st b p).amc = s.amc ∧
    (s.answer i st b p).launches = s.launches := by
  unfold State.answer; split <;> [split; skip] <;> simp

/-- The reply of a held slot that is not answered yet joins the tail whatever the fill (R173). -/
theorem answer_tx_held (s : State) (i : Nat) (st : Status) (b : Bool) (p : List Byte) (d : DeferredSlot)
    (h : s.slot i = some d) (hp : d.placed = false) :
    (s.answer i st b p).mli.tx = s.mli.tx ++ [⟨.reply, d.code, d.tag, st, false, b, p, some i⟩] := by
  simp [State.answer, h, hp]

/-! ## Tables -/

@[simp] theorem setStatus_frame (s : State) (c : Nat) (st : ProbeStatus) :
    (s.setStatus c st).pending = s.pending ∧ (s.setStatus c st).now = s.now ∧
    (s.setStatus c st).freeCounter = s.freeCounter ∧ (s.setStatus c st).laneTime = s.laneTime ∧ (s.setStatus c st).strapA = s.strapA ∧
    (s.setStatus c st).strapB = s.strapB ∧ (s.setStatus c st).lineRate = s.lineRate ∧
    (s.setStatus c st).engines = s.engines ∧ (s.setStatus c st).priorityTurn = s.priorityTurn ∧
    (s.setStatus c st).standardTurn = s.standardTurn ∧ (s.setStatus c st).points = s.points ∧
    (s.setStatus c st).nodes = s.nodes ∧ (s.setStatus c st).runDue = s.runDue ∧
    (s.setStatus c st).campaign = s.campaign ∧ (s.setStatus c st).classes = s.classes ∧
    (s.setStatus c st).spot = s.spot ∧ (s.setStatus c st).openLoops = s.openLoops ∧ (s.setStatus c st).amc = s.amc ∧
    (s.setStatus c st).mli = s.mli ∧ (s.setStatus c st).launches = s.launches := by
  simp [State.setStatus]

@[simp] theorem unlock_frame (s : State) (p : Nat) :
    (s.unlock p).pending = s.pending ∧ (s.unlock p).now = s.now ∧ (s.unlock p).freeCounter = s.freeCounter ∧ (s.unlock p).laneTime = s.laneTime ∧
    (s.unlock p).strapA = s.strapA ∧ (s.unlock p).strapB = s.strapB ∧ (s.unlock p).lineRate = s.lineRate ∧
    (s.unlock p).circuits = s.circuits ∧ (s.unlock p).engines = s.engines ∧
    (s.unlock p).priorityTurn = s.priorityTurn ∧ (s.unlock p).standardTurn = s.standardTurn ∧
    (s.unlock p).nodes = s.nodes ∧ (s.unlock p).campaign = s.campaign ∧ (s.unlock p).classes = s.classes ∧
    (s.unlock p).spot = s.spot ∧ (s.unlock p).openLoops = s.openLoops ∧ (s.unlock p).amc = s.amc ∧
    (s.unlock p).mli = s.mli ∧ (s.unlock p).launches = s.launches := by
  simp [State.unlock]

@[simp] theorem returnSlot_frame (s : State) (n : Nat) :
    (s.returnSlot n).pending = s.pending ∧ (s.returnSlot n).now = s.now ∧
    (s.returnSlot n).freeCounter = s.freeCounter ∧ (s.returnSlot n).laneTime = s.laneTime ∧ (s.returnSlot n).strapA = s.strapA ∧
    (s.returnSlot n).strapB = s.strapB ∧ (s.returnSlot n).lineRate = s.lineRate ∧
    (s.returnSlot n).circuits = s.circuits ∧ (s.returnSlot n).engines = s.engines ∧
    (s.returnSlot n).priorityTurn = s.priorityTurn ∧ (s.returnSlot n).standardTurn = s.standardTurn ∧
    (s.returnSlot n).points = s.points ∧ (s.returnSlot n).campaign = s.campaign ∧
    (s.returnSlot n).classes = s.classes ∧ (s.returnSlot n).spot = s.spot ∧
    (s.returnSlot n).openLoops = s.openLoops ∧ (s.returnSlot n).amc = s.amc ∧ (s.returnSlot n).mli = s.mli ∧
    (s.returnSlot n).launches = s.launches := by
  simp [State.returnSlot]

@[simp] theorem modEngine_frame (s : State) (e : Nat) (f : Engine → Engine) :
    (s.modEngine e f).pending = s.pending ∧ (s.modEngine e f).now = s.now ∧
    (s.modEngine e f).freeCounter = s.freeCounter ∧ (s.modEngine e f).laneTime = s.laneTime ∧ (s.modEngine e f).strapA = s.strapA ∧
    (s.modEngine e f).strapB = s.strapB ∧ (s.modEngine e f).lineRate = s.lineRate ∧
    (s.modEngine e f).circuits = s.circuits ∧ (s.modEngine e f).priorityTurn = s.priorityTurn ∧
    (s.modEngine e f).standardTurn = s.standardTurn ∧ (s.modEngine e f).points = s.points ∧
    (s.modEngine e f).nodes = s.nodes ∧ (s.modEngine e f).runDue = s.runDue ∧
    (s.modEngine e f).campaign = s.campaign ∧ (s.modEngine e f).classes = s.classes ∧
    (s.modEngine e f).spot = s.spot ∧ (s.modEngine e f).openLoops = s.openLoops ∧ (s.modEngine e f).amc = s.amc ∧
    (s.modEngine e f).mli = s.mli ∧ (s.modEngine e f).launches = s.launches := by
  simp [State.modEngine]

@[simp] theorem onLanes_frame (s : State) (e : Nat) (f : Engine → Engine) :
    (s.onLanes e f).pending = s.pending ∧ (s.onLanes e f).now = s.now ∧ (s.onLanes e f).freeCounter = s.freeCounter ∧ (s.onLanes e f).laneTime = s.laneTime ∧
    (s.onLanes e f).strapA = s.strapA ∧ (s.onLanes e f).strapB = s.strapB ∧ (s.onLanes e f).lineRate = s.lineRate ∧
    (s.onLanes e f).circuits = s.circuits ∧ (s.onLanes e f).priorityTurn = s.priorityTurn ∧
    (s.onLanes e f).standardTurn = s.standardTurn ∧ (s.onLanes e f).points = s.points ∧
    (s.onLanes e f).nodes = s.nodes ∧ (s.onLanes e f).runDue = s.runDue ∧ (s.onLanes e f).campaign = s.campaign ∧
    (s.onLanes e f).classes = s.classes ∧ (s.onLanes e f).spot = s.spot ∧ (s.onLanes e f).openLoops = s.openLoops ∧
    (s.onLanes e f).amc = s.amc ∧ (s.onLanes e f).mli = s.mli ∧ (s.onLanes e f).launches = s.launches := by
  unfold State.onLanes; split <;> simp

@[simp] theorem writeOutcome_frame (s : State) (e : Nat) (x : ProbeOutcome) :
    (s.writeOutcome e x).pending = s.pending ∧ (s.writeOutcome e x).now = s.now ∧
    (s.writeOutcome e x).freeCounter = s.freeCounter ∧ (s.writeOutcome e x).laneTime = s.laneTime ∧ (s.writeOutcome e x).strapA = s.strapA ∧
    (s.writeOutcome e x).strapB = s.strapB ∧ (s.writeOutcome e x).lineRate = s.lineRate ∧
    (s.writeOutcome e x).circuits = s.circuits ∧ (s.writeOutcome e x).priorityTurn = s.priorityTurn ∧
    (s.writeOutcome e x).standardTurn = s.standardTurn ∧ (s.writeOutcome e x).points = s.points ∧
    (s.writeOutcome e x).nodes = s.nodes ∧ (s.writeOutcome e x).runDue = s.runDue ∧
    (s.writeOutcome e x).campaign = s.campaign ∧ (s.writeOutcome e x).classes = s.classes ∧
    (s.writeOutcome e x).spot = s.spot ∧ (s.writeOutcome e x).openLoops = s.openLoops ∧
    (s.writeOutcome e x).amc = s.amc ∧ (s.writeOutcome e x).mli = s.mli ∧ (s.writeOutcome e x).launches = s.launches := by
  simp [State.writeOutcome]

@[simp] theorem enterPhase_frame (s : State) (e : Nat) (st : EngineState) (f : Lane → Lane) :
    (s.enterPhase e st f).pending = s.pending ∧ (s.enterPhase e st f).now = s.now ∧
    (s.enterPhase e st f).freeCounter = s.freeCounter ∧ (s.enterPhase e st f).laneTime = s.laneTime ∧ (s.enterPhase e st f).strapA = s.strapA ∧
    (s.enterPhase e st f).strapB = s.strapB ∧ (s.enterPhase e st f).lineRate = s.lineRate ∧
    (s.enterPhase e st f).circuits = s.circuits ∧ (s.enterPhase e st f).priorityTurn = s.priorityTurn ∧
    (s.enterPhase e st f).standardTurn = s.standardTurn ∧ (s.enterPhase e st f).points = s.points ∧
    (s.enterPhase e st f).nodes = s.nodes ∧ (s.enterPhase e st f).runDue = s.runDue ∧
    (s.enterPhase e st f).campaign = s.campaign ∧ (s.enterPhase e st f).classes = s.classes ∧
    (s.enterPhase e st f).spot = s.spot ∧ (s.enterPhase e st f).openLoops = s.openLoops ∧
    (s.enterPhase e st f).amc = s.amc ∧ (s.enterPhase e st f).mli = s.mli ∧
    (s.enterPhase e st f).launches = s.launches := by
  simp [State.enterPhase]

@[simp] theorem startLoopUp_frame (s : State) (e : Nat) :
    (s.startLoopUp e).pending = s.pending ∧ (s.startLoopUp e).now = s.now ∧
    (s.startLoopUp e).freeCounter = s.freeCounter ∧ (s.startLoopUp e).laneTime = s.laneTime ∧ (s.startLoopUp e).strapA = s.strapA ∧
    (s.startLoopUp e).strapB = s.strapB ∧ (s.startLoopUp e).lineRate = s.lineRate ∧
    (s.startLoopUp e).circuits = s.circuits ∧ (s.startLoopUp e).priorityTurn = s.priorityTurn ∧
    (s.startLoopUp e).standardTurn = s.standardTurn ∧ (s.startLoopUp e).points = s.points ∧
    (s.startLoopUp e).nodes = s.nodes ∧ (s.startLoopUp e).runDue = s.runDue ∧
    (s.startLoopUp e).campaign = s.campaign ∧ (s.startLoopUp e).classes = s.classes ∧
    (s.startLoopUp e).spot = s.spot ∧ (s.startLoopUp e).openLoops = s.openLoops ∧ (s.startLoopUp e).amc = s.amc ∧
    (s.startLoopUp e).mli = s.mli ∧ (s.startLoopUp e).launches = s.launches := by
  simp [State.startLoopUp]

@[simp] theorem startRetryWait_frame (s : State) (e : Nat) :
    (s.startRetryWait e).pending = s.pending ∧ (s.startRetryWait e).now = s.now ∧
    (s.startRetryWait e).freeCounter = s.freeCounter ∧ (s.startRetryWait e).laneTime = s.laneTime ∧ (s.startRetryWait e).strapA = s.strapA ∧
    (s.startRetryWait e).strapB = s.strapB ∧ (s.startRetryWait e).lineRate = s.lineRate ∧
    (s.startRetryWait e).circuits = s.circuits ∧ (s.startRetryWait e).priorityTurn = s.priorityTurn ∧
    (s.startRetryWait e).standardTurn = s.standardTurn ∧ (s.startRetryWait e).points = s.points ∧
    (s.startRetryWait e).nodes = s.nodes ∧ (s.startRetryWait e).runDue = s.runDue ∧
    (s.startRetryWait e).campaign = s.campaign ∧ (s.startRetryWait e).classes = s.classes ∧
    (s.startRetryWait e).spot = s.spot ∧ (s.startRetryWait e).openLoops = s.openLoops ∧
    (s.startRetryWait e).amc = s.amc ∧ (s.startRetryWait e).mli = s.mli ∧ (s.startRetryWait e).launches = s.launches := by
  simp [State.startRetryWait]

@[simp] theorem startSoak_frame (s : State) (e : Nat) :
    (s.startSoak e).pending = s.pending ∧ (s.startSoak e).now = s.now ∧ (s.startSoak e).freeCounter = s.freeCounter ∧ (s.startSoak e).laneTime = s.laneTime ∧
    (s.startSoak e).strapA = s.strapA ∧ (s.startSoak e).strapB = s.strapB ∧ (s.startSoak e).lineRate = s.lineRate ∧
    (s.startSoak e).circuits = s.circuits ∧ (s.startSoak e).priorityTurn = s.priorityTurn ∧
    (s.startSoak e).standardTurn = s.standardTurn ∧ (s.startSoak e).points = s.points ∧
    (s.startSoak e).nodes = s.nodes ∧ (s.startSoak e).runDue = s.runDue ∧ (s.startSoak e).campaign = s.campaign ∧
    (s.startSoak e).classes = s.classes ∧ (s.startSoak e).spot = s.spot ∧ (s.startSoak e).openLoops = s.openLoops ∧
    (s.startSoak e).amc = s.amc ∧ (s.startSoak e).mli = s.mli ∧ (s.startSoak e).launches = s.launches := by
  simp [State.startSoak]

@[simp] theorem startRelease_frame (s : State) (e : Nat) :
    (s.startRelease e).pending = s.pending ∧ (s.startRelease e).now = s.now ∧
    (s.startRelease e).freeCounter = s.freeCounter ∧ (s.startRelease e).laneTime = s.laneTime ∧ (s.startRelease e).strapA = s.strapA ∧
    (s.startRelease e).strapB = s.strapB ∧ (s.startRelease e).lineRate = s.lineRate ∧
    (s.startRelease e).circuits = s.circuits ∧ (s.startRelease e).priorityTurn = s.priorityTurn ∧
    (s.startRelease e).standardTurn = s.standardTurn ∧ (s.startRelease e).points = s.points ∧
    (s.startRelease e).nodes = s.nodes ∧ (s.startRelease e).runDue = s.runDue ∧
    (s.startRelease e).campaign = s.campaign ∧ (s.startRelease e).classes = s.classes ∧
    (s.startRelease e).spot = s.spot ∧ (s.startRelease e).openLoops = s.openLoops ∧ (s.startRelease e).amc = s.amc ∧
    (s.startRelease e).mli = s.mli ∧ (s.startRelease e).launches = s.launches := by
  simp [State.startRelease]

@[simp] theorem startCheck_frame (s : State) (e : Nat) :
    (s.startCheck e).pending = s.pending ∧ (s.startCheck e).now = s.now ∧
    (s.startCheck e).freeCounter = s.freeCounter ∧ (s.startCheck e).laneTime = s.laneTime ∧ (s.startCheck e).strapA = s.strapA ∧
    (s.startCheck e).strapB = s.strapB ∧ (s.startCheck e).lineRate = s.lineRate ∧
    (s.startCheck e).circuits = s.circuits ∧ (s.startCheck e).priorityTurn = s.priorityTurn ∧
    (s.startCheck e).standardTurn = s.standardTurn ∧ (s.startCheck e).points = s.points ∧
    (s.startCheck e).nodes = s.nodes ∧ (s.startCheck e).runDue = s.runDue ∧ (s.startCheck e).campaign = s.campaign ∧
    (s.startCheck e).classes = s.classes ∧ (s.startCheck e).spot = s.spot ∧
    (s.startCheck e).openLoops = s.openLoops ∧ (s.startCheck e).amc = s.amc ∧ (s.startCheck e).mli = s.mli ∧
    (s.startCheck e).launches = s.launches := by
  simp [State.startCheck]

@[simp] theorem startCourtesy_frame (s : State) (e : Nat) :
    (s.startCourtesy e).pending = s.pending ∧ (s.startCourtesy e).now = s.now ∧
    (s.startCourtesy e).freeCounter = s.freeCounter ∧ (s.startCourtesy e).laneTime = s.laneTime ∧ (s.startCourtesy e).strapA = s.strapA ∧
    (s.startCourtesy e).strapB = s.strapB ∧ (s.startCourtesy e).lineRate = s.lineRate ∧
    (s.startCourtesy e).circuits = s.circuits ∧ (s.startCourtesy e).priorityTurn = s.priorityTurn ∧
    (s.startCourtesy e).standardTurn = s.standardTurn ∧ (s.startCourtesy e).points = s.points ∧
    (s.startCourtesy e).nodes = s.nodes ∧ (s.startCourtesy e).runDue = s.runDue ∧
    (s.startCourtesy e).campaign = s.campaign ∧ (s.startCourtesy e).classes = s.classes ∧
    (s.startCourtesy e).spot = s.spot ∧ (s.startCourtesy e).openLoops = s.openLoops ∧
    (s.startCourtesy e).amc = s.amc ∧ (s.startCourtesy e).mli = s.mli ∧ (s.startCourtesy e).launches = s.launches := by
  simp [State.startCourtesy]

@[simp] theorem startMeasurement_frame (s : State) (e : Nat) :
    (s.startMeasurement e).pending = s.pending ∧ (s.startMeasurement e).now = s.now ∧
    (s.startMeasurement e).freeCounter = s.freeCounter ∧ (s.startMeasurement e).laneTime = s.laneTime ∧ (s.startMeasurement e).strapA = s.strapA ∧
    (s.startMeasurement e).strapB = s.strapB ∧ (s.startMeasurement e).lineRate = s.lineRate ∧
    (s.startMeasurement e).circuits = s.circuits ∧ (s.startMeasurement e).priorityTurn = s.priorityTurn ∧
    (s.startMeasurement e).standardTurn = s.standardTurn ∧ (s.startMeasurement e).points = s.points ∧
    (s.startMeasurement e).nodes = s.nodes ∧ (s.startMeasurement e).runDue = s.runDue ∧
    (s.startMeasurement e).campaign = s.campaign ∧ (s.startMeasurement e).classes = s.classes ∧
    (s.startMeasurement e).spot = s.spot ∧ (s.startMeasurement e).openLoops = s.openLoops ∧
    (s.startMeasurement e).amc = s.amc ∧ (s.startMeasurement e).mli = s.mli ∧
    (s.startMeasurement e).launches = s.launches := by
  simp [State.startMeasurement]

@[simp] theorem sendWord_frame (s : State) (e : Nat) :
    (s.sendWord e).pending = s.pending ∧ (s.sendWord e).now = s.now ∧
    (s.sendWord e).freeCounter = s.freeCounter ∧ (s.sendWord e).laneTime = s.laneTime ∧ (s.sendWord e).strapA = s.strapA ∧
    (s.sendWord e).strapB = s.strapB ∧ (s.sendWord e).lineRate = s.lineRate ∧
    (s.sendWord e).circuits = s.circuits ∧ (s.sendWord e).priorityTurn = s.priorityTurn ∧
    (s.sendWord e).standardTurn = s.standardTurn ∧ (s.sendWord e).points = s.points ∧
    (s.sendWord e).nodes = s.nodes ∧ (s.sendWord e).runDue = s.runDue ∧ (s.sendWord e).campaign = s.campaign ∧
    (s.sendWord e).classes = s.classes ∧ (s.sendWord e).spot = s.spot ∧
    (s.sendWord e).openLoops = s.openLoops ∧ (s.sendWord e).amc = s.amc ∧ (s.sendWord e).mli = s.mli ∧
    (s.sendWord e).launches = s.launches := by
  simp [State.sendWord]

/-! ## Queues and the campaign -/

@[simp] theorem dequeue_frame (s : State) (c : Nat) :
    (s.dequeue c).pending = s.pending ∧ (s.dequeue c).now = s.now ∧ (s.dequeue c).freeCounter = s.freeCounter ∧ (s.dequeue c).laneTime = s.laneTime ∧
    (s.dequeue c).strapA = s.strapA ∧ (s.dequeue c).strapB = s.strapB ∧ (s.dequeue c).lineRate = s.lineRate ∧
    (s.dequeue c).circuits = s.circuits ∧ (s.dequeue c).engines = s.engines ∧
    (s.dequeue c).priorityTurn = s.priorityTurn ∧ (s.dequeue c).standardTurn = s.standardTurn ∧
    (s.dequeue c).points = s.points ∧ (s.dequeue c).nodes = s.nodes ∧ (s.dequeue c).runDue = s.runDue ∧
    (s.dequeue c).campaign = s.campaign ∧ (s.dequeue c).spot = s.spot ∧ (s.dequeue c).openLoops = s.openLoops ∧
    (s.dequeue c).amc = s.amc ∧ (s.dequeue c).mli = s.mli ∧ (s.dequeue c).launches = s.launches := by
  simp [State.dequeue]

@[simp] theorem enqueue_frame (s : State) (k c : Nat) :
    (s.enqueue k c).pending = s.pending ∧ (s.enqueue k c).now = s.now ∧ (s.enqueue k c).freeCounter = s.freeCounter ∧ (s.enqueue k c).laneTime = s.laneTime ∧
    (s.enqueue k c).strapA = s.strapA ∧ (s.enqueue k c).strapB = s.strapB ∧ (s.enqueue k c).lineRate = s.lineRate ∧
    (s.enqueue k c).circuits = s.circuits ∧ (s.enqueue k c).engines = s.engines ∧
    (s.enqueue k c).priorityTurn = s.priorityTurn ∧ (s.enqueue k c).standardTurn = s.standardTurn ∧
    (s.enqueue k c).points = s.points ∧ (s.enqueue k c).nodes = s.nodes ∧ (s.enqueue k c).runDue = s.runDue ∧
    (s.enqueue k c).campaign = s.campaign ∧ (s.enqueue k c).spot = s.spot ∧ (s.enqueue k c).openLoops = s.openLoops ∧
    (s.enqueue k c).amc = s.amc ∧ (s.enqueue k c).mli = s.mli ∧ (s.enqueue k c).launches = s.launches := by
  simp [State.enqueue]

@[simp] theorem zeroCredits_frame (s : State) :
    (s.zeroCredits).pending = s.pending ∧ (s.zeroCredits).now = s.now ∧ (s.zeroCredits).freeCounter = s.freeCounter ∧ (s.zeroCredits).laneTime = s.laneTime ∧
    (s.zeroCredits).strapA = s.strapA ∧ (s.zeroCredits).strapB = s.strapB ∧ (s.zeroCredits).lineRate = s.lineRate ∧
    (s.zeroCredits).circuits = s.circuits ∧ (s.zeroCredits).engines = s.engines ∧
    (s.zeroCredits).priorityTurn = s.priorityTurn ∧ (s.zeroCredits).standardTurn = s.standardTurn ∧
    (s.zeroCredits).points = s.points ∧ (s.zeroCredits).nodes = s.nodes ∧ (s.zeroCredits).runDue = s.runDue ∧
    (s.zeroCredits).campaign = s.campaign ∧ (s.zeroCredits).spot = s.spot ∧ (s.zeroCredits).openLoops = s.openLoops ∧
    (s.zeroCredits).amc = s.amc ∧ (s.zeroCredits).mli = s.mli ∧ (s.zeroCredits).launches = s.launches := by
  simp [State.zeroCredits]

@[simp] theorem modSummary_frame (s : State) (f : Summary → Summary) :
    (s.modSummary f).pending = s.pending ∧ (s.modSummary f).now = s.now ∧
    (s.modSummary f).freeCounter = s.freeCounter ∧ (s.modSummary f).laneTime = s.laneTime ∧ (s.modSummary f).strapA = s.strapA ∧
    (s.modSummary f).strapB = s.strapB ∧ (s.modSummary f).lineRate = s.lineRate ∧
    (s.modSummary f).circuits = s.circuits ∧ (s.modSummary f).engines = s.engines ∧
    (s.modSummary f).priorityTurn = s.priorityTurn ∧ (s.modSummary f).standardTurn = s.standardTurn ∧
    (s.modSummary f).points = s.points ∧ (s.modSummary f).nodes = s.nodes ∧ (s.modSummary f).runDue = s.runDue ∧
    (s.modSummary f).classes = s.classes ∧ (s.modSummary f).spot = s.spot ∧
    (s.modSummary f).openLoops = s.openLoops ∧ (s.modSummary f).amc = s.amc ∧ (s.modSummary f).mli = s.mli ∧
    (s.modSummary f).launches = s.launches := by
  simp [State.modSummary]

@[simp] theorem removeQueued_frame (s : State) (r : NotTested) (c : Nat) :
    (s.removeQueued r c).pending = s.pending ∧ (s.removeQueued r c).now = s.now ∧
    (s.removeQueued r c).freeCounter = s.freeCounter ∧ (s.removeQueued r c).laneTime = s.laneTime ∧ (s.removeQueued r c).strapA = s.strapA ∧
    (s.removeQueued r c).strapB = s.strapB ∧ (s.removeQueued r c).lineRate = s.lineRate ∧
    (s.removeQueued r c).engines = s.engines ∧ (s.removeQueued r c).priorityTurn = s.priorityTurn ∧
    (s.removeQueued r c).standardTurn = s.standardTurn ∧ (s.removeQueued r c).points = s.points ∧
    (s.removeQueued r c).nodes = s.nodes ∧ (s.removeQueued r c).spot = s.spot ∧
    (s.removeQueued r c).openLoops = s.openLoops ∧ (s.removeQueued r c).amc = s.amc ∧
    (s.removeQueued r c).mli = s.mli ∧ (s.removeQueued r c).launches = s.launches := by
  simp [State.removeQueued]

@[simp] theorem joinSpot_frame (s : State) (x : SpotEntry) :
    (s.joinSpot x).pending = s.pending ∧ (s.joinSpot x).now = s.now ∧ (s.joinSpot x).freeCounter = s.freeCounter ∧ (s.joinSpot x).laneTime = s.laneTime ∧
    (s.joinSpot x).strapA = s.strapA ∧ (s.joinSpot x).strapB = s.strapB ∧ (s.joinSpot x).lineRate = s.lineRate ∧
    (s.joinSpot x).circuits = s.circuits ∧ (s.joinSpot x).engines = s.engines ∧
    (s.joinSpot x).priorityTurn = s.priorityTurn ∧ (s.joinSpot x).standardTurn = s.standardTurn ∧
    (s.joinSpot x).points = s.points ∧ (s.joinSpot x).nodes = s.nodes ∧ (s.joinSpot x).campaign = s.campaign ∧
    (s.joinSpot x).classes = s.classes ∧ (s.joinSpot x).openLoops = s.openLoops ∧ (s.joinSpot x).amc = s.amc ∧
    (s.joinSpot x).mli = s.mli ∧ (s.joinSpot x).launches = s.launches := by
  simp [State.joinSpot]

@[simp] theorem leaveSpot_frame (s : State) (x : SpotEntry) :
    (s.leaveSpot x).pending = s.pending ∧ (s.leaveSpot x).now = s.now ∧ (s.leaveSpot x).freeCounter = s.freeCounter ∧ (s.leaveSpot x).laneTime = s.laneTime ∧
    (s.leaveSpot x).strapA = s.strapA ∧ (s.leaveSpot x).strapB = s.strapB ∧ (s.leaveSpot x).lineRate = s.lineRate ∧
    (s.leaveSpot x).circuits = s.circuits ∧ (s.leaveSpot x).engines = s.engines ∧
    (s.leaveSpot x).priorityTurn = s.priorityTurn ∧ (s.leaveSpot x).standardTurn = s.standardTurn ∧
    (s.leaveSpot x).points = s.points ∧ (s.leaveSpot x).nodes = s.nodes ∧ (s.leaveSpot x).runDue = s.runDue ∧
    (s.leaveSpot x).campaign = s.campaign ∧ (s.leaveSpot x).classes = s.classes ∧
    (s.leaveSpot x).openLoops = s.openLoops ∧ (s.leaveSpot x).amc = s.amc ∧ (s.leaveSpot x).mli = s.mli ∧
    (s.leaveSpot x).launches = s.launches := by
  simp [State.leaveSpot]

@[simp] theorem joinOpenLoops_frame (s : State) (x : OpenLoop) :
    (s.joinOpenLoops x).pending = s.pending ∧ (s.joinOpenLoops x).now = s.now ∧
    (s.joinOpenLoops x).freeCounter = s.freeCounter ∧ (s.joinOpenLoops x).laneTime = s.laneTime ∧ (s.joinOpenLoops x).strapA = s.strapA ∧
    (s.joinOpenLoops x).strapB = s.strapB ∧ (s.joinOpenLoops x).lineRate = s.lineRate ∧
    (s.joinOpenLoops x).circuits = s.circuits ∧ (s.joinOpenLoops x).engines = s.engines ∧
    (s.joinOpenLoops x).priorityTurn = s.priorityTurn ∧ (s.joinOpenLoops x).standardTurn = s.standardTurn ∧
    (s.joinOpenLoops x).points = s.points ∧ (s.joinOpenLoops x).nodes = s.nodes ∧
    (s.joinOpenLoops x).runDue = s.runDue ∧ (s.joinOpenLoops x).campaign = s.campaign ∧
    (s.joinOpenLoops x).classes = s.classes ∧ (s.joinOpenLoops x).spot = s.spot ∧ (s.joinOpenLoops x).amc = s.amc ∧
    (s.joinOpenLoops x).mli = s.mli ∧ (s.joinOpenLoops x).launches = s.launches := by
  simp [State.joinOpenLoops]

@[simp] theorem endCampaign_frame (s : State) :
    (s.endCampaign).pending = s.pending ∧ (s.endCampaign).now = s.now ∧ (s.endCampaign).freeCounter = s.freeCounter ∧ (s.endCampaign).laneTime = s.laneTime ∧
    (s.endCampaign).strapA = s.strapA ∧ (s.endCampaign).strapB = s.strapB ∧ (s.endCampaign).lineRate = s.lineRate ∧
    (s.endCampaign).circuits = s.circuits ∧ (s.endCampaign).engines = s.engines ∧
    (s.endCampaign).priorityTurn = s.priorityTurn ∧ (s.endCampaign).standardTurn = s.standardTurn ∧
    (s.endCampaign).points = s.points ∧ (s.endCampaign).nodes = s.nodes ∧ (s.endCampaign).runDue = s.runDue ∧
    (s.endCampaign).spot = s.spot ∧ (s.endCampaign).openLoops = s.openLoops ∧ (s.endCampaign).amc = s.amc ∧
    (s.endCampaign).launches = s.launches := by
  simp [State.endCampaign]

@[simp] theorem testEnd_frame (s : State) :
    (s.testEnd).pending = s.pending ∧ (s.testEnd).now = s.now ∧ (s.testEnd).freeCounter = s.freeCounter ∧ (s.testEnd).laneTime = s.laneTime ∧
    (s.testEnd).strapA = s.strapA ∧ (s.testEnd).strapB = s.strapB ∧ (s.testEnd).lineRate = s.lineRate ∧
    (s.testEnd).circuits = s.circuits ∧ (s.testEnd).engines = s.engines ∧ (s.testEnd).priorityTurn = s.priorityTurn ∧
    (s.testEnd).standardTurn = s.standardTurn ∧ (s.testEnd).points = s.points ∧ (s.testEnd).nodes = s.nodes ∧
    (s.testEnd).runDue = s.runDue ∧ (s.testEnd).spot = s.spot ∧ (s.testEnd).openLoops = s.openLoops ∧
    (s.testEnd).amc = s.amc ∧ (s.testEnd).launches = s.launches := by
  unfold State.testEnd; split <;> simp

@[simp] theorem testEndIf_frame (s : State) (b : Bool) :
    (s.testEndIf b).pending = s.pending ∧ (s.testEndIf b).now = s.now ∧ (s.testEndIf b).freeCounter = s.freeCounter ∧ (s.testEndIf b).laneTime = s.laneTime ∧
    (s.testEndIf b).strapA = s.strapA ∧ (s.testEndIf b).strapB = s.strapB ∧ (s.testEndIf b).lineRate = s.lineRate ∧
    (s.testEndIf b).circuits = s.circuits ∧ (s.testEndIf b).engines = s.engines ∧
    (s.testEndIf b).priorityTurn = s.priorityTurn ∧ (s.testEndIf b).standardTurn = s.standardTurn ∧
    (s.testEndIf b).points = s.points ∧ (s.testEndIf b).nodes = s.nodes ∧ (s.testEndIf b).runDue = s.runDue ∧
    (s.testEndIf b).spot = s.spot ∧ (s.testEndIf b).openLoops = s.openLoops ∧ (s.testEndIf b).amc = s.amc ∧
    (s.testEndIf b).launches = s.launches := by
  unfold State.testEndIf; split <;> simp

@[simp] theorem withdraw_frame (s : State) (r : NotTested) (c : Nat) :
    (s.withdraw r c).pending = s.pending ∧ (s.withdraw r c).now = s.now ∧
    (s.withdraw r c).freeCounter = s.freeCounter ∧ (s.withdraw r c).laneTime = s.laneTime ∧ (s.withdraw r c).strapA = s.strapA ∧
    (s.withdraw r c).strapB = s.strapB ∧ (s.withdraw r c).lineRate = s.lineRate ∧
    (s.withdraw r c).engines = s.engines ∧ (s.withdraw r c).priorityTurn = s.priorityTurn ∧
    (s.withdraw r c).standardTurn = s.standardTurn ∧ (s.withdraw r c).points = s.points ∧
    (s.withdraw r c).nodes = s.nodes ∧ (s.withdraw r c).spot = s.spot ∧ (s.withdraw r c).openLoops = s.openLoops ∧
    (s.withdraw r c).amc = s.amc ∧ (s.withdraw r c).launches = s.launches := by
  simp [State.withdraw]

@[simp] theorem removeSpot_frame (s : State) (st : Status) (x : SpotEntry) :
    (s.removeSpot st x).pending = s.pending ∧ (s.removeSpot st x).now = s.now ∧
    (s.removeSpot st x).freeCounter = s.freeCounter ∧ (s.removeSpot st x).laneTime = s.laneTime ∧ (s.removeSpot st x).strapA = s.strapA ∧
    (s.removeSpot st x).strapB = s.strapB ∧ (s.removeSpot st x).lineRate = s.lineRate ∧
    (s.removeSpot st x).engines = s.engines ∧ (s.removeSpot st x).priorityTurn = s.priorityTurn ∧
    (s.removeSpot st x).standardTurn = s.standardTurn ∧ (s.removeSpot st x).points = s.points ∧
    (s.removeSpot st x).nodes = s.nodes ∧ (s.removeSpot st x).campaign = s.campaign ∧
    (s.removeSpot st x).classes = s.classes ∧ (s.removeSpot st x).openLoops = s.openLoops ∧
    (s.removeSpot st x).amc = s.amc ∧ (s.removeSpot st x).launches = s.launches := by
  unfold State.removeSpot; split <;> simp

/-! ## The matrix FIFO -/

@[simp] theorem pump_frame (s : State) :
    (s.pump).pending = s.pending ∧ (s.pump).now = s.now ∧ (s.pump).freeCounter = s.freeCounter ∧ (s.pump).laneTime = s.laneTime ∧
    (s.pump).strapA = s.strapA ∧ (s.pump).strapB = s.strapB ∧ (s.pump).lineRate = s.lineRate ∧
    (s.pump).circuits = s.circuits ∧ (s.pump).engines = s.engines ∧ (s.pump).priorityTurn = s.priorityTurn ∧
    (s.pump).standardTurn = s.standardTurn ∧ (s.pump).points = s.points ∧ (s.pump).nodes = s.nodes ∧
    (s.pump).runDue = s.runDue ∧ (s.pump).campaign = s.campaign ∧ (s.pump).classes = s.classes ∧
    (s.pump).spot = s.spot ∧ (s.pump).openLoops = s.openLoops ∧ (s.pump).mli = s.mli ∧ (s.pump).launches = s.launches := by
  unfold State.pump; split <;> simp

@[simp] theorem issue_frame (s : State) (r : Request) :
    (s.issue r).pending = s.pending ∧ (s.issue r).now = s.now ∧ (s.issue r).freeCounter = s.freeCounter ∧ (s.issue r).laneTime = s.laneTime ∧
    (s.issue r).strapA = s.strapA ∧ (s.issue r).strapB = s.strapB ∧ (s.issue r).lineRate = s.lineRate ∧
    (s.issue r).circuits = s.circuits ∧ (s.issue r).engines = s.engines ∧ (s.issue r).priorityTurn = s.priorityTurn ∧
    (s.issue r).standardTurn = s.standardTurn ∧ (s.issue r).points = s.points ∧ (s.issue r).nodes = s.nodes ∧
    (s.issue r).runDue = s.runDue ∧ (s.issue r).campaign = s.campaign ∧ (s.issue r).classes = s.classes ∧
    (s.issue r).spot = s.spot ∧ (s.issue r).openLoops = s.openLoops ∧ (s.issue r).mli = s.mli ∧
    (s.issue r).launches = s.launches := by
  simp [State.issue]

@[simp] theorem startDisconnect_frame (s : State) (e : Nat) :
    (s.startDisconnect e).pending = s.pending ∧ (s.startDisconnect e).now = s.now ∧
    (s.startDisconnect e).freeCounter = s.freeCounter ∧ (s.startDisconnect e).laneTime = s.laneTime ∧ (s.startDisconnect e).strapA = s.strapA ∧
    (s.startDisconnect e).strapB = s.strapB ∧ (s.startDisconnect e).lineRate = s.lineRate ∧
    (s.startDisconnect e).circuits = s.circuits ∧ (s.startDisconnect e).priorityTurn = s.priorityTurn ∧
    (s.startDisconnect e).standardTurn = s.standardTurn ∧ (s.startDisconnect e).points = s.points ∧
    (s.startDisconnect e).nodes = s.nodes ∧ (s.startDisconnect e).runDue = s.runDue ∧
    (s.startDisconnect e).campaign = s.campaign ∧ (s.startDisconnect e).classes = s.classes ∧
    (s.startDisconnect e).spot = s.spot ∧ (s.startDisconnect e).openLoops = s.openLoops ∧
    (s.startDisconnect e).mli = s.mli ∧ (s.startDisconnect e).launches = s.launches := by
  simp [State.startDisconnect]

/-! ## Engines that leave -/

@[simp] theorem removeCalibration_frame (s : State) (x : SpotEntry) :
    (s.removeCalibration x).pending = s.pending ∧ (s.removeCalibration x).now = s.now ∧
    (s.removeCalibration x).freeCounter = s.freeCounter ∧ (s.removeCalibration x).laneTime = s.laneTime ∧ (s.removeCalibration x).strapA = s.strapA ∧
    (s.removeCalibration x).strapB = s.strapB ∧ (s.removeCalibration x).lineRate = s.lineRate ∧
    (s.removeCalibration x).circuits = s.circuits ∧ (s.removeCalibration x).engines = s.engines ∧
    (s.removeCalibration x).priorityTurn = s.priorityTurn ∧ (s.removeCalibration x).standardTurn = s.standardTurn ∧
    (s.removeCalibration x).points = s.points ∧ (s.removeCalibration x).nodes = s.nodes ∧
    (s.removeCalibration x).campaign = s.campaign ∧ (s.removeCalibration x).classes = s.classes ∧
    (s.removeCalibration x).openLoops = s.openLoops ∧ (s.removeCalibration x).amc = s.amc ∧
    (s.removeCalibration x).launches = s.launches := by
  unfold State.removeCalibration; split <;> simp

@[simp] theorem goIdle_frame (s : State) (e : Nat) :
    (s.goIdle e).pending = s.pending ∧ (s.goIdle e).now = s.now ∧ (s.goIdle e).freeCounter = s.freeCounter ∧ (s.goIdle e).laneTime = s.laneTime ∧
    (s.goIdle e).strapA = s.strapA ∧ (s.goIdle e).strapB = s.strapB ∧ (s.goIdle e).lineRate = s.lineRate ∧
    (s.goIdle e).circuits = s.circuits ∧ (s.goIdle e).priorityTurn = s.priorityTurn ∧
    (s.goIdle e).standardTurn = s.standardTurn ∧ (s.goIdle e).points = s.points ∧ (s.goIdle e).nodes = s.nodes ∧
    (s.goIdle e).campaign = s.campaign ∧ (s.goIdle e).classes = s.classes ∧ (s.goIdle e).spot = s.spot ∧
    (s.goIdle e).openLoops = s.openLoops ∧ (s.goIdle e).amc = s.amc ∧ (s.goIdle e).mli = s.mli ∧
    (s.goIdle e).launches = s.launches := by
  simp [State.goIdle]

/-! ## Folds -/

/-- A fold keeps what each of its steps keeps. -/
theorem foldl_keeps {β γ : Type} (f : State → β → State) (g : State → γ) (h : ∀ s b, g (f s b) = g s) (l : List β)
    (s : State) : g (l.foldl f s) = g s := by
  induction l generalizing s with
  | nil => rfl
  | cons b rest ih => rw [List.foldl_cons, ih, h]

/-- A fold keeps an invariant that each of its steps keeps. -/
theorem foldl_inv {β : Type} (f : State → β → State) (P : State → Prop) (h : ∀ s b, P s → P (f s b)) (l : List β)
    (s : State) (hs : P s) : P (l.foldl f s) := by
  induction l generalizing s with
  | nil => exact hs
  | cons b rest ih => exact ih _ (h s b hs)

@[simp] theorem flushQueues_frame (s : State) (r : NotTested) :
    (s.flushQueues r).pending = s.pending ∧ (s.flushQueues r).now = s.now ∧
    (s.flushQueues r).freeCounter = s.freeCounter ∧ (s.flushQueues r).laneTime = s.laneTime ∧ (s.flushQueues r).strapA = s.strapA ∧
    (s.flushQueues r).strapB = s.strapB ∧ (s.flushQueues r).lineRate = s.lineRate ∧
    (s.flushQueues r).engines = s.engines ∧ (s.flushQueues r).priorityTurn = s.priorityTurn ∧
    (s.flushQueues r).standardTurn = s.standardTurn ∧ (s.flushQueues r).points = s.points ∧
    (s.flushQueues r).nodes = s.nodes ∧ (s.flushQueues r).spot = s.spot ∧ (s.flushQueues r).openLoops = s.openLoops ∧
    (s.flushQueues r).amc = s.amc ∧ (s.flushQueues r).mli = s.mli ∧ (s.flushQueues r).launches = s.launches := by
  refine ⟨?_, ?_, ?_, ?_, ?_, ?_, ?_, ?_, ?_, ?_, ?_, ?_, ?_, ?_, ?_, ?_, ?_⟩ <;> exact foldl_keeps _ _ (fun _ _ => by simp) _ _

@[simp] theorem drain_frame (s : State) (r : NotTested) (c : EndCause) :
    (s.drain r c).pending = s.pending ∧ (s.drain r c).now = s.now ∧ (s.drain r c).freeCounter = s.freeCounter ∧ (s.drain r c).laneTime = s.laneTime ∧
    (s.drain r c).strapA = s.strapA ∧ (s.drain r c).strapB = s.strapB ∧ (s.drain r c).lineRate = s.lineRate ∧
    (s.drain r c).engines = s.engines ∧ (s.drain r c).priorityTurn = s.priorityTurn ∧
    (s.drain r c).standardTurn = s.standardTurn ∧ (s.drain r c).points = s.points ∧ (s.drain r c).nodes = s.nodes ∧
    (s.drain r c).spot = s.spot ∧ (s.drain r c).openLoops = s.openLoops ∧ (s.drain r c).amc = s.amc ∧
    (s.drain r c).mli = s.mli ∧ (s.drain r c).launches = s.launches := by
  simp [State.drain]

/-- The two removals of a hold (R140, steps 2 and 3). -/
theorem removals_frame (l : List Nat) (s : State) (r : NotTested) :
    let t := l.foldl (fun u c => u.removeQueued r c) s
    t.pending = s.pending ∧ t.now = s.now ∧ t.freeCounter = s.freeCounter ∧ t.laneTime = s.laneTime ∧ t.strapA = s.strapA ∧ t.strapB = s.strapB ∧
    t.lineRate = s.lineRate ∧ t.engines = s.engines ∧ t.priorityTurn = s.priorityTurn ∧
    t.standardTurn = s.standardTurn ∧ t.points = s.points ∧ t.nodes = s.nodes ∧ t.spot = s.spot ∧
    t.openLoops = s.openLoops ∧ t.amc = s.amc ∧ t.mli = s.mli ∧ t.launches = s.launches := by
  refine ⟨?_, ?_, ?_, ?_, ?_, ?_, ?_, ?_, ?_, ?_, ?_, ?_, ?_, ?_, ?_, ?_, ?_⟩ <;>
    exact foldl_keeps _ _ (fun _ _ => by simp) _ _

theorem spotRemovals_frame (l : List SpotEntry) (s : State) (st : Status) :
    let t := l.foldl (fun u x => u.removeSpot st x) s
    t.pending = s.pending ∧ t.now = s.now ∧ t.freeCounter = s.freeCounter ∧ t.laneTime = s.laneTime ∧ t.strapA = s.strapA ∧ t.strapB = s.strapB ∧
    t.lineRate = s.lineRate ∧ t.engines = s.engines ∧ t.priorityTurn = s.priorityTurn ∧
    t.standardTurn = s.standardTurn ∧ t.points = s.points ∧ t.nodes = s.nodes ∧ t.campaign = s.campaign ∧
    t.classes = s.classes ∧ t.openLoops = s.openLoops ∧ t.amc = s.amc ∧ t.launches = s.launches := by
  refine ⟨?_, ?_, ?_, ?_, ?_, ?_, ?_, ?_, ?_, ?_, ?_, ?_, ?_, ?_, ?_, ?_, ?_⟩ <;>
    exact foldl_keeps _ _ (fun _ _ => by simp) _ _

@[simp] theorem holdNode_frame (s : State) (n : Nat) (c : HoldCause) :
    (s.holdNode n c).pending = s.pending ∧ (s.holdNode n c).now = s.now ∧
    (s.holdNode n c).freeCounter = s.freeCounter ∧ (s.holdNode n c).laneTime = s.laneTime ∧ (s.holdNode n c).strapA = s.strapA ∧
    (s.holdNode n c).strapB = s.strapB ∧ (s.holdNode n c).lineRate = s.lineRate ∧
    (s.holdNode n c).engines = s.engines ∧ (s.holdNode n c).priorityTurn = s.priorityTurn ∧
    (s.holdNode n c).standardTurn = s.standardTurn ∧ (s.holdNode n c).points = s.points ∧
    (s.holdNode n c).openLoops = s.openLoops ∧ (s.holdNode n c).amc = s.amc ∧ (s.holdNode n c).launches = s.launches := by
  unfold State.holdNode; dsimp only; split <;> simp [removals_frame, spotRemovals_frame]

@[simp] theorem reportConfirmed_frame (s : State) (n : Nat) :
    (s.reportConfirmed n).pending = s.pending ∧ (s.reportConfirmed n).now = s.now ∧
    (s.reportConfirmed n).freeCounter = s.freeCounter ∧ (s.reportConfirmed n).laneTime = s.laneTime ∧ (s.reportConfirmed n).strapA = s.strapA ∧
    (s.reportConfirmed n).strapB = s.strapB ∧ (s.reportConfirmed n).lineRate = s.lineRate ∧
    (s.reportConfirmed n).circuits = s.circuits ∧ (s.reportConfirmed n).engines = s.engines ∧
    (s.reportConfirmed n).priorityTurn = s.priorityTurn ∧ (s.reportConfirmed n).standardTurn = s.standardTurn ∧
    (s.reportConfirmed n).points = s.points ∧ (s.reportConfirmed n).runDue = s.runDue ∧
    (s.reportConfirmed n).campaign = s.campaign ∧ (s.reportConfirmed n).classes = s.classes ∧
    (s.reportConfirmed n).spot = s.spot ∧ (s.reportConfirmed n).openLoops = s.openLoops ∧
    (s.reportConfirmed n).amc = s.amc ∧ (s.reportConfirmed n).mli = s.mli ∧
    (s.reportConfirmed n).launches = s.launches := by
  simp [State.reportConfirmed]

@[simp] theorem reportNoLoop_frame (s : State) (n : Nat) :
    (s.reportNoLoop n).pending = s.pending ∧ (s.reportNoLoop n).now = s.now ∧
    (s.reportNoLoop n).freeCounter = s.freeCounter ∧ (s.reportNoLoop n).laneTime = s.laneTime ∧ (s.reportNoLoop n).strapA = s.strapA ∧
    (s.reportNoLoop n).strapB = s.strapB ∧ (s.reportNoLoop n).lineRate = s.lineRate ∧
    (s.reportNoLoop n).engines = s.engines ∧ (s.reportNoLoop n).priorityTurn = s.priorityTurn ∧
    (s.reportNoLoop n).standardTurn = s.standardTurn ∧ (s.reportNoLoop n).points = s.points ∧
    (s.reportNoLoop n).openLoops = s.openLoops ∧ (s.reportNoLoop n).amc = s.amc ∧
    (s.reportNoLoop n).launches = s.launches := by
  unfold State.reportNoLoop; dsimp only; split <;> simp

@[simp] theorem goOffline_frame (s : State) (e : Nat) :
    (s.goOffline e).pending = s.pending ∧ (s.goOffline e).now = s.now ∧ (s.goOffline e).freeCounter = s.freeCounter ∧ (s.goOffline e).laneTime = s.laneTime ∧
    (s.goOffline e).strapA = s.strapA ∧ (s.goOffline e).strapB = s.strapB ∧ (s.goOffline e).lineRate = s.lineRate ∧
    (s.goOffline e).circuits = s.circuits ∧ (s.goOffline e).priorityTurn = s.priorityTurn ∧
    (s.goOffline e).standardTurn = s.standardTurn ∧ (s.goOffline e).points = s.points ∧
    (s.goOffline e).nodes = s.nodes ∧ (s.goOffline e).campaign = s.campaign ∧ (s.goOffline e).classes = s.classes ∧
    (s.goOffline e).openLoops = s.openLoops ∧ (s.goOffline e).amc = s.amc ∧ (s.goOffline e).launches = s.launches := by
  unfold State.goOffline; dsimp only; refine ⟨?_, ?_, ?_, ?_, ?_, ?_, ?_, ?_, ?_, ?_, ?_, ?_, ?_, ?_, ?_, ?_, ?_⟩ <;>
    exact (foldl_keeps _ _ (fun _ _ => by simp) _ _).trans (by simp)

@[simp] theorem engineLeaves_frame (s : State) (e : Nat) :
    (s.engineLeaves e).pending = s.pending ∧ (s.engineLeaves e).now = s.now ∧
    (s.engineLeaves e).freeCounter = s.freeCounter ∧ (s.engineLeaves e).laneTime = s.laneTime ∧ (s.engineLeaves e).strapA = s.strapA ∧
    (s.engineLeaves e).strapB = s.strapB ∧ (s.engineLeaves e).lineRate = s.lineRate ∧
    (s.engineLeaves e).circuits = s.circuits ∧ (s.engineLeaves e).priorityTurn = s.priorityTurn ∧
    (s.engineLeaves e).standardTurn = s.standardTurn ∧ (s.engineLeaves e).points = s.points ∧
    (s.engineLeaves e).nodes = s.nodes ∧ (s.engineLeaves e).campaign = s.campaign ∧
    (s.engineLeaves e).classes = s.classes ∧ (s.engineLeaves e).openLoops = s.openLoops ∧
    (s.engineLeaves e).amc = s.amc ∧ (s.engineLeaves e).launches = s.launches := by
  unfold State.engineLeaves; split <;> simp

@[simp] theorem pairLeaves_frame (s : State) (e : Nat) :
    (s.pairLeaves e).pending = s.pending ∧ (s.pairLeaves e).now = s.now ∧
    (s.pairLeaves e).freeCounter = s.freeCounter ∧ (s.pairLeaves e).laneTime = s.laneTime ∧ (s.pairLeaves e).strapA = s.strapA ∧
    (s.pairLeaves e).strapB = s.strapB ∧ (s.pairLeaves e).lineRate = s.lineRate ∧
    (s.pairLeaves e).circuits = s.circuits ∧ (s.pairLeaves e).priorityTurn = s.priorityTurn ∧
    (s.pairLeaves e).standardTurn = s.standardTurn ∧ (s.pairLeaves e).points = s.points ∧
    (s.pairLeaves e).nodes = s.nodes ∧ (s.pairLeaves e).campaign = s.campaign ∧
    (s.pairLeaves e).classes = s.classes ∧ (s.pairLeaves e).openLoops = s.openLoops ∧ (s.pairLeaves e).amc = s.amc ∧
    (s.pairLeaves e).launches = s.launches := by
  unfold State.pairLeaves; split <;> simp

@[simp] theorem countGraded_frame (s : State) (g : Grade) :
    (s.countGraded g).pending = s.pending ∧ (s.countGraded g).now = s.now ∧
    (s.countGraded g).freeCounter = s.freeCounter ∧ (s.countGraded g).laneTime = s.laneTime ∧ (s.countGraded g).strapA = s.strapA ∧
    (s.countGraded g).strapB = s.strapB ∧ (s.countGraded g).lineRate = s.lineRate ∧
    (s.countGraded g).circuits = s.circuits ∧ (s.countGraded g).engines = s.engines ∧
    (s.countGraded g).priorityTurn = s.priorityTurn ∧ (s.countGraded g).standardTurn = s.standardTurn ∧
    (s.countGraded g).points = s.points ∧ (s.countGraded g).nodes = s.nodes ∧ (s.countGraded g).classes = s.classes ∧
    (s.countGraded g).spot = s.spot ∧ (s.countGraded g).openLoops = s.openLoops ∧ (s.countGraded g).amc = s.amc ∧
    (s.countGraded g).mli = s.mli ∧ (s.countGraded g).launches = s.launches := by
  simp [State.countGraded]

@[simp] theorem reportVerdict_frame (s : State) (x : Context) (c : Nat) (l : Option Verdict) (v : Verdict) :
    (s.reportVerdict x c l v).pending = s.pending ∧ (s.reportVerdict x c l v).now = s.now ∧
    (s.reportVerdict x c l v).freeCounter = s.freeCounter ∧ (s.reportVerdict x c l v).laneTime = s.laneTime ∧ (s.reportVerdict x c l v).strapA = s.strapA ∧
    (s.reportVerdict x c l v).strapB = s.strapB ∧ (s.reportVerdict x c l v).lineRate = s.lineRate ∧
    (s.reportVerdict x c l v).circuits = s.circuits ∧ (s.reportVerdict x c l v).engines = s.engines ∧
    (s.reportVerdict x c l v).priorityTurn = s.priorityTurn ∧
    (s.reportVerdict x c l v).standardTurn = s.standardTurn ∧ (s.reportVerdict x c l v).points = s.points ∧
    (s.reportVerdict x c l v).nodes = s.nodes ∧ (s.reportVerdict x c l v).runDue = s.runDue ∧
    (s.reportVerdict x c l v).campaign = s.campaign ∧ (s.reportVerdict x c l v).classes = s.classes ∧
    (s.reportVerdict x c l v).spot = s.spot ∧ (s.reportVerdict x c l v).openLoops = s.openLoops ∧
    (s.reportVerdict x c l v).amc = s.amc ∧ (s.reportVerdict x c l v).launches = s.launches := by
  unfold State.reportVerdict; repeat' split
  all_goals simp

@[simp] theorem gradeProbe_frame (s : State) (e : Nat) :
    (s.gradeProbe e).pending = s.pending ∧ (s.gradeProbe e).now = s.now ∧
    (s.gradeProbe e).freeCounter = s.freeCounter ∧ (s.gradeProbe e).laneTime = s.laneTime ∧ (s.gradeProbe e).strapA = s.strapA ∧
    (s.gradeProbe e).strapB = s.strapB ∧ (s.gradeProbe e).lineRate = s.lineRate ∧
    (s.gradeProbe e).engines = s.engines ∧ (s.gradeProbe e).priorityTurn = s.priorityTurn ∧
    (s.gradeProbe e).standardTurn = s.standardTurn ∧ (s.gradeProbe e).points = s.points ∧
    (s.gradeProbe e).nodes = s.nodes ∧ (s.gradeProbe e).classes = s.classes ∧ (s.gradeProbe e).spot = s.spot ∧
    (s.gradeProbe e).openLoops = s.openLoops ∧ (s.gradeProbe e).amc = s.amc ∧ (s.gradeProbe e).launches = s.launches := by
  unfold State.gradeProbe; repeat' split
  all_goals simp

@[simp] theorem releaseEnd_frame (s : State) (e : Nat) :
    (s.releaseEnd e).pending = s.pending ∧ (s.releaseEnd e).now = s.now ∧
    (s.releaseEnd e).freeCounter = s.freeCounter ∧ (s.releaseEnd e).laneTime = s.laneTime ∧ (s.releaseEnd e).strapA = s.strapA ∧
    (s.releaseEnd e).strapB = s.strapB ∧ (s.releaseEnd e).lineRate = s.lineRate ∧
    (s.releaseEnd e).priorityTurn = s.priorityTurn ∧ (s.releaseEnd e).standardTurn = s.standardTurn ∧
    (s.releaseEnd e).points = s.points ∧ (s.releaseEnd e).spot = s.spot ∧ (s.releaseEnd e).openLoops = s.openLoops ∧
    (s.releaseEnd e).launches = s.launches := by
  unfold State.releaseEnd; split <;> simp

@[simp] theorem stuckEnd_frame (s : State) (e : Nat) :
    (s.stuckEnd e).pending = s.pending ∧ (s.stuckEnd e).now = s.now ∧ (s.stuckEnd e).freeCounter = s.freeCounter ∧ (s.stuckEnd e).laneTime = s.laneTime ∧
    (s.stuckEnd e).strapA = s.strapA ∧ (s.stuckEnd e).strapB = s.strapB ∧ (s.stuckEnd e).lineRate = s.lineRate ∧
    (s.stuckEnd e).priorityTurn = s.priorityTurn ∧ (s.stuckEnd e).standardTurn = s.standardTurn ∧
    (s.stuckEnd e).points = s.points ∧ (s.stuckEnd e).nodes = s.nodes ∧ (s.stuckEnd e).spot = s.spot ∧
    (s.stuckEnd e).launches = s.launches := by
  unfold State.stuckEnd; split <;> simp

/-! ## Taking a command (R171) -/

/-- The head frame is taken below 56 records once READY has been placed. -/
theorem takeFrame_head (s : State) (f : Frame) (rest : List Frame) (h : s.mli.startup = none) (hl : s.mli.tx.length < 56)
    (hb : s.mli.rxBuffer = f :: rest) : s.takeFrame f = some { s with mli := { s.mli with rxBuffer := rest } } := by
  simp [State.takeFrame, h, hl, hb]

/-- A command that is at the head and can be taken is handled whole. -/
theorem hostCommand_head (code : Byte) (tag : Tag) (p : List Byte) (s : State) (body : Cmd → State → State) (rest : List Frame)
    (h : s.mli.startup = none) (hl : s.mli.tx.length < 56) (hb : s.mli.rxBuffer = ⟨kindCommand, code, tag, p⟩ :: rest) :
    hostCommand code tag p s body = .next (body ⟨code, tag⟩ { s with mli := { s.mli with rxBuffer := rest } }) := by
  simp [hostCommand, takeFrame_head s _ rest h hl hb]

/-- A command answers a next state: the state itself, or its body's. -/
theorem hostCommand_next (code : Byte) (tag : Tag) (p : List Byte) (s : State) (body : Cmd → State → State) :
    hostCommand code tag p s body = .next s ∨
      ∃ t, s.takeFrame ⟨kindCommand, code, tag, p⟩ = some t ∧ hostCommand code tag p s body = .next (body ⟨code, tag⟩ t) := by
  unfold hostCommand
  split
  · exact .inr ⟨_, ‹_›, rfl⟩
  · exact .inl rfl

/-- What taking a frame changes: the head leaves the receive buffer. -/
theorem takeFrame_some (s t : State) (f : Frame) (h : s.takeFrame f = some t) :
    s.mli.startup = none ∧ s.mli.tx.length < 56 ∧ s.mli.rxBuffer = f :: s.mli.rxBuffer.tail ∧
      t = { s with mli := { s.mli with rxBuffer := s.mli.rxBuffer.tail } } := by
  unfold State.takeFrame at h
  split at h
  · rename_i hc
    obtain ⟨h1, h2, h3⟩ := hc
    refine ⟨h1, h2, ?_, (Option.some.inj h).symm⟩
    cases hb : s.mli.rxBuffer with
    | nil => simp [hb] at h3
    | cons a l => simp_all
  · cases h

theorem event_true (b : Bool) (s : State) (f : State → State) (h : b = true) : event b s f = .next (f s) := by
  simp [event, h]

/-- An event answers its effect or the state itself. -/
theorem event_next (b : Bool) (s : State) (f : State → State) : event b s f = .next (f s) ∨ event b s f = .next s := by
  cases b <;> simp [event]

end Sys2Proof.Machine
end

