-- ==== Sys2Proof/Laws/Links.lean ====
section
/-! SUPPORT. What the command handler and the answer receiver do next. -/

namespace Sys2Proof.Machine

/-! ## The command handler (R171) -/

/-- The rows of the handler are those of the codes that name a command. -/
theorem commandRows_known (code : Byte) : commandRows.any (fun r => r.1 == code) = knownCode code := by
  revert code; decide +kernel

/-- A frame that is no COMMAND, or whose code names none, is taken by UNKNOWN_COMMAND. -/
theorem taking_unknown (f : Frame) (h : f.kind ≠ kindCommand ∨ knownCode f.code = false) :
    f.taking = .unknownCommand f.kind f.code f.tag f.payload := by
  have hn : commandRows.find? (fun r => decide (f.kind = kindCommand) && r.1 == f.code) = none := by
    rw [List.find?_eq_none]
    intro r hr
    rcases h with h | h
    · simp [h]
    · rw [← commandRows_known, List.any_eq_false] at h
      simp [h r hr]
  simp [Frame.taking, hn]

/-- The taking that is due is that of the head frame, which can be taken. -/
theorem headDue_eq_some (s : State) (c : Instr) :
    s.headDue = some c ↔
      s.mli.startup = none ∧ s.mli.tx.length < 56 ∧ ∃ f rest, s.mli.rxBuffer = f :: rest ∧ c = f.taking := by
  unfold State.headDue
  cases hb : s.mli.rxBuffer with
  | nil => simp
  | cons f rest => by_cases h : s.mli.startup = none ∧ s.mli.tx.length < 56 <;> simp_all [eq_comm, and_assoc]

/-- No taking is due in start-up, at a full queue, or with nothing received. -/
theorem headDue_eq_none (s : State) :
    s.headDue = none ↔ ¬(s.mli.startup = none ∧ s.mli.tx.length < 56) ∨ s.mli.rxBuffer = [] := by
  unfold State.headDue
  cases hb : s.mli.rxBuffer with
  | nil => simp
  | cons f rest => by_cases h : s.mli.startup = none ∧ s.mli.tx.length < 56 <;> simp_all

/-! ## The answer receiver (R183) -/

@[simp] theorem dropAnswer_rx (s : State) : s.dropAnswer.amc.rx = [] := rfl

/-- A byte of a frame begun in time joins it. -/
theorem answerByte_in_time (s : State) (b : Byte) (h : s.answerGapDue = false) : s.answerByte b = s.takeAnswerByte b := by
  simp [State.answerByte, h]

/-- A receiver that hunts waits for 0x5A. -/
theorem answerByte_hunt (s : State) (b : Byte) (h : s.amc.rx = []) :
    s.answerByte b = if b = 0x5A then s.setAnswerRx [b] else s := by
  simp [State.answerByte, State.answerGapDue, State.takeAnswerByte, h]

/-- A byte behind a gap is hunted in, the frame begun being discarded. -/
theorem answerByte_late (s : State) (b : Byte) (h : s.answerGapDue = true) :
    s.answerByte b = if b = 0x5A then s.dropAnswer.setAnswerRx [b] else s.dropAnswer := by
  simp [State.answerByte, State.takeAnswerByte, h]

end Sys2Proof.Machine
end

