-- ==== Sys2Proof/Laws/Phases.lean ====
section
/-! SUPPORT. What the shared operations of the phases do to the engine they act on, and to every other engine. -/

namespace Sys2Proof.Machine

/-! ## One engine, and the lanes of a lead -/

theorem modEngine_self (s : State) (e : Nat) (f : Engine → Engine) (h : e < 16) : (s.modEngine e f).engine e = f (s.engine e) := by
  simp [State.modEngine, h]

theorem modEngine_ne (s : State) (e d : Nat) (f : Engine → Engine) (h : d ≠ e) : (s.modEngine e f).engine d = s.engine d := by
  simp [State.modEngine, Ne.symm h]

theorem onLanes_self (s : State) (e : Nat) (f : Engine → Engine) (h : e < 16) : (s.onLanes e f).engine e = f (s.engine e) := by
  unfold State.onLanes
  split
  · rw [modEngine_ne _ _ _ _ (by omega), modEngine_self _ _ _ h]
  · exact modEngine_self _ _ _ h

theorem onLanes_follower (s : State) (e : Nat) (f : Engine → Engine) (hw : (s.engine e).wide = true) (h : e + 1 < 16) :
    (s.onLanes e f).engine (e + 1) = f (s.engine (e + 1)) := by
  simp only [State.onLanes, hw, if_true]
  rw [modEngine_self _ _ _ h, modEngine_ne _ _ _ _ (by omega)]

/-- Another engine is the follower, or as it was. -/
theorem onLanes_other (s : State) (e d : Nat) (f : Engine → Engine) (h : d ≠ e) :
    (s.onLanes e f).engine d = s.engine d ∨
      (d = e + 1 ∧ (s.engine e).wide = true ∧ (s.onLanes e f).engine d = f (s.engine d)) := by
  unfold State.onLanes
  split
  · rename_i hw
    by_cases hd : d = e + 1
    · subst hd
      by_cases h16 : e + 1 < 16
      · right; rw [modEngine_self _ _ _ h16, modEngine_ne _ _ _ _ (by omega)]; exact ⟨rfl, hw, rfl⟩
      · left; simp [State.modEngine, State.engine, State.setEngine, h16]
    · left; rw [modEngine_ne _ _ _ _ hd, modEngine_ne _ _ _ _ h]
  · left; exact modEngine_ne _ _ _ _ h

/-- An update of a lane touches nothing else of an engine. -/
def LaneOnly (f : Engine → Engine) : Prop :=
  ∀ g, (f g).state = g.state ∧ (f g).context = g.context ∧ (f g).meas = g.meas ∧ (f g).localOffset = g.localOffset ∧
    (f g).disablePending = g.disablePending

/-! ## `OnlyEngine` -/

theorem OnlyEngine_refl (s : State) (e : Nat) : s.OnlyEngine s e := by
  intro d _; exact ⟨rfl, rfl, rfl, rfl, rfl, fun _ => rfl⟩

/-- Steps that touch only the engine `e` and keep its pairing chain. -/
theorem OnlyEngine_trans {s t u : State} {e : Nat} (hw : (t.engine e).wide = (s.engine e).wide) (h : s.OnlyEngine t e)
    (k : t.OnlyEngine u e) : s.OnlyEngine u e := by
  intro d hd
  obtain ⟨a1, a2, a3, a4, a5, a6⟩ := h d hd
  obtain ⟨b1, b2, b3, b4, b5, b6⟩ := k d hd
  exact ⟨b1.trans a1, b2.trans a2, b3.trans a3, b4.trans a4, b5.trans a5, fun c => (b6 (hw ▸ c)).trans (a6 c)⟩

theorem OnlyEngine_modEngine (s : State) (e : Nat) (f : Engine → Engine) : s.OnlyEngine (s.modEngine e f) e := by
  intro d hd; rw [modEngine_ne _ _ _ _ hd]; exact ⟨rfl, rfl, rfl, rfl, rfl, fun _ => rfl⟩

theorem OnlyEngine_onLanes (s : State) (e : Nat) (f : Engine → Engine) (hf : LaneOnly f) : s.OnlyEngine (s.onLanes e f) e := by
  intro d hd
  rcases onLanes_other s e d f hd with h | ⟨h1, h2, h3⟩
  · rw [h]; exact ⟨rfl, rfl, rfl, rfl, rfl, fun _ => rfl⟩
  · rw [h3]
    obtain ⟨a1, a2, a3, a4, a5⟩ := hf (s.engine d)
    refine ⟨a1, a2, a3, a4, a5, fun c => ?_⟩
    rcases c with c | c
    · exact absurd h1 c
    · rw [h2] at c; exact absurd c (by simp)

/-- Engines that agree answer alike. -/
theorem OnlyEngine_congr {s t u : State} {e : Nat} (h : s.OnlyEngine t e) (k : u.engines = t.engines) : s.OnlyEngine u e := by
  intro d hd
  have : u.engine d = t.engine d := engine_congr k d
  rw [this]; exact h d hd

/-! ## Entering a phase -/

theorem wide_enter (g : Engine) (st : EngineState) : (g.enter st).wide = g.wide := by
  unfold Engine.wide Engine.enter Engine.modContext
  cases g.context <;> rfl

theorem enterPhase_self (s : State) (e : Nat) (st : EngineState) (f : Lane → Lane) (h : e < 16) :
    (s.enterPhase e st f).engine e = { (s.engine e).enter st with lane := f (s.engine e).lane.disarmed } := by
  unfold State.enterPhase
  rw [onLanes_self _ _ _ h, modEngine_self _ _ _ h]; rfl

theorem enterPhase_only (s : State) (e : Nat) (st : EngineState) (f : Lane → Lane) (h : e < 16) :
    s.OnlyEngine (s.enterPhase e st f) e :=
  OnlyEngine_trans (by rw [modEngine_self _ _ _ h, wide_enter]) (OnlyEngine_modEngine s e _)
    (OnlyEngine_onLanes _ e _ (fun _ => ⟨rfl, rfl, rfl, rfl, rfl⟩))

theorem enterPhase_context (s : State) (e : Nat) (st : EngineState) (f : Lane → Lane) (h : e < 16) (x : Context)
    (hx : (s.engine e).context = some x) :
    ((s.enterPhase e st f).engine e).context = some { x with phaseTimer := 0 } := by
  rw [enterPhase_self _ _ _ _ h]
  simp [Engine.enter, Engine.modContext, hx]

theorem wide_enterPhase (s : State) (e : Nat) (st : EngineState) (f : Lane → Lane) (h : e < 16) :
    ((s.enterPhase e st f).engine e).wide = (s.engine e).wide := by
  rw [enterPhase_self _ _ _ _ h]; exact wide_enter _ _

/-- A phase moves the engines alone. -/
theorem enterPhase_eta (s : State) (e : Nat) (st : EngineState) (f : Lane → Lane) :
    s.enterPhase e st f = { s with engines := (s.enterPhase e st f).engines } := by
  unfold State.enterPhase State.onLanes State.modEngine State.setEngine
  split <;> rfl

/-- LOOP_UP begins (R51). -/
theorem startLoopUp_self (s : State) (e : Nat) (h : e < 16) (x : Context) (hx : (s.engine e).context = some x) :
    (s.startLoopUp e).engine e =
      { (s.engine e).enter .loopUp with
        context := some { x with phaseTimer := 0, loopAttempts := x.loopAttempts + 1 }
        lane := ((s.engine e).lane.disarmed.turnToCode.armAis s.laneTime).armCode x.activate s.laneTime } := by
  unfold State.startLoopUp
  simp only
  rw [modEngine_self _ _ _ h, enterPhase_self _ _ _ _ h]
  simp [Engine.enter, Engine.modContext, hx]

theorem startLoopUp_only (s : State) (e : Nat) (h : e < 16) : s.OnlyEngine (s.startLoopUp e) e :=
  OnlyEngine_trans (wide_enterPhase _ _ _ _ h) (enterPhase_only s e _ _ h) (OnlyEngine_modEngine _ e _)

theorem startLoopUp_eta (s : State) (e : Nat) : s.startLoopUp e = { s with engines := (s.startLoopUp e).engines } := by
  unfold State.startLoopUp State.modEngine State.setEngine
  simp only
  rw [enterPhase_eta]

/-- A release attempt begins (R60). -/
theorem startRelease_self (s : State) (e : Nat) (h : e < 16) (x : Context) (hx : (s.engine e).context = some x) :
    (s.startRelease e).engine e =
      { (s.engine e).enter .loopDown with
        context := some { x with phaseTimer := 0, releaseAttempts := x.releaseAttempts + 1 }
        lane := (s.engine e).lane.disarmed.turnToCode } := by
  unfold State.startRelease
  rw [modEngine_self _ _ _ h, enterPhase_self _ _ _ _ h]
  simp [Engine.enter, Engine.modContext, hx]

theorem startRelease_only (s : State) (e : Nat) (h : e < 16) : s.OnlyEngine (s.startRelease e) e :=
  OnlyEngine_trans (wide_enterPhase _ _ _ _ h) (enterPhase_only s e _ _ h) (OnlyEngine_modEngine _ e _)

theorem startRelease_eta (s : State) (e : Nat) : s.startRelease e = { s with engines := (s.startRelease e).engines } := by
  unfold State.startRelease State.modEngine State.setEngine
  rw [enterPhase_eta]

theorem writeOutcome_only (s : State) (e : Nat) (o : ProbeOutcome) : s.OnlyEngine (s.writeOutcome e o) e :=
  OnlyEngine_modEngine s e _

theorem writeOutcome_self (s : State) (e : Nat) (o : ProbeOutcome) (h : e < 16) (x : Context)
    (hx : (s.engine e).context = some x) :
    (s.writeOutcome e o).engine e = { s.engine e with context := some { x with outcomes := x.outcomes ++ [o] } } := by
  unfold State.writeOutcome
  rw [modEngine_self _ _ _ h]
  simp [Engine.modContext, hx]

theorem wide_writeOutcome (s : State) (e : Nat) (o : ProbeOutcome) (h : e < 16) :
    ((s.writeOutcome e o).engine e).wide = (s.engine e).wide := by
  unfold State.writeOutcome
  rw [modEngine_self _ _ _ h]
  unfold Engine.wide Engine.modContext
  cases (s.engine e).context <;> rfl

theorem issue_eta (s : State) (r : Request) : s.issue r = { s with amc := (s.issue r).amc } := by
  unfold State.issue State.pump
  split <;> rfl

/-- A DISCONNECT is asked for (R50, R64). -/
theorem startDisconnect_engines (s : State) (e : Nat) :
    (s.startDisconnect e).engines = (s.enterPhase e .disconnecting (fun l => l)).engines := by
  unfold State.startDisconnect
  simp only
  rw [issue_eta]

theorem startDisconnect_only (s : State) (e : Nat) (h : e < 16) : s.OnlyEngine (s.startDisconnect e) e :=
  OnlyEngine_congr (enterPhase_only s e .disconnecting (fun l => l) h) (startDisconnect_engines s e)

theorem startDisconnect_self (s : State) (e : Nat) (h : e < 16) :
    (s.startDisconnect e).engine e =
      { (s.engine e).enter .disconnecting with lane := (s.engine e).lane.disarmed } := by
  rw [engine_congr (startDisconnect_engines s e) e, enterPhase_self _ _ _ _ h]

theorem issue_asks (s t : State) (r : Request) (ht : t.amc = s.amc) (h : r.op ≠ .resetAll) : s.Asks (t.issue r) r := by
  constructor
  · intro hc
    cases hq : s.amc.current with
    | none => exact absurd hq hc
    | some q => simp [State.issue, State.pump, ht, hq, h]
  · intro hc hf
    simp [State.issue, State.pump, ht, hc, hf, h]

theorem startDisconnect_asks (s : State) (e : Nat) :
    s.Asks (s.startDisconnect e)
      ⟨.disconnect, (s.engine e).context.bind Context.accessPoint, some (laneSet e (s.engine e).wide), .engine e⟩ := by
  unfold State.startDisconnect
  simp only
  exact issue_asks s _ _ (by simp) (by simp)

theorem startDisconnect_eta (s : State) (e : Nat) :
    s.startDisconnect e = { s with engines := (s.startDisconnect e).engines, amc := (s.startDisconnect e).amc } := by
  unfold State.startDisconnect
  simp only
  rw [issue_eta, enterPhase_eta]

/-! ## The lanes move on -/

theorem run_zero (src : Source) (g : Generator) : g.run src 0 = g := by
  cases src <;> rfl

/-- Bit periods taken in two parts are the same as taken at once. -/
theorem run_add (src : Source) (n m : Nat) (g : Generator) : g.run src (n + m) = (g.run src n).run src m := by
  cases src with
  | dark => rfl
  | code c => simp [Generator.run, Nat.add_assoc]
  | test => simp only [Generator.run]; rw [Nat.add_comm, Function.iterate_add_apply]

/-- Nothing of an engine but its generator moves as its lane sends. -/
@[simp] theorem sends_frame (g : Engine) (src : Source) (n : Nat) :
    (g.sends src n).state = g.state ∧ (g.sends src n).context = g.context ∧ (g.sends src n).meas = g.meas ∧
    (g.sends src n).localOffset = g.localOffset ∧ (g.sends src n).disablePending = g.disablePending ∧
    (g.sends src n).delayWord = g.delayWord ∧ (g.sends src n).settleUntil = g.settleUntil ∧
    (g.sends src n).checkFrom = g.checkFrom ∧ (g.sends src n).limitUntil = g.limitUntil ∧
    (g.sends src n).markersSent = g.markersSent ∧ (g.sends src n).lane = { g.lane with gen := g.lane.gen.run src n } := by
  simp [Engine.sends]

theorem moveTo_engine (s : State) (m e : Nat) (h : e < 16) :
    (s.moveTo m).engine e = (s.engine e).sends (s.laneSource e) (m - s.laneTime) := by
  simp [State.moveTo, State.engine, h]

/-- The lanes move the generators and their own moment alone. -/
theorem moveTo_eta (s : State) (m : Nat) : s.moveTo m = { s with laneTime := m, engines := (s.moveTo m).engines } := rfl

/-- The bits a lane takes, behind its move. -/
theorem hear_engine (s : State) (e : Nat) (rx : List Bool) (m : Nat) (h : e < 16) :
    (s.hear e rx m).engine e = ((s.engine e).sends (s.laneSource e) (m - s.laneTime)).receive rx := by
  rw [State.hear, State.receive, modEngine_self _ _ _ h, moveTo_engine _ _ _ h]

theorem hear_other (s : State) (e d : Nat) (rx : List Bool) (m : Nat) (h : d ≠ e) (hd : d < 16) :
    (s.hear e rx m).engine d = (s.engine d).sends (s.laneSource d) (m - s.laneTime) := by
  rw [State.hear, State.receive, modEngine_ne _ _ _ _ h, moveTo_engine _ _ _ hd]

theorem hear_eta (s : State) (e : Nat) (rx : List Bool) (m : Nat) :
    s.hear e rx m = { s with laneTime := m, engines := (s.hear e rx m).engines } := rfl

/-! ## The receiver of a lane -/

/-- What received bits leave alone of an engine: all but the checker, the detectors, the window and the counters. -/
def Engine.Listens (g h : Engine) : Prop :=
  h.state = g.state ∧ h.context = g.context ∧ h.localOffset = g.localOffset ∧ h.disablePending = g.disablePending ∧
    h.checkFrom = g.checkFrom ∧ h.delayWord = g.delayWord ∧ h.limitUntil = g.limitUntil ∧ h.settleUntil = g.settleUntil ∧
    h.markersSent = g.markersSent ∧ h.lane.gen = { g.lane.gen with placed := h.lane.gen.placed } ∧ h.lane.firstGain = g.lane.firstGain ∧
    h.lane.meter = g.lane.meter ∧ h.lane.checker.arm = g.lane.checker.arm ∧ h.lane.wordDet.search = g.lane.wordDet.search

theorem Checker.hunt_arm (k : Checker) (v : Bool) : (k.hunt v).arm = k.arm := by
  simp only [Checker.hunt]
  split_ifs <;> rfl

theorem Checker.check_arm (k : Checker) (err : Bool) : (k.check err).arm = k.arm := by
  simp only [Checker.check]
  split_ifs <;> rfl

theorem WordDetector.take_search (d : WordDetector) (w : BitVec 64) (v : Bool) : (d.take w v).search = d.search := by
  unfold WordDetector.take
  split
  · rfl
  · rfl

theorem taken_gen (g : Generator) (p : Option Placed) : g.taken p = { g with placed := (g.taken p).placed } := by
  cases p <;> rfl

theorem checkBit_listens (g : Engine) (b : Bool) : g.Listens (g.checkBit b) := by
  simp only [Engine.checkBit]
  split
  · simp [Engine.Listens]
  · split
    · simp only [Engine.Listens, Engine.checkInSync, Checker.check_arm, true_and, and_true]
      exact taken_gen _ _
    · simp [Engine.Listens, Checker.hunt_arm]

theorem takeBit_listens (g : Engine) (b : Bool) : g.Listens (g.takeBit b) := by
  obtain ⟨h1, h2, h3, h4, h5, h6, h7, h8, h9, h10, h11, h12, h13, h14⟩ := checkBit_listens g b
  exact ⟨h1, h2, h3, h4, h5, h6, h7, h8, h9, h10, h11, h12, h13, (WordDetector.take_search _ _ _).trans h14⟩

theorem Engine.Listens.trans {g h k : Engine} (a : g.Listens h) (b : h.Listens k) : g.Listens k := by
  obtain ⟨a1, a2, a3, a4, a5, a6, a7, a8, a9, a10, a11, a12, a13, a14⟩ := a
  obtain ⟨b1, b2, b3, b4, b5, b6, b7, b8, b9, b10, b11, b12, b13, b14⟩ := b
  exact ⟨b1.trans a1, b2.trans a2, b3.trans a3, b4.trans a4, b5.trans a5, b6.trans a6, b7.trans a7, b8.trans a8,
    b9.trans a9, by rw [b10, a10], b11.trans a11, b12.trans a12, b13.trans a13, b14.trans a14⟩

/-- Received bits move the checker, the detectors and the counters, and nothing else of an engine. -/
theorem receive_listens (rx : List Bool) (g : Engine) : g.Listens (g.receive rx) := by
  induction rx generalizing g with
  | nil => simp [Engine.receive, Engine.Listens]
  | cons b rx ih => exact (takeBit_listens g b).trans (ih (g.takeBit b))

theorem receive_append (g : Engine) (rx : List Bool) (b : Bool) : g.receive (rx ++ [b]) = (g.receive rx).takeBit b := by
  simp [Engine.receive]

theorem receive_engine (s : State) (e : Nat) (rx : List Bool) (h : e < 16) :
    (s.receive e rx).engine e = (s.engine e).receive rx := modEngine_self _ _ _ h

/-! ## The lowest free slot (log 14) -/

theorem firstFree_spec (l : List (Option DeferredSlot)) (k i : Nat) (hi : i < l.length) (h : l[i]? = some none)
    (hj : ∀ j, j < i → l[j]? ≠ some none) : firstFree k l = some (k + i) := by
  induction l generalizing k i with
  | nil => simp at hi
  | cons a l ih =>
    cases i with
    | zero => simp at h; subst h; rfl
    | succ i =>
      have h0 := hj 0 (by omega)
      cases a with
      | none => simp at h0
      | some a =>
        have := ih (k + 1) i (by simpa using hi) (by simpa using h) (fun j hlt => by
          have := hj (j + 1) (by omega); simpa using this)
        simp only [firstFree, this]; congr 1; omega

theorem freeSlot_spec (s : State) (i : Nat) (hi : i < 8) (h : s.slot i = none) (hj : ∀ j, j < i → s.slot j ≠ none) :
    s.freeSlot = some i := by
  have hs : ∀ j (h8 : j < 8), s.slot j = s.mli.slots[j] := by intro j h8; simp [State.slot, h8]
  have := firstFree_spec s.mli.slots.toList 0 i (by simpa using hi) (by
    rw [hs i hi] at h; simp [hi, h]) (fun j hlt => by
    have h8 : j < 8 := by omega
    have k := hj j hlt; rw [hs j h8] at k
    simpa [h8] using k)
  simpa [State.freeSlot] using this

theorem firstFree_none (l : List (Option DeferredSlot)) (k : Nat) (h : ∀ x ∈ l, x ≠ none) : firstFree k l = none := by
  induction l generalizing k with
  | nil => rfl
  | cons a l ih =>
    cases a with
    | none => simp at h
    | some a => simp only [firstFree]; exact ih _ (fun x hx => h x (by simp [hx]))

theorem freeSlot_none (s : State) (h : ∀ i, i < 8 → s.slot i ≠ none) : s.freeSlot = none := by
  refine firstFree_none _ _ (fun x hx => ?_)
  obtain ⟨i, hi, rfl⟩ := List.getElem_of_mem hx
  have h8 : i < 8 := by simpa using hi
  have := h i h8
  simpa [State.slot, h8] using this

end Sys2Proof.Machine
end

