-- ==== Sys2Proof/Tests/Slice0.lean ====
section
/-! SUPPORT. Small tests: the ill-formed steps, worked cases of the spec, and for each statement a state and operands that
meet its hypotheses. -/

namespace Sys2Proof.Tests

set_option Elab.async false

open Sys2Proof Sys2Proof.Machine

/-! ## Ill-formed steps are refused -/

theorem test_wf_payload_too_long : (Instr.pointReport 1 (List.replicate 1014 0)).wf = false := by decide +kernel
theorem test_wf_payload_longest : (Instr.pointReport 1 (List.replicate 1013 0)).wf = true := by decide +kernel
theorem test_wf_unknown_code_known : (Instr.unknownCommand 1 0x10 1 []).wf = false := by decide +kernel
theorem test_wf_unknown_code : (Instr.unknownCommand 1 0x16 1 []).wf = true := by decide +kernel
theorem test_wf_moment : (Instr.settleEnd ⟨0, 1250000⟩).wf = false := by decide +kernel
theorem test_wf_moment_last : (Instr.delayWordTimeout ⟨0, 1249999⟩).wf = true := by decide +kernel
theorem test_wf_moment_of_bits : (Instr.checkerSyncGain 0 [] 1250000).wf = false := by decide +kernel

/-- More bits than a window holds. -/
theorem test_wf_too_many_bits :
    (Instr.syncLoss ⟨0, 0⟩ (List.replicate 1250001 true)).wf = false ∧
      (Instr.timeBaseTick (Vector.replicate 16 ⟨List.replicate 1250001 true, 0⟩)).wf = false := by
  generalize hn : 1250001 = n
  have h : rxFits (List.replicate n true) = false := by
    simp only [rxFits, List.length_replicate, ← hn, Config.windowBits]; decide
  constructor
  · simp only [Instr.wf, h, Bool.false_and]
  · simp [Instr.wf, LaneInput.wf, h]

/-! ## Worked cases of the spec -/

/-- Section 11.2. -/
theorem test_crc : crc16 [0x31, 0x32, 0x33, 0x34, 0x35, 0x36, 0x37, 0x38, 0x39] = 0x29B1 := by decide +kernel

/-- R5: the rotations of 110100. -/
theorem test_rotations :
    (List.range 6).map (rotation 6 0b110100) = [0b110100, 0b101001, 0b010011, 0b100110, 0b001101, 0b011010] := by
  decide +kernel

/-- R40. -/
theorem test_calibration : [1750, 1756, 1757, 30000].map (fun t => (delayUnits t, min (delayUnits t) 2000)) =
    [(140, 140), (140, 140), (141, 141), (2400, 2000)] := by decide +kernel

/-- Section 4.9: what is handed over for circuit 17, and the limits it is graded by. -/
def handed : Measured := ⟨12497500000, 9, 4, 4, 0, some 12345, [(-1829634, 9998)]⟩
def limits17 : GradeLimits := ⟨.verify, 9, 900, 1100, -260, some 971, some (-171), 14, 20, 15, 30⟩

theorem test_ordinary_pass :
    payloadErrors handed = 5 ∧ delayOf handed limits17 = some 974 ∧ meanLevel handed.lanes = some (-183) ∧
      gradeMeasured [] false handed limits17 = .pass := by decide +kernel

/-- Section 4.9: E, H, X give P. -/
theorem test_markers :
    [(9, 4, 4), (2, 2, 2), (2, 2, 4), (0, 0, 4), (7, 2, 4), (4294967295, 4, 4), (4294967295, 1, 4), (3, 0, 0)].map
        (fun t => let m : Measured := ⟨0, t.1, t.2.1, t.2.2, 0, none, []⟩; (payloadErrors m, foreignEcho m, markersMissed m)) =
      [(5, false, false), (0, false, false), (0, true, false), (0, true, false), (7, false, true),
        (4294967295, false, false), (4294967295, false, true), (3, false, false)] := by decide +kernel

/-- Section 4.9: B, L, P, K give the fault and the flag. -/
theorem test_error_limits :
    [(12497500000, 9, 12, 0), (12497500000, 9, 13, 0), (12497500000, 9, 0, 1), (1000000000, 9, 0, 0), (999999999, 9, 0, 0),
        (1248750000, 10, 0, 0), (1248750000, 10, 1, 0), (749998750000, 6, 749998, 0), (749998750000, 12, 0, 0),
        (1499997500000, 12, 1, 0), (0, 9, 0, 0)].map
        (fun t => let m : Measured := ⟨t.1, t.2.2.1, 0, 0, t.2.2.2, none, []⟩; (errorFault m t.2.1, berShort m t.2.1)) =
      [(false, false), (true, false), (true, false), (false, false), (false, true), (false, true), (true, false),
        (false, false), (false, true), (false, false), (false, true)] := by decide +kernel

/-- Section 7.8, up to the auto-hold: fail, success, level, next-eligible in ms. -/
def backoffCase : List (Bool × Nat) :=
  [(true, 0), (true, 14000), (false, 27000), (true, 29000), (false, 40000), (false, 41000), (false, 72000), (false, 73000),
    (false, 124000), (false, 125000), (false, 216000), (false, 217000)]

def node6 : Node := { Node.reset with level := 2, threshold := 2, autoHold := true }

theorem test_backoff :
    (backoffCase.foldl (fun (acc : Node × List (Nat × Nat × Nat × Nat)) r =>
      let x := if r.1 then acc.1.confirmed else acc.1.noLoop r.2
      (x, acc.2 ++ [(x.fails, x.successes, x.level, x.nextEligible)])) (node6, [])).2 =
    [(0, 1, 2, 0), (0, 0, 1, 0), (1, 0, 1, 0), (0, 1, 1, 0), (1, 0, 1, 0), (0, 0, 2, 61000), (1, 0, 2, 61000),
      (0, 0, 3, 113000), (1, 0, 3, 113000), (0, 0, 4, 205000), (1, 0, 4, 205000), (0, 0, 4, 205000)] := by decide +kernel

/-! ## Small states -/

/-- Started up: SYNCED, no request current, READY placed and sent. -/
def up : State :=
  { State.reset with
    amc := { State.reset.amc with current := none, link := .synced }
    mli := { State.reset.mli with startup := none } }

/-- One command waits in the receive buffer. -/
def cmd (s : State) (code : Byte) (p : List Byte) : State :=
  { s with mli := { s.mli with rxBuffer := [⟨kindCommand, code, 7, p⟩] } }

theorem cmd_takes (s : State) (code : Byte) (p : List Byte) (h : s.mli.startup = none) (ht : s.mli.tx.length < 56) :
    (cmd s code p).Takes code 7 p [] := ⟨h, ht, rfl⟩

theorem up_takes (code : Byte) (p : List Byte) : (cmd up code p).Takes code 7 p [] :=
  cmd_takes up code p rfl (by decide)

def def1 : Definition := { Definition.vacant with activate := ⟨6, 0b110100⟩, deactivate := ⟨6, 0b010110⟩ }

def place (c : Nat) (st : ProbeStatus) (point node : Nat) (rate : RateClass) (s : State) : State :=
  s.setCircuit c { Circuit.vacant with
    defState := .defined, status := st, definition := { def1 with accessPoint := point, farNode := node, rate := rate } }

def ctx (kind : ContextKind) : Context :=
  { circuitContext (place 5 .spot 9 3 .base up) 5 kind 0 none with soakTime := 10 }

/-- Engine 3 works in a state with a context. -/
def working (st : EngineState) (x : Context) (s : State) : State :=
  s.setEngine 3 { Engine.reset with state := st, context := some x }

def queued (k c : Nat) (s : State) : State := (place c .queued 9 3 .base s).setCls k { s.cls k with queue := [c] }

def running (s : State) : State := { s with campaign := { s.campaign with state := .running } }

/-! ## The arbiter's worked run (section 5.5) -/

def busy (s : State) (e : Nat) : State := s.setEngine e { Engine.reset with state := .offline }

def before : State :=
  let s := (running up)
  let s := [0, 1, 2, 3, 5, 8, 10, 11, 12, 13, 14, 15].foldl busy s
  let s := place 100 .queued 10 3 .base (place 101 .queued 11 6 .wide (place 102 .queued 20 4 .base s))
  let s := place 103 .queued 12 4 .base (place 110 .queued 13 4 .base (place 111 .queued 14 5 .base s))
  let s := place 130 .queued 15 7 .wide (place 120 .queued 16 8 .base s)
  let s := (s.setNode 3 { Node.reset with occupancy := 2 }).setNode 5 { Node.reset with nextEligible := 8000 }
  let s := s.setPoint 20 ⟨.outOfService, none⟩
  let s := (s.setCls 0 ⟨250, 8, 2, 0, [100, 101, 102, 103]⟩).setCls 1 ⟨500, 4, 1, 0, [110, 111]⟩
  let s := (s.setCls 2 ⟨1000, 4, 0, 0, [120]⟩).setCls 3 ⟨2000, 2, 1, 0, [130]⟩
  { s with priorityTurn := 0, spot := [.calibration 5 0], runDue := true }

theorem test_worked_run :
    let t := before.runArbiter
    t.classes.toList.map (fun k => (k.credits, k.queue)) = [(0, [100]), (0, [111]), (0, [120]), (1, [130])] ∧
      [110, 101, 103, 102].map (fun c => (t.circuit c).status) = [.active, .active, .active, .idle] ∧
      [13, 11, 12, 20].map (fun p => (t.point p).owner) = [some 4, some 6, some 9, none] ∧
      [4, 6].map (fun n => (t.node n).occupancy) = [2, 1] ∧ t.campaign.summary.launched = 3 ∧
      t.campaign.summary.notTested[4] = 1 ∧ t.priorityTurn = 0 ∧ t.standardTurn = 3 ∧
      (t.engine 7).state = .following ∧ t.spot = [.calibration 5 0] := by decide +kernel

/-! ## From reset to a command (log 24) -/

def resetAnswer : List Byte := 0x5A :: [1, 0, 4, 0] ++ crcBytes [1, 0, 4, 0]

def runAll : List Instr → State → Option State
  | [], s => some s
  | c :: rest, s =>
    match exec c s with
    | .next t => runAll rest t
    | _ => none

theorem test_from_reset :
    (runAll [.requestSent, .matrixAnswer resetAnswer, .ready, .frameReceived (Frame.bytes ⟨1, 0x61, 7, []⟩),
      .matrixResync 7 []] State.reset).map (fun t => (t.amc.link, t.slotsHeld, t.mli.tx.map TxRecord.code)) =
      some (.unsynced, 1, [0x80]) := by decide +kernel

/-- R30: the sequence starts with ones, a code with its first bit. -/
theorem test_bit_times :
    (List.range 3).map (fun n => (Generator.start.run .test n).output .test 0) = [some true, some true, some true] ∧
      (List.range 7).map (fun n =>
          let src : Source := .code ⟨6, 0b110100⟩; (Generator.start.run src n).output src 0) =
        [some true, some true, some false, some true, some false, some false, some true] := by decide +kernel

/-- A lane in sync with its own generator, 31 bits behind it, a marker due. -/
def looped : Engine :=
  { Engine.reset with
    lane := { Lane.quiet with
      gen := { Generator.start.run .test 31 with markersDue := 1 }
      checker := ⟨.soak, true, Generator.start.reg, 31, 0, 0, 0, false⟩ } }

/-- R33, R34: the marker leaves inverted; where it arrives inverted it is a hit, else a miss, and it counts in X once. -/
theorem test_marker_arrives :
    let sent := (looped.lane.gen.output .test 0).getD false
    let h := looped.sends .test 1
    sent = !looped.lane.gen.reg.getLsbD 30 ∧
      (let m := (h.receive [sent]).meas; (m.bitsB, m.errorsE, m.expectedX, m.hitsH) = (1, 1, 1, 1)) ∧
      (let m := (h.receive [!sent]).meas; (m.bitsB, m.errorsE, m.expectedX, m.hitsH) = (1, 0, 1, 0)) ∧
      (h.receive [sent]).lane.gen.placed = [] := by decide +kernel

/-- R38: the next bit is the word's first, and a checker that knows its place counts no error. -/
theorem test_word_arrives :
    let g := { looped with delayWord := 1#64 <<< 63, lane := { looped.lane with gen := { looped.lane.gen with wordLeft := 64 } } }
    let h := g.sends .test 1
    g.lane.gen.output .test g.delayWord = some true ∧
      (let m := (h.receive [true]).meas; (m.bitsB, m.errorsE, m.expectedX) = (1, 0, 0)) ∧
      (let m := (h.receive [false]).meas; (m.bitsB, m.errorsE, m.expectedX) = (1, 1, 0)) ∧
      h.lane.gen.wordLeft = 63 ∧ h.lane.gen.markersDue = 1 := by decide +kernel

/-! ## States and operands that meet the hypotheses of the statements -/

theorem test_meets_StepRunsFrontCommand : ({ up with pending := [.ready] } : State).pending = .ready :: [] := rfl

theorem test_meets_EveryCommandAnswersNext : State.reset.pending = [] := rfl

/-- Right after reset, a step waiting. -/
def fresh : State := { State.reset with pending := [.requestSent] }

theorem test_meets_invariants :
    (LinksInRange fresh ∧ ClassesInRange fresh ∧ NodesInRange fresh ∧ SpotInRange fresh ∧ TransmitInRange fresh) ∧
      ∃ t, step fresh = .next t := by
  refine ⟨⟨?_, ?_, ?_, ?_, ?_⟩, _, rfl⟩
  · unfold LinksInRange; decide +kernel
  · unfold ClassesInRange PacingClass.inRange; decide +kernel
  · unfold NodesInRange Node.inRange; decide +kernel
  · unfold SpotInRange; decide +kernel
  · simp [TransmitInRange, State.slotsInQueue, fresh, State.reset, State.cold, Mli.reset]

/-- No circuit is held, no point owned, and no engine asks. -/
theorem test_meets_TablesStayAccounted : Accounted fresh := by
  have hc (c : Nat) : fresh.circuit c = Circuit.vacant := by
    simp only [fresh, State.circuit, State.reset, State.cold, Vector.getElem?_replicate]; split <;> rfl
  have hg (e : Nat) : fresh.engine e = Engine.reset := by
    simp only [fresh, State.engine, State.reset, State.cold, Vector.getElem?_replicate]; split <;> rfl
  have hp (p : Nat) : fresh.point p = Point.reset := by
    simp only [fresh, State.point, State.reset, State.cold, Vector.getElem?_replicate]; split <;> rfl
  have he : fresh.engines.toList = List.replicate 16 Engine.reset := by decide +kernel
  have hq : fresh.queuedCircuits = [] := by decide +kernel
  refine ⟨fun c => ?_, ⟨by decide +kernel, by decide +kernel, fun o ho => nomatch ho⟩, ⟨fun p e _ h => ?_, fun e x _ h => ?_⟩,
    fun e _ => ?_, fun e i h => (nomatch (show SpotEntry.calibration e i ∈ [] from h)), by decide +kernel, fun r hr e h => ?_⟩
  · rw [hc c]
    refine ⟨?_, fun _ => rfl, by decide, by decide⟩
    rw [State.holdings, hq, he]
    rfl
  · rw [hp p] at h; cases h
  · rw [hg e] at h; cases h
  · rw [hg e]
    exact ⟨⟨by decide, nofun, nofun, fun h => (h rfl).elim, fun h => (h rfl).elim, fun h => (h rfl).elim, nofun⟩, nofun, nofun⟩
  · obtain rfl : r = Request.ofReset := by simpa [fresh, State.requests, State.reset, State.cold, Amc.reset] using hr
    cases h

theorem test_meets_reports :
    ((cmd up 0x41 []).Takes 0x41 7 [] [] ∧ (cmd up 0x41 [0]).Takes 0x41 7 [0] []) ∧
      ((cmd up 0x43 []).Takes 0x43 7 [] [] ∧ (cmd up 0x36 []).Takes 0x36 7 [] [] ∧ (cmd up 0x52 []).Takes 0x52 7 [] [] ∧
        (cmd up 0x70 []).Takes 0x70 7 [] []) ∧
      ((cmd up 0x23 [15]).Takes 0x23 7 [15] [] ∧ (cmd up 0x23 [16]).Takes 0x23 7 [16] []) ∧
      ((cmd up 0x11 [7, 0xF0, 16]).Takes 0x11 7 [7, 0xF0, 16] [] ∧ rd16 [7, 0xF0, 16] 0 + rd8 [7, 0xF0, 16] 2 = 2048) :=
  ⟨⟨up_takes _ _, up_takes _ _⟩, ⟨up_takes _ _, up_takes _ _, up_takes _ _, up_takes _ _⟩, ⟨up_takes _ _, up_takes _ _⟩,
    up_takes _ _, by decide⟩

/-- The second clause is met at first + count = 2049; the first at counts 0 and 17. -/
theorem test_meets_BadRangeRefusesTheCommand :
    (cmd up 0x11 [7, 0xF1, 16]).Takes 0x11 7 [7, 0xF1, 16] [] ∧ 2048 < rd16 [7, 0xF1, 16] 0 + rd8 [7, 0xF1, 16] 2 ∧
      rd8 [0, 0, 0] 2 = 0 ∧ rd8 [0, 0, 17] 2 = 17 := ⟨up_takes _ _, by decide⟩

/-- A sound definition entry. -/
def entry (node cls : Byte) : List Byte :=
  [9, node, 0, 6, 0, 0x34, 6, 0, 0x16, cls, 9, 0, 0, 10, 0, 1, 0, 0, 0xFE, 0x70, 0] ++ List.replicate 16 0

/-- An entry whose far node is out of range. -/
def unsound : List Byte := entry 64 0

def held (n : Nat) (s : State) : State := s.setNode n { s.node n with state := .held }

theorem test_meets_DefineOnVacantRecord :
    let p := [7, 0xFF, 1] ++ entry 63 3
    (cmd up 0x10 p).Takes 0x10 7 p [] ∧ rd8 p 2 = 1 ∧ p.length = 40 ∧ rd16 p 0 = 2047 ∧ (defAt p 0).sound = true ∧
      (up.circuit 2047).defState = .vacant ∧ (up.circuit 2047).status = .idle :=
  ⟨up_takes _ _, by decide +kernel⟩

theorem test_meets_DefineStoresEveryRecord :
    let p := [0, 5, 2] ++ entry 3 0 ++ entry 3 0
    (cmd (queued 0 5 up) 0x10 p).Takes 0x10 7 p [] ∧ rd8 p 2 = 2 ∧ p.length = 3 + 37 * 2 ∧
      (∀ k, k < 2 → (defAt p k).sound = true ∧
        (((queued 0 5 up).circuit (5 + k)).status = .idle ∨ ((queued 0 5 up).circuit (5 + k)).status = .queued)) :=
  ⟨cmd_takes _ _ _ rfl (by decide +kernel), by decide +kernel⟩

/-- The three clauses: at a HELD node, with another class, with the same class. -/
theorem test_meets_DefineMovesAQueuedCircuit :
    let p := [0, 5, 1] ++ entry 3 1
    ((cmd (queued 0 5 up) 0x10 p).Takes 0x10 7 p [] ∧ p.length = 40 ∧ (defAt p 0).sound = true ∧
        ((queued 0 5 up).circuit 5).defState ≠ .vacant ∧ ((queued 0 5 up).circuit 5).status = .queued) ∧
      ((held 3 (queued 0 5 up)).node 3).state = .held ∧ ((queued 0 5 up).node 3).state ≠ .held ∧
      ((queued 0 5 up).circuit 5).definition.pacingClass ≠ 1 :=
  ⟨⟨cmd_takes _ _ _ rfl (by decide +kernel), by decide +kernel⟩, by decide +kernel⟩

theorem test_meets_DefineIsAllOrNothing :
    let s := place 6 .active 9 3 .base up
    let p := [0, 5, 2] ++ entry 3 0 ++ entry 3 0
    let q := [0, 5, 2] ++ entry 3 0 ++ unsound
    (cmd s 0x10 p).Takes 0x10 7 p [] ∧ (cmd s 0x10 q).Takes 0x10 7 q [] ∧ (defAt p 0).sound = true ∧ (s.circuit 5).status = .idle ∧
      (defAt q 1).sound = false ∧ (defAt p 1).sound = true ∧ (s.circuit 6).status = .active :=
  ⟨cmd_takes _ _ _ rfl (by decide +kernel), cmd_takes _ _ _ rfl (by decide +kernel), by decide +kernel⟩

theorem test_meets_SoundDefinitionHasSoundCodes : (readDef (entry 3 0) 0).sound = true := by decide +kernel

/-- Class entries withdrawn by a define at a HELD node, a retire and a suspend; the last one ends a RUNNING campaign, and a
PAUSED one stays. -/
def withdrawals : List (Byte × List Byte × (List Byte → Instr)) :=
  [(0x10, [0, 5, 1] ++ entry 3 1, .circuitDefine 7), (0x12, [0, 5, 1], .circuitRetire 7), (0x13, [0, 5, 1], .circuitSuspend 7)]

theorem test_withdrawals_end_the_campaign :
    [running, fun s => { s with campaign := { s.campaign with state := .paused } }].map (fun st => withdrawals.map (fun w =>
      (runAll [w.2.2 w.2.1] (cmd (st (held 3 (queued 0 5 up))) w.1 w.2.1)).map (fun t =>
        (t.campaign.state, t.campaign.summary.notTested.toList, t.mli.tx.map TxRecord.code)))) =
      [[some (.idle, [1, 0, 0, 0, 0], [0x10, 0x82]), some (.idle, [0, 0, 1, 0, 0], [0x12, 0x82]),
          some (.idle, [0, 0, 1, 0, 0], [0x13, 0x82])],
        [some (.paused, [1, 0, 0, 0, 0], [0x10]), some (.paused, [0, 0, 1, 0, 0], [0x12]),
          some (.paused, [0, 0, 1, 0, 0], [0x13])]] := by decide +kernel

theorem test_meets_RetireMakesTheRangeVacant :
    let s := place 6 .spot 9 3 .base (queued 0 5 up)
    (cmd s 0x12 [0, 5, 1]).Takes 0x12 7 [0, 5, 1] [] ∧ (s.circuit 5).status = .queued ∧ (s.circuit 6).status = .spot ∧
      s.campaign.summary.notTested[2] ≤ 4294967295 := ⟨cmd_takes _ _ _ rfl (by decide +kernel), by decide +kernel⟩

/-- A range that passes, one with a VACANT record, one with a waiting spot probe. -/
theorem test_meets_SuspendKeepsTheRecords :
    let s := place 6 .spot 9 3 .base (queued 0 5 up)
    let u := { s with spot := [.probe 6 none] }
    ((cmd s 0x13 [0, 5, 2]).Takes 0x13 7 [0, 5, 2] [] ∧ (cmd s 0x13 [0, 6, 2]).Takes 0x13 7 [0, 6, 2] [] ∧
        (cmd u 0x13 [0, 5, 2]).Takes 0x13 7 [0, 5, 2] []) ∧
      (s.circuit 5).defState = .defined ∧ (s.circuit 6).defState = .defined ∧ s.spot = [] ∧
      (s.circuit 7).defState = .vacant ∧ (u.circuit 6).status = .spot ∧ SpotEntry.probe 6 none ∈ u.spot :=
  ⟨⟨cmd_takes _ _ _ rfl (by decide +kernel), cmd_takes _ _ _ rfl (by decide +kernel), cmd_takes _ _ _ rfl (by decide +kernel)⟩,
    by decide +kernel⟩

theorem test_suspend :
    let s := place 6 .spot 9 3 .base (queued 0 5 up)
    (runAll [.circuitSuspend 7 [0, 5, 2]] (cmd s 0x13 [0, 5, 2])).map
        (fun t => ([5, 6].map (fun c => ((t.circuit c).defState, (t.circuit c).status)), t.campaign.summary.notTested[2])) =
      some ([(.suspended, .idle), (.suspended, .spot)], 1) := by decide +kernel

theorem test_meets_ResumeAndBaselineClear :
    let s := place 5 .idle 9 3 .base up
    ((cmd s 0x14 [0, 5, 1]).Takes 0x14 7 [0, 5, 1] [] ∧ (cmd s 0x15 [0, 5, 1]).Takes 0x15 7 [0, 5, 1] []) ∧
      (s.circuit 5).defState = .defined ∧ (s.circuit 6).defState = .vacant :=
  ⟨⟨cmd_takes _ _ _ rfl (by decide +kernel), cmd_takes _ _ _ rfl (by decide +kernel)⟩, by decide +kernel⟩

theorem test_meets_engine_commands :
    let s := (working .soak (ctx .spot) up).setEngine 4 { Engine.reset with state := .offline }
    ((cmd s 0x20 [4]).Takes 0x20 7 [4] [] ∧ (cmd s 0x21 [15]).Takes 0x21 7 [15] [] ∧ (cmd s 0x21 [3]).Takes 0x21 7 [3] []) ∧
      (s.engine 4).state = .offline ∧ (s.engine 15).state = .idle ∧ (s.engine 3).state = .soak ∧ (16 : Byte).toNat = 16 :=
  ⟨⟨cmd_takes _ _ _ rfl (by decide +kernel), cmd_takes _ _ _ rfl (by decide +kernel),
    cmd_takes _ _ _ rfl (by decide +kernel)⟩, by decide +kernel⟩

/-- Slots 0 and 1 wait for a calibration of engine 15 and a COMPLETE probe of circuit 450. -/
def waitingSlots (s : State) : State := (s.takeSlot 0 ⟨0x22, 7⟩ (.calibration 15)).takeSlot 1 ⟨0x38, 8⟩ (.spotProbe 450)

def pinned15 : State := { waitingSlots up with spot := [.calibration 15 0, .probe 450 (some 1), .calibration 9 2] }

theorem repliesWait_pinned15 : RepliesWait { pinned15 with spot := [.calibration 15 0, .probe 450 (some 1)] } := by
  refine ⟨by decide +kernel, fun i hi => ?_⟩
  have h : i = 0 ∨ i = 1 := by simpa [entrySlot] using hi
  rcases h with rfl | rfl <;> exact ⟨_, rfl, rfl⟩

/-- The calibration of engine 15 is answered as the engine goes OFFLINE. -/
theorem test_disable_answers :
    (runAll [.engineDisable 7 [15]] (cmd pinned15 0x21 [15])).map (fun t =>
      (t.spot, t.runDue, t.mli.tx.map (fun r => (r.status, r.payload)))) =
      some ([.probe 450 (some 1), .calibration 9 2], true, [(.ok, []), (.calFailed, [15, 0, 0, 0, 0, 0, 0, 0])]) := by
  decide +kernel

/-- All eight slots held. -/
def fullSlots (s : State) : State :=
  { s with mli := { s.mli with slots := Vector.replicate 8 (some ⟨0x61, 7, .resync, 0, false⟩) } }

def fullSpot (s : State) : State := { s with spot := List.replicate 8 (.calibration 0 0) }

theorem test_meets_CalibrateQueuesTheEntry :
    ((cmd up 0x22 [15]).Takes 0x22 7 [15] [] ∧ (up.engine 15).state ≠ .offline ∧ (up.engine 15).disablePending = false ∧
        up.amc.link = .synced ∧ up.slot 0 = none ∧ up.spot.length < 8) ∧
      (∀ i, i < 8 → (fullSlots up).slot i ≠ none) ∧ (fullSpot up).spot.length = 8 ∧ State.reset.amc.link = .unsynced :=
  ⟨⟨up_takes _ _, by decide +kernel⟩, by decide +kernel⟩

/-- A start that picks every DEFINED circuit: all windows off, no span, no node. -/
def startPayload : List Byte :=
  [0] ++ be16 500 ++ be16 3000 ++ [3] ++ be16 1000 ++ be16 1000 ++ be16 200 ++ [5] ++ be16 20 ++ be16 15 ++ be16 30 ++ [0, 1] ++
    be32 0 ++ (List.replicate 4 [0, 1, 0, 0]).flatten ++ [0, 0]

theorem test_meets_StartQueuesThePickedCircuits :
    (cmd up 0x30 startPayload).Takes 0x30 7 startPayload [] ∧ startLengthOk startPayload = true ∧ up.campaign.state = .idle ∧
      campaignKindOf (rd8 startPayload 0) = some .verify ∧ noticeModeOf (rd8 startPayload 20) = some .nonPass ∧
      selectionSound startPayload = true ∧ up.enginesFor (carriedSelection startPayload) = true :=
  ⟨up_takes _ _, by decide +kernel⟩

theorem test_start :
    (runAll [.campaignStart 7 startPayload] (cmd (place 5 .idle 9 3 .base up) 0x30 startPayload)).map
      (fun t => (t.campaign.state, (t.cls 0).queue, (t.circuit 5).status, (t.cls 0).credits, t.runDue)) =
      some (.running, [5], .queued, 8, true) := by decide +kernel

theorem test_meets_AddTakesTheNumbersInOrder :
    ((cmd (running up) 0x31 [1, 7, 0xFF]).Takes 0x31 7 [1, 7, 0xFF] [] ∧ (cmd up 0x31 []).Takes 0x31 7 [] [] ∧
        (cmd up 0x31 [33]).Takes 0x31 7 [33] [] ∧ (cmd up 0x31 [1, 8, 0]).Takes 0x31 7 [1, 8, 0] []) ∧
      rd16 [1, 7, 0xFF] 1 = 2047 ∧ (running up).campaign.state = .running ∧ up.campaign.state = .idle :=
  ⟨⟨cmd_takes _ _ _ rfl (by decide +kernel), up_takes _ _, up_takes _ _, up_takes _ _⟩, by decide +kernel⟩

/-- No count, a number missing, counts 0 and 33, a number of 2048, and a good payload in IDLE. -/
theorem test_add_refusals :
    [[], [1], [1, 0, 0, 0], [0], [33], [1, 8, 0], [1, 7, 0xFF]].map (fun p =>
      (runAll [.campaignAdd 7 p] (cmd up 0x31 p)).map (fun t => t.mli.tx.map TxRecord.status)) =
      ([.badLength, .badLength, .badLength, .badField, .badField, .badField, .noCampaign] : List Status).map
        (fun st => some [st]) := by decide +kernel

theorem test_meets_AddDispositions :
    [up, up.setCircuit 5 { Circuit.vacant with defState := .suspended }, place 5 .queued 9 3 .base up,
        place 5 .active 9 3 .base up, held 3 (place 5 .idle 9 3 .base up), place 5 .idle 9 3 .base up].map
          (fun s => s.disposition 5) =
      [.notDefined, .suspended, .duplicate, .busy, .held, .appended] := by decide +kernel

def inState (st : CampaignState) (s : State) : State := { s with campaign := { s.campaign with state := st } }

theorem test_meets_PauseAndResume :
    ((cmd (inState .paused up) 0x32 []).Takes 0x32 7 [] [] ∧ (cmd (inState .paused up) 0x33 []).Takes 0x33 7 [] []) ∧
      (inState .paused up).campaign.inFlight = 0 ∧ (∀ k, k < 4 → ((inState .paused up).cls k).queue = []) ∧
      ((inState .paused (queued 0 5 up)).cls 0).queue ≠ [] :=
  ⟨⟨cmd_takes _ _ _ rfl (by decide +kernel), cmd_takes _ _ _ rfl (by decide +kernel)⟩, by decide +kernel⟩

theorem test_meets_CancelAndDeadlineEmptyTheQueues :
    let s := running (queued 0 5 up)
    ((cmd s 0x34 []).Takes 0x34 7 [] [] ∧ s.campaign.state = .running ∧ s.campaign.inFlight = 0) ∧
      ({ s.campaign with deadline := some 0 } : Campaign).deadline = some 0 ∧
      ∀ i : Fin 5, s.campaign.summary.notTested[i] ≤ 4294967295 :=
  ⟨⟨cmd_takes _ _ _ rfl (by decide +kernel), by decide +kernel⟩, by decide +kernel⟩

/-- What a step leaves of the campaign, and the records that went out. -/
structure CampaignLeft where
  state   : CampaignState
  cause   : EndCause
  records : List (Byte × Status)
  deriving DecidableEq

def campaignLeft (c : Instr) (s : State) : Option CampaignLeft :=
  (runAll [c] s).map (fun t => ⟨t.campaign.state, t.campaign.endCause, t.mli.tx.map (fun r => (r.code, r.status))⟩)

/-- A campaign drains with one probe in flight. -/
def draining : State :=
  let s := inState .draining up
  { s with campaign := { s.campaign with inFlight := 1, endCause := .deadline } }

/-- CANCEL and ABORT in IDLE, in DRAINING and in RUNNING. -/
theorem test_cancel_and_abort :
    [up, draining, running (queued 0 5 up)].map (fun s => campaignLeft (.campaignCancel 7 []) (cmd s 0x34 [])) =
        [some ⟨.idle, .none, [(0x34, .noCampaign)]⟩, some ⟨.draining, .deadline, [(0x34, .ok)]⟩,
          some ⟨.idle, .cancelled, [(0x34, .ok), (0x82, .ok)]⟩] ∧
      [up, draining, running (queued 0 5 up)].map (fun s => campaignLeft (.campaignAbort 7 []) (cmd s 0x35 [])) =
        [some ⟨.idle, .none, [(0x35, .noCampaign)]⟩, some ⟨.draining, .aborted, [(0x35, .ok)]⟩,
          some ⟨.idle, .aborted, [(0x35, .ok), (0x82, .ok)]⟩] := by decide +kernel

theorem test_meets_AbortShortensTheProbes :
    let s := running (working .soak (ctx .campaign) up)
    (cmd s 0x35 []).Takes 0x35 7 [] [] ∧ s.campaign.state = .running ∧ (s.engine 3).context = some (ctx .campaign) ∧
      (ctx .campaign).kind = .campaign ∧ (ctx .campaign).aborted = false ∧ (s.engine 3).state = .soak :=
  ⟨cmd_takes _ _ _ rfl (by decide +kernel), by decide +kernel⟩

theorem test_meets_pacing :
    ((cmd up 0x37 [3, 0, 1, 32]).Takes 0x37 7 [3, 0, 1, 32] [] ∧ rd8 [3, 0, 1, 32] 0 = 3 ∧ rd8 [4, 0, 1, 1] 0 = 4) ∧
      (let s := (running up).setCls 3 ⟨2000, 2, 1, 2000, []⟩;
        s.campaign.state = .running ∧ (s.cls 3).interval ≤ (s.cls 3).timer ∧ (s.cls 3).credits < (s.cls 3).quota) ∧
      (let s := (running up).setCls 3 ⟨2000, 2, 2, 2000, []⟩;
        (s.cls 3).interval ≤ (s.cls 3).timer ∧ (s.cls 3).quota ≤ (s.cls 3).credits) ∧
      (let s := up.setNode 63 { Node.reset with waitPending := true };
        (s.node 63).waitPending = true ∧ (s.node 63).nextEligible ≤ s.now) :=
  ⟨⟨up_takes _ _, by decide +kernel⟩, by decide +kernel⟩

/-- An ACCEPT probe, and a COMPLETE probe that takes slot 0. -/
theorem test_meets_ProbeQueuesTheEntry :
    let s := place 5 .idle 9 3 .base up
    ((cmd s 0x38 [0, 5, 0]).Takes 0x38 7 [0, 5, 0] [] ∧ (cmd s 0x38 [0, 5, 1]).Takes 0x38 7 [0, 5, 1] []) ∧
      (s.circuit 5).defState = .defined ∧ (s.circuit 5).status = .idle ∧ (s.node 3).state ≠ .held ∧
      (s.point 9).service = .inService ∧ s.spot.length < 8 ∧ s.slot 0 = none :=
  ⟨⟨cmd_takes _ _ _ rfl (by decide +kernel), cmd_takes _ _ _ rfl (by decide +kernel)⟩, by decide +kernel⟩

theorem test_meets_points_and_nodes :
    ((cmd up 0x40 [255, 0]).Takes 0x40 7 [255, 0] [] ∧ (cmd up 0x40 [255, 1]).Takes 0x40 7 [255, 1] [] ∧
        (cmd up 0x40 [255, 2]).Takes 0x40 7 [255, 2] []) ∧
      ((cmd up 0x42 [63, 9, 16, 1]).Takes 0x42 7 [63, 9, 16, 1] [] ∧ (cmd up 0x42 [64, 9, 16, 1]).Takes 0x42 7 [64, 9, 16, 1] []) ∧
      ((cmd up 0x44 [63]).Takes 0x44 7 [63] [] ∧ (cmd up 0x44 [64]).Takes 0x44 7 [64] []) ∧
      ((cmd up 0x45 [63]).Takes 0x45 7 [63] [] ∧ (cmd up 0x45 [64]).Takes 0x45 7 [64] []) ∧
      (up.node 63).state = .active ∧ ((held 63 up).node 63).state = .held :=
  ⟨⟨up_takes _ _, up_takes _ _, up_takes _ _⟩, ⟨up_takes _ _, up_takes _ _⟩, ⟨up_takes _ _, up_takes _ _⟩,
    ⟨up_takes _ _, up_takes _ _⟩, by decide +kernel⟩

/-- Section 7.8, the queues of the hold. -/
theorem test_hold :
    let s := place 410 .queued 9 6 .base (place 411 .queued 9 2 .base (place 412 .queued 9 6 .base (place 450 .spot 9 6 .base up)))
    let s := running { s.setCls 1 { s.cls 1 with queue := [410, 411, 412] } with spot := [.probe 450 none, .calibration 9 0] }
    (runAll [.nodeHold 7 [6]] (cmd s 0x44 [6])).map
      (fun t => ((t.cls 1).queue, t.spot, [410, 411, 450].map (fun c => (t.circuit c).status), t.mli.tx.map TxRecord.code)) =
      some ([411], [.calibration 9 0], [.idle, .queued, .idle], [0x44, 0x81, 0x84]) := by decide +kernel

/-- The last class entry leaves: a deferred answer, the notice, and the campaign's end. -/
def holdable : State :=
  let s := place 450 .spot 9 6 .base (running ((place 410 .queued 9 6 .base up).setCls 1 ⟨500, 4, 0, 0, [410]⟩))
  { waitingSlots s with spot := [.calibration 15 0, .probe 450 (some 1)] }

theorem test_meets_HoldRemovesTheNodesWork :
    holdable.mli.tx.length + 1 + 1 + 1 < 48 ∧ holdable.queuedCircuits.countP (fun c => (holdable.circuit c).definition.farNode == 6) = 1 ∧
      (runAll [.nodeHold 7 [6]] (cmd holdable 0x44 [6])).map
        (fun t => (t.campaign.state, t.campaign.summary.notTested[0], t.mli.tx.map (fun r => (r.code, r.status)))) =
        some (.idle, 1, [(0x44, .ok), (0x38, .nodeHeld), (0x84, .ok), (0x82, .ok)]) := by decide +kernel

theorem repliesWait_holdable : RepliesWait holdable := by
  refine ⟨by decide +kernel, fun i hi => ?_⟩
  have h : i = 0 ∨ i = 1 := by simpa [entrySlot, holdable] using hi
  rcases h with rfl | rfl <;> exact ⟨_, rfl, rfl⟩

def loop5 : OpenLoop := ⟨5, 3, 9, ⟨6, 0b110100⟩, ⟨6, 0b010110⟩, 0, 5⟩

def standing : State := { place 5 .openLoop 9 3 .base up with openLoops := [loop5] }

theorem test_meets_open_loop_commands :
    ((cmd standing 0x50 [0, 5]).Takes 0x50 7 [0, 5] [] ∧ (cmd standing 0x51 [0, 5]).Takes 0x51 7 [0, 5] []) ∧
      (standing.circuit 5).status ≠ .active ∧ standing.openLoops.find? (fun q => q.circuit == 5) = some loop5 ∧
      loop5.farNode < 64 ∧ SpotEntry.releaseOnly 5 ∉ standing.spot ∧ (standing.node 3).state ≠ .held ∧
      ((held 3 standing).node 3).state = .held ∧ standing.spot.length < 8 ∧ (fullSpot standing).spot.length = 8 :=
  ⟨⟨cmd_takes _ _ _ rfl (by decide +kernel), cmd_takes _ _ _ rfl (by decide +kernel)⟩, by decide +kernel⟩

theorem test_meets_ChecksAreMadeInOrder :
    let s := place 5 .idle 9 3 .base up
    ((cmd (running up) 0x30 startPayload).Takes 0x30 7 startPayload [] ∧ (cmd s 0x38 [0, 5, 1]).Takes 0x38 7 [0, 5, 1] [] ∧
        (cmd standing 0x51 [0, 6]).Takes 0x51 7 [0, 6] []) ∧
      (running up).campaign.state ≠ .idle ∧ startLengthOk startPayload = true ∧
      startLengthOk (startPayload.dropLast ++ [1]) = false ∧ (busy up 0).enginesFor (carriedSelection startPayload) = true ∧
      (∀ i, i < 8 → (fullSlots s).slot i ≠ none) ∧ (fullSpot s).spot.length = 8 ∧
      (∀ o ∈ standing.openLoops, o.circuit ≠ 6) ∧
      ({ up with engines := Vector.replicate 16 { Engine.reset with state := .offline } } : State).enginesFor
        (carriedSelection startPayload) = false :=
  ⟨⟨cmd_takes _ _ _ rfl (by decide +kernel), cmd_takes _ _ _ rfl (by decide +kernel),
    cmd_takes _ _ _ rfl (by decide +kernel)⟩, by decide +kernel⟩

theorem test_meets_matrix_commands :
    ((cmd up 0x60 [0, 100, 3, 0xE8]).Takes 0x60 7 [0, 100, 3, 0xE8] [] ∧ (cmd up 0x60 []).Takes 0x60 7 [] []) ∧
      (cmd up 0x61 []).Takes 0x61 7 [] [] ∧ (∀ e, e < 16 → (up.engine e).state.active = false) ∧ up.slot 0 = none ∧
      ((working .soak (ctx .spot) up).engine 3).state.active = true ∧ (∀ i, i < 8 → (fullSlots up).slot i ≠ none) :=
  ⟨⟨up_takes _ _, up_takes _ _⟩, up_takes _ _, by decide +kernel⟩

/-- A request of engine 3 is current. -/
def asked (op : MatrixOp) (s : State) : State :=
  { s with amc := { s.amc with current := some ⟨⟨op, some 9, some 8, .engine 3⟩, 6, 0, some 0⟩ } }

/-- The three completions of the request of engine 3. -/
theorem completes (op : MatrixOp) (s : State) (h : s.amc.rx = []) :
    let q : CurrentRequest := ⟨⟨op, some 9, some 8, .engine 3⟩, 6, 0, some 0⟩
    Completes (asked op s) (.matrixAnswer (answerFrame 1 6 (BitVec.ofNat 8 op.byte) 0)) q .done ∧
      Completes (asked op s) (.matrixAnswer (answerFrame 2 6 (BitVec.ofNat 8 op.byte) (BitVec.ofNat 8 Reason.busy.byte))) q
        (.refused .busy) ∧
      Completes (asked op s) .matrixTimeout q .timeout :=
  ⟨⟨rfl, h, 6, rfl, rfl⟩, ⟨rfl, h, 6, rfl, rfl⟩, rfl, rfl, 0, rfl, Nat.zero_le _⟩

/-- A completion by its number. -/
def completion : Fin 3 → MatrixOp → Instr
  | 0, op => .matrixAnswer (answerFrame 1 6 (BitVec.ofNat 8 op.byte) 0)
  | 1, op => .matrixAnswer (answerFrame 2 6 (BitVec.ofNat 8 op.byte) (BitVec.ofNat 8 Reason.busy.byte))
  | 2, _ => .matrixTimeout

/-- What a completion leaves of engine 3's request: its state, circuit 5's status, point 9, the totals in the open loop
list, the records that went out. -/
structure Left where
  state   : EngineState
  status  : ProbeStatus
  point   : Point
  totals  : List Nat
  records : List (Byte × Status)
  deriving DecidableEq

def outcome (k : Fin 3) (op : MatrixOp) (s : State) : Option Left :=
  (runAll [completion k op] (asked op s)).map (fun t =>
    ⟨(t.engine 3).state, (t.circuit 5).status, t.point 9, t.openLoops.map OpenLoop.releaseTotal,
      t.mli.tx.map (fun r => (r.code, r.status))⟩)

def locked (s : State) : State := s.setPoint 9 ⟨.inService, some 3⟩

/-- Late answer, DONE for a CONNECT, a LOOP_PORT and a DISCONNECT. -/
theorem test_meets_AnswersReachTheEngine :
    let s := asked .connect (working .connecting (ctx .spot) up)
    s.amc.rx = [] ∧ (s.amc.current.map CurrentRequest.seq) = some 6 ∧ (5 : Byte).toNat ≠ 6 ∧
      (s.engine 3).context = some (ctx .spot) ∧ (ctx .spot).rate = .base ∧ (ctx .spot).accessPoint = some 9 ∧
      ((asked .loopPort (working .calibrating (ctx .calibration) up)).engine 3).context = some (ctx .calibration) ∧
      outcome 0 .disconnect (locked (working .disconnecting (ctx .spot) (place 5 .idle 9 3 .base up))) =
        some ⟨.idle, .idle, ⟨.inService, none⟩, [], []⟩ ∧
      (let x := { ctx .calibration with slot := some 0, calDelay := some 140 };
        let s := (working .disconnecting x up).takeSlot 0 ⟨0x22, 7⟩ (.calibration 3);
        x.kind = .calibration ∧ (s.slot 0).map DeferredSlot.placed = some false ∧
          outcome 0 .disconnect s = some ⟨.idle, .idle, ⟨.inService, none⟩, [], [(0x22, .ok)]⟩) := by
  decide +kernel

/-- REFUSED and TIMEOUT of a CONNECT, for a spot probe and a RELEASE_ONLY probe; of a LOOP_PORT. -/
theorem test_meets_RefusedConnectBlocksTheProbe :
    let s := locked (working .connecting (ctx .spot) (place 5 .spot 9 3 .base up))
    let r := locked (working .connecting { ctx .releaseOnly with releaseTotal := some 5 } (place 5 .active 9 3 .base up))
    let c := (working .calibrating { ctx .calibration with slot := some 0, rate := .base } up).takeSlot 0 ⟨0x22, 7⟩ (.calibration 3)
    (s.engine 3).disablePending = false ∧ (ctx .spot).circuit = some 5 ∧ (ctx .spot).farNode = some 3 ∧
      (ctx .calibration).calDelay = none ∧
      outcome 1 .connect s = some ⟨.idle, .idle, ⟨.outOfService, none⟩, [], [(0x85, .ok), (0x81, .ok)]⟩ ∧
      outcome 2 .connect s = some ⟨.disconnecting, .idle, ⟨.inService, some 3⟩, [], [(0x85, .ok), (0x81, .ok)]⟩ ∧
      outcome 1 .connect r = some ⟨.idle, .openLoop, ⟨.outOfService, none⟩, [5], [(0x85, .ok), (0x81, .ok)]⟩ ∧
      outcome 2 .connect r = some ⟨.disconnecting, .openLoop, ⟨.inService, some 3⟩, [5], [(0x85, .ok), (0x81, .ok)]⟩ ∧
      outcome 1 .loopPort c = some ⟨.idle, .idle, ⟨.inService, none⟩, [], [(0x85, .ok), (0x22, .calFailed)]⟩ ∧
      outcome 2 .loopPort c = some ⟨.disconnecting, .idle, ⟨.inService, none⟩, [], [(0x85, .ok)]⟩ := by decide +kernel

/-- REFUSED and TIMEOUT of the CONNECT of a campaign's last probe, and of one on an engine with disable pending. -/
theorem test_campaign_connect_fails :
    let x := { ctx .campaign with campaignNumber := 1 }
    let s := locked (place 5 .active 9 3 .base up)
    let s := { s with campaign := { s.campaign with state := .running, number := 1, inFlight := 1 } }
    let d := (locked (place 5 .active 9 3 .base pinned15)).setEngine 3
      { Engine.reset with state := .connecting, context := some (ctx .spot), disablePending := true }
    [outcome 1 .connect (working .connecting x s), outcome 2 .connect (working .connecting x s), outcome 1 .connect d] =
      [some ⟨.idle, .idle, ⟨.outOfService, none⟩, [], [(0x85, .ok), (0x81, .ok), (0x82, .ok)]⟩,
        some ⟨.disconnecting, .idle, ⟨.inService, some 3⟩, [], [(0x85, .ok), (0x81, .ok), (0x82, .ok)]⟩,
        some ⟨.offline, .idle, ⟨.outOfService, none⟩, [], [(0x85, .ok), (0x81, .ok)]⟩] := by decide +kernel

/-- The pair of engines 2 and 3 connects a WIDE spot probe. -/
def pairConnecting : State :=
  let q : CurrentRequest := ⟨⟨.connect, some 9, some 12, .engine 2⟩, 6, 0, some 0⟩
  let s := (place 5 .spot 9 3 .wide up).setPoint 9 ⟨.inService, some 2⟩
  let s := (s.setEngine 2 { Engine.reset with state := .connecting, context := some { ctx .spot with rate := .wide } }).setEngine 3
    { Engine.reset with state := .following }
  { s with amc := { s.amc with current := some q } }

theorem test_wide_connect_refused :
    (pairConnecting.engine 3).wide = false ∧
      (runAll [completion 1 .connect] pairConnecting).map (fun t =>
        ((t.engine 2).state, (t.engine 3).state, t.point 9, t.mli.tx.map TxRecord.code)) =
        some (.idle, .idle, ⟨.outOfService, none⟩, [0x85, 0x81]) := by decide +kernel

theorem test_meets_FailedDisconnectQuarantines :
    let s := locked (working .disconnecting (ctx .spot) up)
    let c := (working .disconnecting { ctx .calibration with slot := some 0 } up).takeSlot 0 ⟨0x22, 7⟩ (.calibration 3)
    (s.engine 3).context = some (ctx .spot) ∧ s.mli.tx.length < 47 ∧ s.amc.rx = [] ∧
      outcome 1 .disconnect s = some ⟨.quarantined, .idle, ⟨.inService, some 3⟩, [], [(0x85, .ok), (0x86, .ok)]⟩ ∧
      outcome 2 .disconnect s = some ⟨.quarantined, .idle, ⟨.inService, some 3⟩, [], [(0x85, .ok), (0x86, .ok)]⟩ ∧
      outcome 2 .disconnect c =
        some ⟨.quarantined, .idle, ⟨.inService, none⟩, [], [(0x85, .ok), (0x86, .ok), (0x22, .calFailed)]⟩ := by decide +kernel

/-- The RESET_ALL of a MATRIX_RESYNC in slot 0 is current; engine 3 is quarantined with its lock. -/
def resyncing : State :=
  let q : CurrentRequest := ⟨⟨.resetAll, none, none, .resync 0⟩, 6, 0, some 0⟩
  let s := (locked (up.setEngine 3 { Engine.reset with state := .quarantined })).takeSlot 0 ⟨0x61, 7⟩ .resync
  { s with amc := { s.amc with current := some q, link := .unsynced } }

/-- A completion of it: the link, and what it leaves of engine 3. -/
def resynced (k : Fin 3) : Option (LinkState × Left) :=
  (runAll [completion k .resetAll] resyncing).map (fun t =>
    (t.amc.link, ⟨(t.engine 3).state, (t.circuit 5).status, t.point 9, [], t.mli.tx.map (fun r => (r.code, r.status))⟩))

theorem test_meets_ResyncIssuesAResetAll :
    (resyncing.slot 0).map DeferredSlot.placed = some false ∧ resyncing.amc.fifo = [] ∧ resyncing.amc.rx = [] ∧
      State.reset.mli.startup = some ⟨.cold, 0, none⟩ ∧ (∀ e, e < 16 → (State.reset.engine e).state ≠ .quarantined) := by
  decide +kernel

/-- The quarantine ends and the lock goes, or nothing changes. -/
theorem test_resync_completes :
    resynced 0 = some (.synced, ⟨.idle, .idle, ⟨.inService, none⟩, [], [(0x61, .ok)]⟩) ∧
      [resynced 1, resynced 2] = List.replicate 2
        (some (.unsynced, ⟨.quarantined, .idle, ⟨.inService, some 3⟩, [], [(0x85, .ok), (0x61, .matrixUnsynced)]⟩)) := by
  decide +kernel

theorem test_meets_FramesJoinTheBuffer :
    up.mli.startup = none ∧ up.mli.receiver = .hunt ∧ up.mli.rxBuffer.length < 4 ∧
      (List.replicate 4 (⟨1, 0x41, 7, []⟩ : Frame)).length = 4 ∧ State.reset.mli.startup ≠ none ∧
      (let b := Frame.bytes ⟨1, 0x41, 7, []⟩; b.drop (b.length - 2) ≠ [0, 0]) ∧
      256 * (0 : Byte).toNat + (9 : Byte).toNat < 10 ∧ 1024 < 256 * (4 : Byte).toNat + (1 : Byte).toNat ∧
      (List.replicate 5 (0 : Byte)).length = 5 ∧ ([0, 0] : List Byte).length = 2 ∧ (0 : Byte) ≠ 0xA5 := by decide +kernel

/-- Lengths 9 and 1,025 with a frame behind, and a frame of length 10 with its CRC, in a full buffer too. -/
theorem test_frame_errors :
    let good := Frame.bytes ⟨1, 0x41, 7, []⟩
    let covered : List Byte := [0, 10, 1, 0x41, 0, 7, 0]
    let full := { up with mli := { up.mli with rxBuffer := List.replicate 4 ⟨1, 0x41, 7, []⟩ } }
    let after (s : State) (bytes : List Byte) : Option (Nat × Nat × Nat) :=
      (runAll [.frameReceived bytes] s).map (fun t => (t.mli.rxBuffer.length, t.mli.frameErrors, t.mli.overruns))
    [after up ([0xA5, 0, 9] ++ good), after up ([0xA5, 4, 1] ++ good), after up (0xA5 :: covered ++ crcBytes covered),
        after full (0xA5 :: covered ++ crcBytes covered)] =
      [some (1, 1, 0), some (1, 1, 0), some (0, 1, 0), some (4, 1, 0)] := by decide +kernel

theorem test_meets_LinkEventsDoOneThing :
    let r : Receiver := .length []
    ({ up.mli with receiver := r, rxAt := 0 } : Mli).receiver ≠ .hunt ∧ up.mli.startup = none ∧
      ({ up with now := 10 } : State).mli.rxAt + 10 ≤ 10 ∧ up.mli.receiver = .hunt ∧
      ({ up.amc with rx := [0x5A] } : Amc).rx ≠ [] ∧ (State.reset.amc.current.map CurrentRequest.sentAt) = some none ∧
      ((up.place (noticeRecord 0x80 [])).mli.tx) = [noticeRecord 0x80 []] ∧
      ({ up.mli with startup := some ⟨.warm, 0, some .unsynced⟩ } : Mli).startup = some ⟨.warm, 0, some .unsynced⟩ := by
  decide +kernel

/-- The queue holds 56 records, and a frame waits. -/
def crammed : State :=
  { up with mli := { up.mli with tx := List.replicate 56 (noticeRecord 0x81 []), rxBuffer := [⟨1, 0x41, 7, []⟩] } }

/-- R171: the frame waits, and is to be taken as the record leaves. -/
theorem test_head_is_due :
    crammed.headDue = none ∧ (runAll [.recordSent] crammed).map (fun t => (t.mli.tx.length, t.headDue)) =
      some (55, some (.pointReport 7 [])) := by decide +kernel

/-- R171: no byte goes before a frame that can be taken. -/
theorem test_bytes_wait :
    (cmd up 0x41 []).headDue = some (.pointReport 7 []) ∧ ¬(cmd up 0x41 []).onTime (.frameReceived [0xA5]) ∧
      ¬(cmd up 0x41 []).onTime .recordSent := by
  refine ⟨by decide +kernel, fun h => ?_, fun h => ?_⟩
  · exact absurd (h.2.2 0 (by decide)) (by decide +kernel)
  · rcases h.2.1 with h | h
    · exact absurd h (by decide +kernel)
    · revert h; decide +kernel

/-- R183: a byte 9 ms behind the last joins the frame, one 10 ms behind is hunted in. -/
theorem test_answer_gap :
    [(9, 0x5A), (10, 0x5A), (10, 0x01)].map (fun x =>
      (runAll [.matrixAnswer [x.2]] { up with now := x.1, amc := { up.amc with rx := [0x5A, 1], rxAt := 0 } }).map
        (fun t => (t.amc.rx, t.amc.rxAt))) =
      [some ([0x5A, 1, 0x5A], 9), some ([0x5A], 10), some ([], 0)] := by decide +kernel

theorem test_meets_UnknownFramesAreRefused :
    ({ up.mli with rxBuffer := [⟨2, 0x10, 7, []⟩] } : Mli).rxBuffer = ⟨2, 0x10, 7, []⟩ :: [] ∧ (2 : Byte) ≠ 1 ∧
      knownCode 0x16 = false ∧ up.mli.startup = none ∧ up.mli.tx.length < 56 := by decide +kernel

theorem test_meets_DeviceResetIsTakenWhole :
    ((cmd up 0x71 [0]).Takes 0x71 7 [0] [] ∧ (cmd (fullSlots up) 0x71 [1]).Takes 0x71 7 [1] [] ∧
        (cmd up 0x71 [2]).Takes 0x71 7 [2] []) ∧
      (∀ e, e < 16 → (up.engine e).state.active = false) ∧ up.openLoops = [] ∧ standing.openLoops ≠ [] ∧
      ((working .soak (ctx .spot) up).engine 3).state.active = true :=
  ⟨⟨up_takes _ _, cmd_takes _ _ _ rfl (by decide +kernel), up_takes _ _⟩, by decide +kernel⟩

theorem test_reset_answers_the_slots :
    (runAll [.deviceReset 7 [1]] (cmd (fullSlots up) 0x71 [1])).map
      (fun t => (t.mli.tx.length, t.mli.tx.countP TxRecord.abandoned, t.amc.link, t.mli.rxBuffer.length)) =
      some (9, 8, .unsynced, 0) := by decide +kernel

/-- Slots 1 and 0 were taken in this order. -/
def outOfOrder : State := (up.takeSlot 1 ⟨0x38, 8⟩ (.spotProbe 450)).takeSlot 0 ⟨0x22, 9⟩ (.calibration 15)

theorem test_abandoned_in_order :
    (runAll [.deviceReset 7 [1]] (cmd outOfOrder 0x71 [1])).map
      (fun t => t.mli.tx.map (fun r => (r.tag, r.status, r.abandoned, r.payload))) =
      some [(7, .ok, false, [1]), (8, .circuitBusy, true, [1, 0xC2]), (9, .calFailed, true, [15, 0, 0, 0, 0, 0, 0, 1])] := by
  decide +kernel

/-- Ten windows of a code, the last of 128 bits with two of them wrong and with three; ten AIS windows. -/
theorem test_windows :
    let c : Code := ⟨6, 0b110100⟩
    let sent := (List.range 128).map (fun k => c.bit ((2 + k) % 6))
    let lane := { Lane.quiet with codeDet := ⟨some c, false, List.replicate 6 0, 9⟩, ais := ⟨true, false, 0, 9, false⟩ }
    let after (rx : List Bool) : Nat × Nat × Bool :=
      let l := (({ Engine.reset with lane := lane } : Engine).tick .dark 0 ⟨rx, 0⟩).lane
      (l.codeDet.count, l.ais.count, l.ais.raised)
    [after (sent.set 5 !(sent.getD 5 false) |>.set 90 !(sent.getD 90 false)),
      after (((sent.set 5 !(sent.getD 5 false)).set 90 !(sent.getD 90 false)).set 60 !(sent.getD 60 false)),
      after (List.replicate 128 true)] = [(10, 0, false), (0, 0, false), (0, 10, true)] := by decide +kernel

theorem test_meets_TickCountsTime :
    let m : Meter := ⟨true, true, 9, false⟩
    let s := up.setEngine 3 { Engine.reset with lane := { Lane.quiet with meter := m } }
    (s.engine 3).lane.meter.armed = true ∧ (s.engine 3).lane.meter.accumulating = true ∧
      ((s.tick (Vector.replicate 16 ⟨[], -401⟩)).engine 3).lane.meter.dropout = true ∧
      (let w := (working .soak (ctx .spot) up).setEngine 4 { Engine.reset with state := .following };
        (w.engine 3).context ≠ none ∧ w.laneSource 3 = .test ∧ partner 4 = 5 ∧
          (w.engine 4).state = .following) := by decide +kernel

/-- The sources of TickCountsTime: engine 3 in this phase with this moment of its release check, the arm of its checker. -/
def phased (st : EngineState) (check : Option Nat) (arm : CheckerArm) : State :=
  let w := working st (ctx .spot) up
  w.setEngine 3 { w.engine 3 with
    checkFrom := check, lane := { Lane.quiet with checker := { Checker.unarmed with arm := arm } } }

/-- Each phase that sends, and a follower of a lead in LOOP_UP. -/
theorem test_meets_TickCountsTime_sources :
    (∀ st ∈ [EngineState.retryWait, .soak, .loopUp, .courtesyRelease, .loopDown, .calibrating],
      ((phased st none .calibration).engine 3).state = st ∧ ((phased st none .calibration).engine 3).context ≠ none) ∧
      ((phased .loopDown (some 4) .release).engine 3).checkFrom ≠ none ∧
      ((phased .loopDown none .unarmed).engine 3).checkFrom = none ∧
      ((phased .calibrating none .calibration).engine 3).lane.checker.arm = .calibration ∧
      ((phased .calibrating none .unarmed).engine 3).lane.checker.arm = .unarmed ∧
      ((phased .soak none .unarmed).engine 3).lane.wordDet.search = none ∧
      ((phased .soak none .unarmed).engine 3).lane.codeDet.code = none ∧
      ((phased .soak none .unarmed).engine 3).lane.ais.armed = false ∧
      ((phased .soak none .unarmed).engine 3).lane.meter.armed = false ∧
      (let w := (up.setEngine 4 { Engine.reset with state := .loopUp, context := some (ctx .spot) }).setEngine 5
          { Engine.reset with state := .following };
        partner 5 = 4 ∧ (w.engine 5).state = .following ∧ (w.engine (partner 5)).state = .loopUp ∧
          (w.engine (partner 5)).context ≠ none) := by decide +kernel

/-- What four bit periods move: the code, the sequence, or nothing; a delay word leaves first, then a marker. -/
theorem test_tick_sends :
    let moved (st : EngineState) (check : Option Nat) (arm : CheckerArm) : Nat × Nat :=
      let g := ((State.tick { phased st check arm with laneTime := 1249996 } (Vector.replicate 16 ⟨[], 0⟩)).engine 3).lane.gen;
      (g.codePos, g.sent)
    [moved .loopUp none .unarmed, moved .retryWait none .unarmed, moved .soak none .soak, moved .loopDown none .unarmed,
        moved .loopDown (some 0) .release, moved .courtesyRelease none .unarmed, moved .calibrating none .unarmed,
        moved .calibrating none .calibration, moved .disconnecting none .unarmed] =
      [(4, 0), (0, 4), (0, 4), (4, 0), (0, 4), (4, 0), (0, 0), (0, 4), (0, 0)] ∧
      (let g := Generator.run .test 4 { Generator.start with wordLeft := 2, markersDue := 1 };
        (g.wordLeft, g.markersDue, g.sent, g.placed.map (fun p => (p.index, p.what)))) =
        (0, 0, 4, [(0, .word 62), (1, .word 63), (2, .marker)]) := by decide +kernel

def due (s : State) : State := { s with runDue := true }

/-- What a run leaves: the spot queue, the class queues, circuit 5's status, and the engines at work. -/
structure Served where
  spot    : List SpotEntry
  queues  : List (List Nat)
  status  : ProbeStatus
  engines : List (Nat × EngineState)
  deriving DecidableEq

def served (s : State) : Served :=
  let t := (due s).runArbiter
  ⟨t.spot, t.classes.toList.map PacingClass.queue, (t.circuit 5).status,
    ((List.range 16).map (fun e => (e, (t.engine e).state))).filter (fun x => x.2.active)⟩

/-- The queue of class 1 holds these circuits, and the class one credit. -/
def credited (k : Nat) (queue : List Nat) (s : State) : State :=
  running (s.setCls k { s.cls k with credits := 1, queue := queue })

/-- A spot probe and a RELEASE_ONLY entry of circuit 5. -/
def spotting : State := { place 5 .spot 9 3 .base up with spot := [.probe 5 none] }
def retrying : State := { place 5 .openLoop 9 3 .base up with spot := [.releaseOnly 5], openLoops := [loop5] }

theorem test_meets_RunLaunchesASpotProbe :
    spotting.campaign.state ≠ .running ∧ spotting.amc.link = .synced ∧ State.reset.amc.link = .unsynced ∧
      spotting.point 9 = ⟨.inService, none⟩ ∧ (spotting.node 3).state = .active ∧
      (spotting.node 3).nextEligible ≤ spotting.now ∧ (spotting.node 3).occupancy < (spotting.node 3).limit ∧
      spotting.engines.toList.countP (fun g => g.state.inFlight) + spotting.openLoops.length < 64 ∧
      (∀ p, p < 256 → (State.reset.point p).service = .inService) ∧ retrying.openLoopOf 5 = some loop5 := by decide +kernel

/-- A probe on the lowest engine, on one whose partner is busy, on a pair; a retry; a calibration; a point out of service. -/
theorem test_spot_launches :
    [spotting, busy spotting 1, busy spotting 7, { place 5 .spot 9 3 .wide (busy up 1) with spot := [.probe 5 none] }, retrying,
        { up with spot := [.calibration 9 0] }, spotting.setPoint 9 ⟨.outOfService, none⟩].map served =
      [⟨[], [[], [], [], []], .spot, [(0, .connecting)]⟩, ⟨[], [[], [], [], []], .spot, [(0, .connecting)]⟩,
        ⟨[], [[], [], [], []], .spot, [(6, .connecting)]⟩, ⟨[], [[], [], [], []], .spot, [(2, .connecting), (3, .following)]⟩,
        ⟨[], [[], [], [], []], .active, [(0, .connecting)]⟩, ⟨[], [[], [], [], []], .idle, [(9, .calibrating)]⟩,
        ⟨[], [[], [], [], []], .idle, []⟩] := by decide +kernel

/-- A COMPLETE probe and a class entry stand at a point out of service. -/
def unreachable : State :=
  let s := (place 450 .spot 9 6 .base (credited 1 [5] (place 5 .queued 9 3 .base up))).setPoint 9 ⟨.outOfService, none⟩
  { waitingSlots s with spot := [.calibration 15 0, .probe 450 (some 1)], amc := { s.amc with link := .unsynced } }

/-- While UNSYNCED the entries leave and nothing is launched; the calibration entry waits. -/
theorem test_unsynced_run :
    served unreachable = ⟨[.calibration 15 0], [[], [], [], []], .idle, []⟩ ∧
      (let t := (due unreachable).runArbiter
       (t.campaign.state, t.campaign.summary.notTested[4], t.mli.tx.map (fun r => (r.code, r.status))) =
        (.idle, 1, [(0x38, .pointOut), (0x82, .ok)])) ∧
      unreachable.queuedCircuits.Nodup ∧ unreachable.amc.link = .unsynced := by decide +kernel

theorem repliesWait_unreachable : RepliesWait unreachable := by
  refine ⟨by decide +kernel, fun i hi => ?_⟩
  have h : i = 0 ∨ i = 1 := by simpa [entrySlot, unreachable] using hi
  rcases h with rfl | rfl <;> exact ⟨_, rfl, rfl⟩

/-- Eight circuits whose point is locked, and circuit 5, which can be launched. -/
def blocking : List Nat := (List.range 8).map (· + 100)
def crowded : State :=
  (blocking.foldl (fun s c => place c .queued 10 6 .base s) (place 5 .queued 9 3 .base up)).setPoint 10 ⟨.inService, some 15⟩

/-- Classes 0 and 1 with one entry and one credit each, and one IDLE engine. -/
def contested (turn : Nat) : State :=
  let s := (List.range 15).foldl busy (place 6 .queued 11 4 .base (place 5 .queued 9 3 .base up))
  { credited 0 [5] (credited 1 [6] s) with priorityTurn := turn }

/-- All entries of the class stand at a point out of service. -/
def outOfReach : State := credited 2 [5] ((place 5 .queued 9 3 .base up).setPoint 9 ⟨.outOfService, none⟩)

theorem test_meets_class_launches :
    (credited 1 (blocking.take 7 ++ [5]) crowded).queuedCircuits.Nodup ∧ (contested 1).queuedCircuits.Nodup ∧
      (blocking.take 7).length ≤ 7 ∧ outOfReach.campaign.inFlight = 0 ∧ outOfReach.campaign.params.cap = 0 ∧
      (due outOfReach).runArbiter.campaign.endCause = .completed := by decide +kernel

/-- Behind seven entries circuit 5 is launched, behind eight it is not looked at; a blocked entry leaves; the class that the
turn record does not name goes first. -/
theorem test_class_launches :
    [credited 1 (blocking.take 7 ++ [5]) crowded, credited 1 (blocking ++ [5]) crowded, outOfReach, contested 1,
        contested 0].map served =
      [⟨[], [[], blocking.take 7, [], []], .active, [(0, .connecting)]⟩, ⟨[], [[], blocking ++ [5], [], []], .queued, []⟩,
        ⟨[], [[], [], [], []], .idle, []⟩, ⟨[], [[], [6], [], []], .active, [(15, .connecting)]⟩,
        ⟨[], [[5], [], [], []], .queued, [(15, .connecting)]⟩] := by decide +kernel

/-- Classes 1 and 2 have one entry and one credit each, and engine 15 alone is IDLE; the bank turn record names class `turn`. -/
def banked (turn : Nat) : State :=
  let s := (List.range 15).foldl busy (place 6 .queued 11 4 .base (place 5 .queued 12 3 .base up))
  { credited 1 [5] (credited 2 [6] s) with priorityTurn := turn }

/-- The same with a spot probe at a locked point ahead of one that can be launched. -/
def rivalled : State :=
  let s := (place 100 .spot 10 6 .base (place 7 .spot 13 5 .base (banked 0))).setPoint 10 ⟨.inService, some 14⟩
  { s with spot := [.probe 100 none, .probe 7 none] }

/-- Only the spot probe at the locked point waits. -/
def heldBack (turn : Nat) : State := { rivalled with spot := [.probe 100 none], priorityTurn := turn }

theorem test_meets_run_order :
    rivalled.spot = [.probe 100 none] ++ .probe 7 none :: [] ∧ rivalled.campaign.state = .running ∧
      (∀ p, p < 256 → (rivalled.point p).service = .inService) ∧ rivalled.circuitEngine 7 = some 15 ∧
      rivalled.circuitEngine 100 = none ∧ rivalled.circuitEngine 5 = some 15 ∧ rivalled.circuitEngine 6 = some 15 ∧
      (∀ d, d < 16 → d ≠ 15 → (rivalled.engine d).state ≠ .idle) ∧ (rivalled.cls 0).credits = 0 ∧
      1 ≤ (rivalled.cls 2).credits ∧ rivalled.queuedCircuits.Nodup := by decide +kernel

/-- The spot probe that can be launched goes before both classes, else the priority bank's entry, whichever class the turn
record names; the spot probe that cannot does not hold it back. -/
theorem test_run_order :
    [rivalled, banked 0, banked 1, heldBack 0].map served =
      [⟨[.probe 100 none], [[], [5], [6], []], .queued, [(15, .connecting)]⟩,
        ⟨[], [[], [], [6], []], .active, [(15, .connecting)]⟩, ⟨[], [[], [], [6], []], .active, [(15, .connecting)]⟩,
        ⟨[.probe 100 none], [[], [], [6], []], .active, [(15, .connecting)]⟩] ∧
      ((due rivalled).runArbiter.engine 15).context.bind Context.circuit = some 7 := by decide +kernel

/-! ## The phases -/

def aged (x : Context) (ms : Nat) : Context := { x with phaseTimer := ms }

/-- The settle time ends 7 bit periods behind a tick: the window running is a part-window. -/
theorem test_meets_WaitsEndInTheNextPhase :
    let s := up.setEngine 3 { Engine.reset with state := .connecting, context := some (ctx .spot), settleUntil := some 0 }
    (s.engine 3).settleUntil = some 0 ∧ 0 ≤ s.now ∧ s.laneTime ≤ 7 ∧ (s.engine 3).context = some (ctx .spot) ∧
      [ContextKind.campaign, .releaseOnly, .calibration].map (fun k => (ctx k).kind) = [.campaign, .releaseOnly, .calibration] ∧
      (aged (ctx .spot) 3000).timing.loopUpTimeout ≤ 3000 ∧ (ctx .spot).loopAttempts < (ctx .spot).timing.loopAttempts ∧
      (aged (ctx .spot) 1000).timing.retrySpacing ≤ 1000 ∧
      (runAll [.settleEnd ⟨3, 7⟩] s).map (fun t => ((t.engine 3).state, (t.engine 3).lane.codeDet.part, (t.engine 3).lane.ais.part)) =
        some (.loopUp, true, true) ∧
      (runAll [.settleEnd ⟨3, 0⟩] s).map (fun t => ((t.engine 3).state, (t.engine 3).lane.codeDet.part, (t.engine 3).lane.ais.part)) =
        some (.loopUp, false, false) := by decide +kernel

/-- The last loop-up attempt of engine 3's probe has run out, node 3 being `w`. -/
def exhausted (w : Node) : State :=
  ((queued 0 5 up).setEngine 3 { Engine.reset with
    state := .loopUp, context := some { aged (ctx .spot) 3000 with loopAttempts := 3 },
    lane := { Lane.quiet with codeDet := ⟨none, false, [], 500⟩ } }).setNode 3 w

theorem test_meets_LoopUpReportsToTheNode :
    let s := exhausted Node.reset
    (s.engine 3).state = .loopUp ∧ (ctx .spot).farNode = some 3 ∧
      (ctx .spot).timing.confirmTime ≤ (s.engine 3).lane.codeDet.count ∧ (ctx .spot).timing.loopUpTimeout ≤ 3000 ∧
      (ctx .spot).timing.loopAttempts ≤ 3 ∧ (s.node 3).fails = 0 := by decide +kernel

/-- At level 4 with auto-hold on: an ACTIVE node, and one HELD already. -/
theorem test_auto_hold :
    [{ Node.reset with level := 4, fails := 1, autoHold := true },
        { Node.reset with level := 4, fails := 1, autoHold := true, state := .held }].map (fun w =>
          (runAll [.loopUpTimeout 3] (exhausted w)).map (fun t =>
            ((t.node 3).state, (t.cls 0).queue, t.mli.tx.map TxRecord.code))) =
      [some (.held, [], [0x84]), some (.held, [5], [])] := by decide +kernel

theorem test_meets_SoakEndsInLoopDown :
    let s := up.setEngine 3 { Engine.reset with
      state := .soak, context := some (aged (ctx .spot) 10000),
      lane := { Lane.quiet with meter := ⟨true, true, 10, true⟩, ais := ⟨true, false, 0, 10, true⟩ } }
    (s.engine 3).state = .soak ∧ (s.engine 3).context = some (aged (ctx .spot) 10000) ∧
      1000 * (ctx .spot).soakTime ≤ 10000 ∧ (s.engine 3).lane.meter.dropout = true ∧
      (s.engine 3).lane.ais.raised = true := by decide +kernel

/-- A soak checker one right bit from its gain, and one bad bit from its loss. -/
def hunting : Engine :=
  { Engine.reset with
    state := .soak, context := some (ctx .spot)
    lane := { Lane.quiet with checker := ⟨.soak, false, BitVec.allOnes 31, 31, 1023, 0, 0, false⟩ } }

def losing : Engine :=
  { hunting with lane := { Lane.quiet with checker := ⟨.soak, true, BitVec.allOnes 31, 31, 0, 1023, 127, false⟩ } }

theorem test_meets_SoakMeasures :
    (hunting.receive [false]).lane.checker.gain = true ∧ (hunting.receive [false]).lane.firstGain = false ∧
      losing.lane.checker.arm = .soak ∧ (losing.receive []).lane.checker.inSync = true ∧
      (losing.receive ([] ++ [true])).lane.checker.inSync = false ∧
      (runAll [.checkerSyncGain 3 [false] 20] (up.setEngine 3 hunting)).map (fun t =>
        ((t.engine 3).lane.gen.wordLeft, (t.engine 3).lane.gen.sent, (t.engine 3).lane.wordDet.search)) = some (64, 20, some 2) ∧
      (let x := { aged (ctx .spot) 2000 with markers := 4 };
        hunting.markersSent + 1 ≤ x.markers ∧
          (hunting.markersSent + 1) * (1000 * x.soakTime) / (x.markers + 1) ≤ x.phaseTimer) ∧
      ({ Generator.start with markersDue := 1 } : Generator).wordLeft = 0 ∧
      ({ Generator.start with wordLeft := 1 } : Generator).wordLeft = 64 - 63 ∧
      ((looped.sends .test 1).lane.gen.placed.map (fun p => p.reg == sequenceNext^[31] looped.lane.checker.reg)) = [true] := by
  decide +kernel

/-- A checker in sync that is armed for this. -/
def syncedFor (a : CheckerArm) : Engine :=
  { Engine.reset with lane := { Lane.quiet with checker := ⟨a, true, 1, 31, 1024, 0, 0, false⟩ } }

/-- A WIDE probe on engines 2 and 3 in SOAK, both checkers one right bit from their gain. -/
def pairHunting : State :=
  (up.setEngine 2 { hunting with context := some { ctx .spot with rate := .wide } }).setEngine 3
    { hunting with state := .following, context := none }

theorem test_meets_SoakMeasures_pair :
    (pairHunting.engine 3).state = .following ∧ (pairHunting.engine (partner 3)).state = .soak ∧
      ((pairHunting.engine 3).receive [false]).lane.checker.gain = true ∧
      ((pairHunting.engine 2).receive [false]).lane.checker.gain = true ∧
      (syncedFor .release).lane.checker.arm ≠ .unarmed ∧ (syncedFor .release).lane.checker.inSync = true := by decide +kernel

/-- The delay word's bits to send and whether the meters of engines 2 and 3 accumulate: at the follower's gain, at the lead's. -/
theorem test_pair_gains :
    [Instr.checkerSyncGain 3 [false] 20, .checkerSyncGain 2 [false] 20].map (fun i => (runAll [i] pairHunting).map (fun t =>
      [2, 3].map (fun e => ((t.engine e).lane.gen.wordLeft, (t.engine e).lane.meter.accumulating)))) =
      [some [(0, false), (0, false)], some [(64, true), (0, true)]] := by decide +kernel

/-- A checker armed for a release check or a calibration counts nothing. -/
theorem test_only_a_soak_counts :
    [CheckerArm.soak, .release, .calibration].map (fun a => ((syncedFor a).receive [true]).meas.bitsB) = [1, 0, 0] := by
  decide +kernel

/-- A checker's run, its loaded bits, whether it is in sync, and its losses behind one more bit. -/
def checked (g : Engine) (v : Bool) : Nat × Nat × Bool × Nat :=
  let h := g.receive [v]
  (h.lane.checker.run, h.lane.checker.loaded, h.lane.checker.inSync, h.meas.lossesK)

def checkerOf (k : Checker) : Engine := { Engine.reset with lane := { Lane.quiet with checker := k } }

/-- R31: unarmed; loading; a wrong bit, a right one, the 1,024th; an all-zero register; a block with 127 and with 128 errors. -/
theorem test_checker :
    [checked (checkerOf ⟨.unarmed, false, 1, 31, 5, 0, 0, false⟩) false, checked (checkerOf ⟨.soak, false, 1, 30, 0, 0, 0, false⟩) true,
        checked (checkerOf ⟨.soak, false, 1, 31, 5, 0, 0, false⟩) true, checked (checkerOf ⟨.soak, false, 1, 31, 5, 0, 0, false⟩) false,
        checked (checkerOf ⟨.soak, false, 1, 31, 1023, 0, 0, false⟩) false, checked (checkerOf ⟨.soak, false, 0, 31, 5, 0, 0, false⟩) false,
        checked (checkerOf ⟨.soak, true, 1, 31, 1024, 1023, 127, false⟩) false,
        checked (checkerOf ⟨.soak, true, 1, 31, 1024, 1023, 127, false⟩) true] =
      [(5, 31, false, 0), (0, 31, false, 0), (0, 31, false, 0), (6, 31, false, 0), (1024, 31, true, 0), (0, 31, false, 0),
        (1024, 31, true, 0), (0, 0, false, 1)] := by decide +kernel

/-- A delay word of zeros is all but found. -/
def searching (st : EngineState) : Engine :=
  { Engine.reset with
    state := st, context := some (ctx .calibration), limitUntil := some 0
    lane := { Lane.quiet with wordDet := ⟨some 100, 0, 63, false⟩ } }

def searchingAt (st : EngineState) (counter : Nat) : State :=
  { up with freeCounter := counter }.setEngine 3 (searching st)

theorem test_meets_DelayWordGivesTheDelay :
    ((searching .calibrating).receive [false]).lane.wordDet.search = some 100 ∧
      ((searching .calibrating).receive [false]).lane.wordDet.seen = true ∧ (searching .calibrating).limitUntil = some 0 ∧
      0 ≤ up.now ∧ (searching .soak).state ≠ .calibrating ∧ 100 + 2500000 ≤ 2500099 + 10 / 10 := by decide +kernel

/-- The word 1 by its last bit: with 63 right bits before it, with 62, with a wrong bit before it, with no search. -/
theorem test_word_is_found :
    [(some 5, 0#64, 63), (some 5, 0#64, 62), (some 5, 1#64, 63), (none, 0#64, 63)].map (fun x =>
        (({ Engine.reset with delayWord := 1, lane := { Lane.quiet with wordDet := ⟨x.1, x.2.1, x.2.2, false⟩ } } :
          Engine).receive [true]).lane.wordDet.seen) = [true, false, false, false] := by decide +kernel

/-- A calibration one right bit from its gain, its 1 s limit running or lifted. -/
def calibratingUntil (limit : Option Nat) : State :=
  up.setEngine 3 { Engine.reset with
    state := .calibrating, context := some (ctx .calibration), limitUntil := limit
    lane := { Lane.quiet with checker := ⟨.calibration, false, BitVec.allOnes 31, 31, 1023, 0, 0, false⟩ } }

/-- The first gain sends the word, reads the counter and lifts the limit; a later one does not. -/
theorem test_calibration_gain :
    (((calibratingUntil none).engine 3).receive [false]).lane.checker.gain = true ∧
      [some 1000, none].map (fun u => (runAll [.checkerSyncGain 3 [false] 20] (calibratingUntil u)).map (fun t =>
        ((t.engine 3).lane.gen.wordLeft, (t.engine 3).lane.wordDet.search, (t.engine 3).limitUntil, (t.engine 3).state))) =
        [some (64, some 2, none, .calibrating), some (0, none, none, .calibrating)] := by decide +kernel

/-- The word's last bit arrives 70 bit periods behind a tick, so its first 6 behind it; a word is lost 20 ms behind its
departure and not a count before. -/
theorem test_delay_word :
    [(Instr.delayWordFound 3 [false] 70, EngineState.calibrating, 1850), (.delayWordFound 3 [false] 70, .soak, 1850),
        (.delayWordTimeout ⟨3, 10⟩, .soak, 2500099), (.delayWordTimeout ⟨3, 9⟩, .soak, 2500099),
        (.delayWordTimeout ⟨3, 10⟩, .calibrating, 2500099)].map (fun x =>
          (runAll [x.1] (searchingAt x.2.1 x.2.2)).map (fun t =>
            ((t.engine 3).state, (t.engine 3).meas.ticksT, (t.engine 3).localOffset, (t.engine 3).lane.wordDet.search))) =
      [some (.disconnecting, some 1750, 140, none), some (.soak, some 1750, 0, none), some (.soak, none, 0, none),
        some (.soak, none, 0, some 100), some (.disconnecting, none, 0, none)] := by decide +kernel

theorem test_meets_ReleaseEndGradesTheProbe :
    let x := aged (ctx .spot) 1000
    let s := up.setEngine 3 { Engine.reset with state := .loopDown, context := some x }
    let t := up.setEngine 3 { Engine.reset with state := .loopDown, context := some x, checkFrom := some 0 }
    let u := up.setEngine 3 { Engine.reset with state := .courtesyRelease, context := some x }
    ((s.engine 3).state = .loopDown ∧ (s.engine 3).checkFrom = none ∧ x.timing.releaseHold ≤ x.phaseTimer) ∧
      ((t.engine 3).checkFrom = some 0 ∧ 0 + x.timing.releaseCheck ≤ ({ t with now := 200 } : State).now) ∧
      (u.engine 3).state = .courtesyRelease ∧ x.farNode = some 3 ∧ x.circuit = some 5 ∧
      .blocked ∉ x.outcomes ∧ .stuckLoop ∉ x.outcomes ∧ .released ∉ x.outcomes := by decide +kernel

/-- Engine 3 runs the last probe of a BASELINE campaign. -/
def lastProbe (g : Engine) : State :=
  let s := (place 5 .active 9 3 .base up).setEngine 3 g
  { s with now := 200, campaign := { s.campaign with state := .running, kind := .baseline, number := 1, inFlight := 1 } }

def lastContext : Context := { aged (ctx .campaign) 1000 with measured := true, campaignNumber := 1, releaseAttempts := 5 }

/-- A PASS writes both baselines and ends the campaign. -/
theorem test_release_end :
    (runAll [.releaseCheckEnd 3] (lastProbe { Engine.reset with
        state := .loopDown, context := some lastContext, checkFrom := some 0
        meas := ⟨2000000000, 0, 0, 0, 0, some 12345, -1000, 10⟩ })).map (fun t =>
      (t.circuit 5).status == .idle && (t.circuit 5).baseDelay == some 988 && (t.circuit 5).baseLevel == some (-100) &&
        t.campaign.summary.grades[10] == 1 && t.campaign.state == .idle && t.campaign.endCause == .completed &&
        t.campaign.inFlight == 0 && t.mli.tx.map TxRecord.code == [0x82]) = some true := by decide +kernel

/-- A release check one right bit from its gain. -/
def checking : Lane := { Lane.quiet with checker := ⟨.release, false, BitVec.allOnes 31, 31, 1023, 0, 0, false⟩ }

def standingBy (x : Context) (l : Lane) : Engine :=
  { Engine.reset with state := .loopDown, checkFrom := some 0, context := some x, lane := l }

theorem test_meets_StandingLoopJoinsTheList :
    ((standingBy lastContext checking).receive [false]).lane.checker.gain = true ∧
      lastContext.timing.releaseAttempts ≤ lastContext.releaseAttempts ∧ lastContext.farNode = some 3 ∧
      lastContext.accessPoint = some 9 ∧ lastContext.circuit = some 5 ∧ .blocked ∉ lastContext.outcomes ∧
      (ctx .spot).releaseAttempts < (ctx .spot).timing.releaseAttempts := by decide +kernel

/-- The gain comes on the lane of the follower that engine 4 leads. -/
theorem test_follower_stands :
    (runAll [.checkerSyncGain 5 [false] 10]
      ((up.setEngine 4 (standingBy { ctx .spot with rate := .wide } Lane.quiet)).setEngine 5
        { Engine.reset with state := .following, lane := checking })).map (fun t =>
          ((t.engine 4).state, (t.engine 4).checkFrom, (t.engine 4).context.map Context.releaseAttempts)) =
      some (.loopDown, none, some 1) := by decide +kernel

/-- The last attempt of a campaign's last probe fails. -/
theorem test_stuck_end :
    (runAll [.checkerSyncGain 3 [false] 10] (lastProbe (standingBy lastContext checking))).map (fun t =>
      t.openLoops.map OpenLoop.circuit == [5] && (t.circuit 5).status == .openLoop && t.campaign.summary.grades[0] == 1 &&
        t.campaign.state == .idle && (t.engine 3).state == .disconnecting &&
        t.mli.tx.map TxRecord.code == [0x81, 0x83, 0x82]) = some true := by decide +kernel

theorem test_meets_GradeIsTheFirstCase :
    ({ ctx .spot with measured := true } : Context).measured = true ∧ (ctx .spot).measured = false ∧
      (verdictOf { ctx .spot with aborted := true } 3 handed limits17).grade = .cancelled ∧
      (verdictOf { ctx .spot with outcomes := [.noLoop] } 3 handed limits17).grade = .noLoop ∧
      (verdictOf { ctx .spot with measured := true } 3 handed limits17).grade = .pass := by decide +kernel

end Sys2Proof.Tests
end

section
/-! SUPPORT. The tick of the time base (O51): the generator over many bit periods, the source of a lane, the bits received in a
window, the judgement of the window. -/

namespace Sys2Proof.Machine

/-! ## What a lane sends in `n` bit periods -/

/-- The altered bits of the delay word that leave in the next `n` bit periods (R38). -/
def Generator.wordBits (g : Generator) (n : Nat) : List Placed :=
  (List.range (min n g.wordLeft)).map (fun i => ⟨sequenceNext^[i] g.reg, g.sent + i, .word (64 - (g.wordLeft - i))⟩)

/-- The markers that leave in the next `n` bit periods, behind the delay word (R33). -/
def Generator.markerBits (g : Generator) (n : Nat) : List Placed :=
  (List.range (min (n - g.wordLeft) g.markersDue)).map
    (fun i => ⟨sequenceNext^[g.wordLeft + i] g.reg, g.sent + (g.wordLeft + i), .marker⟩)

/-- The generator `n` bit periods of the test sequence on. -/
def Generator.testRun (g : Generator) (n : Nat) : Generator :=
  { reg := sequenceNext^[n] g.reg, sent := g.sent + n, codePos := g.codePos
    wordLeft := g.wordLeft - n, markersDue := g.markersDue - (n - g.wordLeft)
    placed := g.placed ++ g.wordBits n ++ g.markerBits n }

theorem wordBits_succ_of_lt (g : Generator) {n : Nat} (h : n < g.wordLeft) :
    g.wordBits (n + 1) = g.wordBits n ++ [⟨sequenceNext^[n] g.reg, g.sent + n, .word (64 - (g.wordLeft - n))⟩] := by
  simp only [Generator.wordBits, Nat.min_eq_left h.le, Nat.min_eq_left (Nat.succ_le_of_lt h), List.range_succ, List.map_append,
    List.map_singleton]

theorem wordBits_succ_of_le (g : Generator) {n : Nat} (h : g.wordLeft ≤ n) : g.wordBits (n + 1) = g.wordBits n := by
  simp only [Generator.wordBits, Nat.min_eq_right h, Nat.min_eq_right (Nat.le_succ_of_le h)]

theorem markerBits_eq_nil (g : Generator) {n : Nat} (h : n ≤ g.wordLeft) : g.markerBits n = [] := by
  simp [Generator.markerBits, Nat.sub_eq_zero_of_le h]

theorem markerBits_succ_of_lt (g : Generator) {n : Nat} (hw : g.wordLeft ≤ n) (h : n - g.wordLeft < g.markersDue) :
    g.markerBits (n + 1) = g.markerBits n ++ [⟨sequenceNext^[n] g.reg, g.sent + n, .marker⟩] := by
  simp only [Generator.markerBits, Nat.succ_sub hw, Nat.min_eq_left h.le, Nat.min_eq_left (Nat.succ_le_of_lt h),
    List.range_succ, List.map_append, List.map_singleton, Nat.add_sub_cancel' hw]

theorem markerBits_succ_of_le (g : Generator) {n : Nat} (h : g.markersDue ≤ n - g.wordLeft) :
    g.markerBits (n + 1) = g.markerBits n := by
  have h' : g.markersDue ≤ n + 1 - g.wordLeft := by omega
  simp only [Generator.markerBits, Nat.min_eq_right h, Nat.min_eq_right h']

/-- One more bit leaves: of the word, a marker behind it, or a plain one. -/
theorem next_testRun (g : Generator) (n : Nat) : (g.testRun n).next = g.testRun (n + 1) := by
  have hreg : sequenceNext^[n + 1] g.reg = sequenceNext (sequenceNext^[n] g.reg) := Function.iterate_succ_apply' _ _ _
  by_cases hw : n < g.wordLeft
  · have hpos : 0 < g.wordLeft - n := by omega
    have hm : n + 1 - g.wordLeft = n - g.wordLeft := by omega
    simp [Generator.next, Generator.testRun, Generator.place, hpos, hreg, hm, wordBits_succ_of_lt g hw,
      markerBits_eq_nil g hw.le, markerBits_eq_nil g (Nat.succ_le_of_lt hw), Nat.sub_sub, Nat.add_assoc]
  · have hle : g.wordLeft ≤ n := Nat.le_of_not_lt hw
    have h0 : g.wordLeft - n = 0 := Nat.sub_eq_zero_of_le hle
    have h1 : g.wordLeft - (n + 1) = 0 := by omega
    by_cases hm : n - g.wordLeft < g.markersDue
    · have hpos : 0 < g.markersDue - (n - g.wordLeft) := Nat.sub_pos_of_lt hm
      have hd : g.markersDue - (n - g.wordLeft) - 1 = g.markersDue - (n + 1 - g.wordLeft) := by omega
      simp only [Generator.next, Generator.testRun, Generator.place, h0, h1, lt_irrefl, if_false, hpos, if_true, hreg, hd,
        wordBits_succ_of_le g hle, markerBits_succ_of_lt g hle hm, List.append_assoc, Nat.add_assoc]
    · have hmle : g.markersDue ≤ n - g.wordLeft := Nat.le_of_not_lt hm
      have hd0 : g.markersDue - (n - g.wordLeft) = 0 := Nat.sub_eq_zero_of_le hmle
      have hd1 : g.markersDue - (n + 1 - g.wordLeft) = 0 := by omega
      simp only [Generator.next, Generator.testRun, h0, h1, hd0, hd1, lt_irrefl, if_false, hreg,
        wordBits_succ_of_le g hle, markerBits_succ_of_le g hmle, Nat.add_assoc]

/-- `n` bit periods of the test sequence at once (R30, R33, R38). -/
theorem run_test (g : Generator) (n : Nat) : g.run .test n = g.testRun n := by
  induction n with
  | zero => simp [Generator.run, Generator.testRun, Generator.wordBits, Generator.markerBits]
  | succ n ih =>
    calc Generator.next^[n + 1] g = (Generator.next^[n] g).next := Function.iterate_succ_apply' _ _ _
      _ = (g.testRun n).next := congrArg Generator.next ih
      _ = g.testRun (n + 1) := next_testRun g n

/-! ## The lane output column of R23 -/

/-- The states of R23 in which an engine sends the test sequence. -/
def Engine.OnTest (g : Engine) : Prop :=
  g.state = .soak ∨ g.state = .retryWait ∨ (g.state = .loopDown ∧ g.context ≠ none ∧ g.checkFrom ≠ none) ∨
    (g.state = .calibrating ∧ g.lane.checker.arm = .calibration)

/-- The states of R23 in which an engine sends a code. -/
def Engine.OnCode (g : Engine) : Prop :=
  g.context ≠ none ∧ (g.state = .loopUp ∨ g.state = .courtesyRelease ∨ (g.state = .loopDown ∧ g.checkFrom = none))

theorem source_of_onTest {g : Engine} (h : g.OnTest) : g.source = .test := by
  obtain hst | hst | ⟨hst, hx, hc⟩ | ⟨hst, ha⟩ := h
  · simp [Engine.source, hst]
  · simp [Engine.source, hst]
  · obtain ⟨x, hx⟩ := Option.ne_none_iff_exists'.mp hx
    simp [Engine.source, hst, hx, Option.isSome_iff_ne_none.mpr hc]
  · simp [Engine.source, hst, ha]

theorem source_of_onCode {g : Engine} (h : g.OnCode) : ∃ c, g.source = .code c := by
  obtain ⟨hx, hst⟩ := h
  obtain ⟨x, hx⟩ := Option.ne_none_iff_exists'.mp hx
  obtain hst | hst | ⟨hst, hc⟩ := hst
  · exact ⟨x.activate, by simp [Engine.source, hst, hx]⟩
  · exact ⟨x.deactivate, by simp [Engine.source, hst, hx]⟩
  · exact ⟨x.deactivate, by simp [Engine.source, hst, hx, hc]⟩

/-- Every other lane is dark. -/
theorem source_of_neither {g : Engine} (ht : ¬g.OnTest) (hc : ¬g.OnCode) : g.source = .dark := by
  unfold Engine.OnTest at ht
  unfold Engine.OnCode at hc
  unfold Engine.source
  split <;> simp_all

/-- A follower sends from its lead's source (R25). -/
theorem laneSource_eq_leadOf (s : State) (e : Nat) : s.laneSource e = (s.engine (s.leadOf e)).source := by
  unfold State.laneSource State.leadOf
  split <;> rfl

/-! ## The bits received, one after another -/

theorem receive_cons (g : Engine) (v : Bool) (rx : List Bool) : g.receive (v :: rx) = (g.takeBit v).receive rx := rfl

/-- What each bit keeps, the bits received keep. -/
theorem receive_keeps (P : Engine → Prop) (hstep : ∀ g v, P g → P (g.takeBit v)) (g : Engine) (rx : List Bool)
    (h : P g) : P (g.receive rx) := by
  induction rx generalizing g with
  | nil => exact h
  | cons v rx ih => exact ih (g.takeBit v) (hstep g v h)

/-- The checker works beside the window's detectors and the level sums. -/
theorem checkBit_window (g : Engine) (v : Bool) :
    (g.checkBit v).lane.codeDet = g.lane.codeDet ∧ (g.checkBit v).lane.ais = g.lane.ais ∧
      (g.checkBit v).lane.winBits = g.lane.winBits ∧ (g.checkBit v).lane.wordDet = g.lane.wordDet ∧
      (g.checkBit v).meas.levelS = g.meas.levelS ∧ (g.checkBit v).meas.samplesN = g.meas.samplesN := by
  unfold Engine.checkBit
  split_ifs
  · simp
  · simp only [Engine.checkInSync]
    split_ifs <;> simp [Measurement.count]
  · simp

theorem takeBit_winBits (g : Engine) (v : Bool) : (g.takeBit v).lane.winBits = g.lane.winBits + 1 := by
  obtain ⟨-, -, hwin, -⟩ := checkBit_window g v
  simp [Engine.takeBit, Lane.windowBit, hwin]

theorem takeBit_ais (g : Engine) (v : Bool) :
    (g.takeBit v).lane.ais = if g.lane.ais.armed then { g.lane.ais with ones := g.lane.ais.ones + oneIf v } else g.lane.ais := by
  obtain ⟨-, hais, -⟩ := checkBit_window g v
  simp [Engine.takeBit, Lane.windowBit, hais]

theorem takeBit_codeDet_armed (g : Engine) (v : Bool) (c : Code) (h : g.lane.codeDet.code = some c) :
    (g.takeBit v).lane.codeDet =
      { g.lane.codeDet with wrong := countWrong c g.lane.winBits v g.lane.codeDet.wrong } := by
  obtain ⟨hcode, -, hwin, -⟩ := checkBit_window g v
  simp [Engine.takeBit, Lane.windowBit, hcode, hwin, h]

theorem takeBit_codeDet_unarmed (g : Engine) (v : Bool) (h : g.lane.codeDet.code = none) :
    (g.takeBit v).lane.codeDet = g.lane.codeDet := by
  obtain ⟨hcode, -⟩ := checkBit_window g v
  simp [Engine.takeBit, Lane.windowBit, hcode, h]

theorem receive_winBits (g : Engine) (rx : List Bool) : (g.receive rx).lane.winBits = g.lane.winBits + rx.length := by
  induction rx generalizing g with
  | nil => rfl
  | cons v rx ih => rw [receive_cons, ih, takeBit_winBits, List.length_cons]; omega

/-- The level sums move at the tick alone (R37). -/
theorem receive_levels (g : Engine) (rx : List Bool) :
    (g.receive rx).meas.levelS = g.meas.levelS ∧ (g.receive rx).meas.samplesN = g.meas.samplesN := by
  refine receive_keeps (fun h => h.meas.levelS = g.meas.levelS ∧ h.meas.samplesN = g.meas.samplesN) ?_ g rx ⟨rfl, rfl⟩
  rintro h v ⟨hS, hN⟩
  obtain ⟨-, -, -, -, kS, kN⟩ := checkBit_window h v
  exact ⟨kS.trans hS, kN.trans hN⟩

/-- Of the generator, received bits touch the altered bits on their way alone. -/
theorem receive_gen (g : Engine) (rx : List Bool) :
    (g.receive rx).lane.gen = { g.lane.gen with placed := (g.receive rx).lane.gen.placed } := by
  obtain ⟨-, -, -, -, -, -, -, -, -, hgen, -⟩ := receive_listens rx g
  exact hgen

/-- Altered bits on their way arrive, and none joins them as bits are received. -/
theorem receive_placed (g : Engine) (rx : List Bool) : (g.receive rx).lane.gen.placed.Sublist g.lane.gen.placed := by
  refine receive_keeps (fun h => h.lane.gen.placed.Sublist g.lane.gen.placed) ?_ g rx (List.Sublist.refl _)
  intro h v hsub
  refine List.Sublist.trans ?_ hsub
  change (h.checkBit v).lane.gen.placed.Sublist h.lane.gen.placed
  unfold Engine.checkBit
  split_ifs
  · exact List.Sublist.refl _
  · simp only [Engine.checkInSync]
    cases h.lane.arriving with
    | none => exact List.Sublist.refl _
    | some p => exact List.erase_sublist
  · exact List.Sublist.refl _

/-- An unarmed checker stands, with the generator's altered bits and the counters (R31). -/
theorem receive_unarmed (g : Engine) (rx : List Bool) (h : g.lane.checker.arm = .unarmed) :
    (g.receive rx).lane.checker = g.lane.checker ∧ (g.receive rx).lane.gen = g.lane.gen ∧ (g.receive rx).meas = g.meas := by
  refine receive_keeps (fun k => k.lane.checker = g.lane.checker ∧ k.lane.gen = g.lane.gen ∧ k.meas = g.meas) ?_ g rx
    ⟨rfl, rfl, rfl⟩
  rintro k v ⟨hk, hgen, hmeas⟩
  have hun : k.checkBit v = k := by simp [Engine.checkBit, hk, h]
  simp [Engine.takeBit, Lane.windowBit, hun, hk, hgen, hmeas]

/-- A word detector that does not search stands (R38). -/
theorem receive_wordDet_off (g : Engine) (rx : List Bool) (h : g.lane.wordDet.search = none) :
    (g.receive rx).lane.wordDet = g.lane.wordDet := by
  refine receive_keeps (fun k => k.lane.wordDet = g.lane.wordDet) ?_ g rx rfl
  intro k v hk
  obtain ⟨-, -, -, hword, -⟩ := checkBit_window k v
  simp [Engine.takeBit, hword, hk, WordDetector.take, h]

theorem receive_codeDet_unarmed (g : Engine) (rx : List Bool) (h : g.lane.codeDet.code = none) :
    (g.receive rx).lane.codeDet = g.lane.codeDet := by
  refine receive_keeps (fun k => k.lane.codeDet = g.lane.codeDet) ?_ g rx rfl
  intro k v hk
  rw [takeBit_codeDet_unarmed k v (by rw [hk]; exact h), hk]

theorem receive_ais_unarmed (g : Engine) (rx : List Bool) (h : g.lane.ais.armed = false) :
    (g.receive rx).lane.ais = g.lane.ais := by
  refine receive_keeps (fun k => k.lane.ais = g.lane.ais) ?_ g rx rfl
  intro k v hk
  simp [takeBit_ais, hk, h]

/-- An armed AIS detector counts the ones of the window (R36). -/
theorem receive_ais (g : Engine) (rx : List Bool) (h : g.lane.ais.armed = true) :
    (g.receive rx).lane.ais = { g.lane.ais with ones := g.lane.ais.ones + rx.count true } := by
  induction rx generalizing g with
  | nil => rfl
  | cons v rx ih =>
    have hv : (g.takeBit v).lane.ais = { g.lane.ais with ones := g.lane.ais.ones + oneIf v } := by simp [takeBit_ais, h]
    rw [receive_cons, ih _ (by rw [hv]; exact h), hv]
    cases v <;> simp [oneIf, Nat.add_assoc, Nat.add_comm 1]

/-- The bits of `rx` that differ from the code in one phase, the first of them bit `k` of the window (R35). -/
def Code.wrongBits (c : Code) (phase k : Nat) (rx : List Bool) : Nat :=
  (List.range rx.length).countP (fun i => rx.getD i false != c.bit ((phase + (k + i)) % c.length))

theorem wrongBits_cons (c : Code) (phase k : Nat) (v : Bool) (rx : List Bool) :
    c.wrongBits phase k (v :: rx) =
      (if v = c.bit ((phase + k) % c.length) then 0 else 1) + c.wrongBits phase (k + 1) rx := by
  simp only [Code.wrongBits, List.length_cons, List.range_succ_eq_map, List.countP_cons, List.countP_map]
  rw [Nat.add_comm]
  congr 1
  · simp
  · refine List.countP_congr (fun i _ => ?_)
    simp [Nat.add_assoc, Nat.add_comm 1 i]

/-- An armed code detector counts the wrong bits of the window in every phase (R35). -/
theorem receive_codeDet (g : Engine) (rx : List Bool) (c : Code) (h : g.lane.codeDet.code = some c) :
    (g.receive rx).lane.codeDet = { g.lane.codeDet with
      wrong := g.lane.codeDet.wrong.mapIdx (fun phase n => n + c.wrongBits phase g.lane.winBits rx) } := by
  induction rx generalizing g with
  | nil =>
    have hid : g.lane.codeDet.wrong.mapIdx (fun phase n => n + c.wrongBits phase g.lane.winBits []) =
        g.lane.codeDet.wrong := List.ext_getElem (by simp) (fun i _ _ => by simp [Code.wrongBits])
    rw [hid]; rfl
  | cons v rx ih =>
    have hv := takeBit_codeDet_armed g v c h
    rw [receive_cons, ih _ (by rw [hv]; exact h), hv, takeBit_winBits]
    simp only [countWrong, List.mapIdx_mapIdx, wrongBits_cons]
    congr 2
    funext phase n
    simp only [Function.comp]
    split <;> omega

/-! ## The judgement of a window -/

theorem fewest_le_iff (l : List Nat) (b : Nat) (h : l ≠ []) : fewest l ≤ b ↔ ∃ n ∈ l, n ≤ b := by
  induction l with
  | nil => exact absurd rfl h
  | cons n rest ih =>
    cases rest with
    | nil => simp [fewest]
    | cons m rest => simp [fewest, ih (List.cons_ne_nil m rest)]

/-- A window matches when it has bits and some phase has no more than one wrong bit in 64 (R35). -/
theorem windowMatches_eq (d : CodeDetector) (b : Nat) (h : d.wrong ≠ []) :
    d.windowMatches b =
      (decide (0 < b) && (List.range d.wrong.length).any (fun phase => decide (d.wrong.getD phase 0 ≤ b / 64))) := by
  unfold CodeDetector.windowMatches
  congr 1
  rw [Bool.eq_iff_iff, decide_eq_true_iff, fewest_le_iff _ _ h, List.any_eq_true]
  constructor
  · rintro ⟨n, hn, hle⟩
    obtain ⟨i, hi, rfl⟩ := List.getElem_of_mem hn
    exact ⟨i, List.mem_range.mpr hi, by simpa [hi] using hle⟩
  · rintro ⟨i, hi, hle⟩
    have hi' := List.mem_range.mp hi
    exact ⟨d.wrong[i], List.getElem_mem hi', by simpa [hi'] using hle⟩

/-- A part-window is not judged; a window judged is counted when it matches (R35). -/
theorem judge_codeDet (d : CodeDetector) (b : Nat) (c : Code) (h : d.code = some c) :
    d.judge b = ⟨some c, false, List.replicate c.length 0,
      if d.part = true then d.count else if d.windowMatches b then d.count + 1 else 0⟩ := by
  simp [CodeDetector.judge, h]

/-- Ten AIS windows in a row raise AIS (R36). -/
theorem judge_ais (d : AisDetector) (b : Nat) (h : d.armed = true) :
    let count := if d.part = true then d.count else if d.windowIsAis b then d.count + 1 else 0
    d.judge b = ⟨true, false, 0, count, d.raised || decide (10 ≤ count)⟩ := by
  simp [AisDetector.judge, h]

theorem receive_judge_codeDet_unarmed (g : Engine) (rx : List Bool) (b : Nat) (h : g.lane.codeDet.code = none) :
    (g.receive rx).lane.codeDet.judge b = g.lane.codeDet := by
  rw [receive_codeDet_unarmed g rx h]
  simp [CodeDetector.judge, h]

theorem receive_judge_ais_unarmed (g : Engine) (rx : List Bool) (b : Nat) (h : g.lane.ais.armed = false) :
    (g.receive rx).lane.ais.judge b = g.lane.ais := by
  rw [receive_ais_unarmed g rx h]
  simp [AisDetector.judge, h]

/-- The code detector behind the window that the bits `rx` fill up (R35). -/
theorem receive_judge_codeDet (g : Engine) (rx : List Bool) (c : Code) (h : g.lane.codeDet.code = some c)
    (hlen : 1 ≤ c.length) (hwrong : g.lane.codeDet.wrong.length = c.length) :
    let bits := g.lane.winBits + rx.length
    let wrong (phase : Nat) : Nat := g.lane.codeDet.wrong.getD phase 0 + c.wrongBits phase g.lane.winBits rx
    (g.receive rx).lane.codeDet.judge bits = ⟨some c, false, List.replicate c.length 0,
      if g.lane.codeDet.part = true then g.lane.codeDet.count
      else if decide (0 < bits) && (List.range c.length).any (fun phase => decide (wrong phase ≤ bits / 64)) then
        g.lane.codeDet.count + 1
      else 0⟩ := by
  intro bits wrong
  have hd := receive_codeDet g rx c h
  have hlen' : (g.receive rx).lane.codeDet.wrong.length = c.length := by simp [hd, hwrong]
  have hne : (g.receive rx).lane.codeDet.wrong ≠ [] := List.ne_nil_of_length_pos (by omega)
  have hphase : ∀ phase, phase < c.length → (g.receive rx).lane.codeDet.wrong.getD phase 0 = wrong phase := by
    intro phase hp
    simp [hd, wrong, hwrong, hp]
  have hany : (List.range c.length).any (fun phase => decide ((g.receive rx).lane.codeDet.wrong.getD phase 0 ≤ bits / 64)) =
      (List.range c.length).any (fun phase => decide (wrong phase ≤ bits / 64)) := by
    rw [Bool.eq_iff_iff, List.any_eq_true, List.any_eq_true]
    refine exists_congr (fun phase => and_congr_right (fun hp => ?_))
    rw [hphase phase (List.mem_range.mp hp)]
  rw [judge_codeDet _ _ c (by rw [hd]; exact h), windowMatches_eq _ _ hne, hlen', hany, hd]

/-- The AIS detector behind the window that the bits `rx` fill up (R36). -/
theorem receive_judge_ais (g : Engine) (rx : List Bool) (h : g.lane.ais.armed = true) :
    let bits := g.lane.winBits + rx.length
    let allOnes := decide (0 < bits) && decide (999 * bits ≤ 1000 * (g.lane.ais.ones + rx.count true))
    let count := if g.lane.ais.part = true then g.lane.ais.count else if allOnes then g.lane.ais.count + 1 else 0
    (g.receive rx).lane.ais.judge bits = ⟨true, false, 0, count, g.lane.ais.raised || decide (10 ≤ count)⟩ := by
  intro bits allOnes count
  have hd := receive_ais g rx h
  rw [judge_ais _ _ (by rw [hd]; exact h), hd]
  rfl

/-! ## The tick of one engine -/

/-- The level sample moves the meter and the level sums alone (R37). -/
theorem sampleLevel_eq (g : Engine) (level : Int) :
    g.sampleLevel level = { g with
      lane := { g.lane with meter := if g.lane.meter.armed = true then g.lane.meter.sample level else g.lane.meter }
      meas := { g.meas with
        levelS := if g.lane.meter.armed = true ∧ g.lane.meter.accumulating = true then g.meas.levelS + readLevel level
          else g.meas.levelS
        samplesN := if g.lane.meter.armed = true ∧ g.lane.meter.accumulating = true then g.meas.samplesN + 1
          else g.meas.samplesN } } := by
  unfold Engine.sampleLevel
  by_cases ha : g.lane.meter.armed = true
  · by_cases hc : g.lane.meter.accumulating = true <;> simp [ha, hc]
  · simp [ha]

/-- A tick of an engine, in terms of what its receiver has heard of the window. -/
theorem tick_eq (g : Engine) (src : Source) (rest : Nat) (inp : LaneInput) :
    let heard := (g.sends src rest).receive inp.rx
    let bits := g.lane.winBits + inp.rx.length
    g.tick src rest inp = { g with
      context := g.context.map (fun x => { x with phaseTimer := x.phaseTimer + 1 })
      meas := { heard.meas with
        levelS := if g.lane.meter.armed = true ∧ g.lane.meter.accumulating = true then g.meas.levelS + readLevel inp.level
          else g.meas.levelS
        samplesN := if g.lane.meter.armed = true ∧ g.lane.meter.accumulating = true then g.meas.samplesN + 1
          else g.meas.samplesN }
      lane :=
        { gen := heard.lane.gen, checker := heard.lane.checker, wordDet := heard.lane.wordDet
          codeDet := heard.lane.codeDet.judge bits, ais := heard.lane.ais.judge bits
          meter := if g.lane.meter.armed = true then g.lane.meter.sample inp.level else g.lane.meter
          winBits := 0, firstGain := g.lane.firstGain } } := by
  intro heard bits
  obtain ⟨hst, hctx, hoff, hdis, hchk, hword, hlim, hset, hmark, -, hfirst, hmeter, -, -⟩ :=
    receive_listens inp.rx (g.sends src rest)
  obtain ⟨hS, hN⟩ := receive_levels (g.sends src rest) inp.rx
  have hwin : heard.lane.winBits = bits := receive_winBits _ _
  simp only [Engine.tick, sampleLevel_eq, Engine.tickTimer, Engine.modContext, Lane.judgeWindow]
  simp only [heard, hst, hctx, hoff, hdis, hchk, hword, hlim, hset, hmark, hfirst, hmeter, hS, hN, hwin, sends_frame]

theorem tick_engine (s : State) (lanes : Vector LaneInput 16) (e : Fin 16) :
    (s.tick lanes).engine e.val =
      (s.engine e.val).tick (s.laneSource e.val) (Config.windowBits - s.laneTime) lanes[e] := by
  simp [State.tick, State.engine, e.isLt]

/-- The interval timers count in RUNNING (R119). -/
theorem tick_cls (s : State) (lanes : Vector LaneInput 16) (k : Nat) (h : k < 4) :
    (s.tick lanes).cls k =
      if s.campaign.state = .running then { s.cls k with timer := min ((s.cls k).timer + 1) (s.cls k).interval }
      else s.cls k := by
  unfold State.tick State.cls
  split <;> simp [h, PacingClass.tick]

/-- What a lane has sent by the tick, by the lane output column of R23. -/
theorem run_laneSource (s : State) (e n : Nat) (g : Generator) :
    ((s.engine (s.leadOf e)).OnTest → g.run (s.laneSource e) n = g.testRun n) ∧
      ((s.engine (s.leadOf e)).OnCode → g.run (s.laneSource e) n = { g with codePos := g.codePos + n }) ∧
      (¬(s.engine (s.leadOf e)).OnTest → ¬(s.engine (s.leadOf e)).OnCode → g.run (s.laneSource e) n = g) := by
  rw [laneSource_eq_leadOf]
  refine ⟨fun ht => ?_, fun hc => ?_, fun ht hc => ?_⟩
  · rw [source_of_onTest ht, run_test]
  · obtain ⟨c, hc⟩ := source_of_onCode hc
    rw [hc]; rfl
  · rw [source_of_neither ht hc]; rfl

/-- Settles O51. The tick of an engine is written out once (`tick_eq`); each clause is then a lemma about the generator, the
bits received or the judgement of the window. -/
theorem tickCountsTime : Obligations.TickCountsTime := by
  intro lanes s
  refine ⟨s.tick lanes, rfl, rfl, rfl, rfl, fun e => ?_, fun k hk => tick_cls s lanes k hk, rfl⟩
  obtain ⟨htest, hcode, hdark⟩ := run_laneSource s e.val (1250000 - s.laneTime) (s.engine e.val).lane.gen
  intro g h rest
  let sent : Engine := g.sends (s.laneSource e.val) rest
  have hh : h = g.tick (s.laneSource e.val) rest lanes[e] := tick_engine s lanes e
  rw [hh, tick_eq]
  refine ⟨rfl, rfl, rfl, ⟨sent.lane.gen, htest, hcode, hdark, ⟨rfl, rfl, rfl, rfl⟩, receive_gen sent _, receive_placed sent _,
    fun hun => ?checker, receive_wordDet_off sent _⟩, fun hm => ?meterOff, receive_judge_codeDet_unarmed sent _ _,
    receive_judge_ais_unarmed sent _ _, fun hm => ?meterOn, receive_judge_codeDet sent _, receive_judge_ais sent _⟩
  case checker =>
    obtain ⟨hk, hgen, hmeas⟩ := receive_unarmed sent lanes[e].rx hun
    exact ⟨hk, hgen, by rw [hmeas]; rfl⟩
  case meterOff => simp [hm]
  case meterOn => simp [hm, Meter.sample]

end Sys2Proof.Machine
end


section
/-! SUPPORT. What a taken command does first: the frame leaves the buffer, a range command checks its range and its records
(R11, R171). -/

namespace Sys2Proof.Machine

/-! ## Taking and replying -/

theorem hostCommand_takes {s : State} {code : Byte} {tag : Tag} {p : List Byte} {rest : List Frame}
    (h : s.Takes code tag p rest) (body : Cmd → State → State) :
    hostCommand code tag p s body = .next (body ⟨code, tag⟩ (s.taken rest)) :=
  hostCommand_head code tag p s body rest h.1 h.2.1 h.2.2

theorem taken_reply (s : State) (rest : List Frame) (code : Byte) (tag : Tag) (st : Status) (p : List Byte) (b : Bool) :
    (s.taken rest).reply ⟨code, tag⟩ st p b = s.answered rest (replyTo code tag st b p) := rfl

theorem taken_replyRange (s : State) (rest : List Frame) (code : Byte) (tag : Tag) (st : Status) (n k : Nat)
    (b : Bool) :
    (s.taken rest).replyRange ⟨code, tag⟩ st n k b = s.answered rest (replyTo code tag st b (be8 n ++ be8 k)) := rfl

@[simp] theorem taken_circuit (s : State) (rest : List Frame) (c : Nat) : (s.taken rest).circuit c = s.circuit c := rfl

@[simp] theorem answered_circuit (s : State) (rest : List Frame) (r : TxRecord) (c : Nat) :
    (s.answered rest r).circuit c = s.circuit c := rfl

@[simp] theorem answered_node (s : State) (rest : List Frame) (r : TxRecord) (n : Nat) :
    (s.answered rest r).node n = s.node n := rfl

@[simp] theorem answered_cls (s : State) (rest : List Frame) (r : TxRecord) (k : Nat) :
    (s.answered rest r).cls k = s.cls k := rfl

theorem circuit_of_le (s : State) (c : Nat) (h : 2048 ≤ c) : s.circuit c = Circuit.vacant := by
  simp [State.circuit, h]

theorem fixedLength_of_eq {n : Nat} {p : List Byte} (h : p.length = n) (c : Cmd) (body : State → State) (s : State) :
    fixedLength n p c body s = body s := if_pos h

/-! ## The first failing record (R11) -/

theorem firstFailure_none (check : Nat → Option Status) (l : List Nat) (h : ∀ k ∈ l, check k = none) :
    firstFailure check l = none := by
  induction l with
  | nil => rfl
  | cons k rest ih =>
    obtain ⟨hk, hrest⟩ := List.forall_mem_cons.1 h
    simp [firstFailure, hk, ih hrest]

theorem firstFailure_append (check : Nat → Option Status) (l m : List Nat) (h : ∀ k ∈ l, check k = none) :
    firstFailure check (l ++ m) = firstFailure check m := by
  induction l with
  | nil => rfl
  | cons k rest ih =>
    obtain ⟨hk, hrest⟩ := List.forall_mem_cons.1 h
    simp [firstFailure, hk, ih hrest]

/-- The first failing offset of a range is the one behind which nothing failed. -/
theorem firstFailure_range (check : Nat → Option Status) {n k : Nat} {st : Status} (hk : k < n)
    (h : ∀ j, j < k → check j = none) (hst : check k = some st) : firstFailure check (List.range n) = some (st, k) := by
  obtain ⟨m, rfl⟩ : ∃ m, n = k + (m + 1) := ⟨n - k - 1, by omega⟩
  rw [List.range_add, firstFailure_append _ _ _ (fun j hj => h j (List.mem_range.1 hj)), List.range_succ_eq_map]
  simp [firstFailure, hst]

/-! ## The range check and what follows it -/

theorem rangeFault_none {first count : Nat} (h : 1 ≤ count) (h16 : count ≤ 16) (hr : first + count ≤ 2048) :
    rangeFault first count = none := by
  unfold rangeFault
  rw [if_neg (by omega), if_pos hr]

theorem rangeFault_count {first count : Nat} (h : count = 0 ∨ 16 < count) : rangeFault first count = some 0 := if_pos h

theorem rangeFault_end {first count : Nat} (h : 1 ≤ count) (h16 : count ≤ 16) (hr : 2048 < first + count) :
    rangeFault first count = some (2048 - first) := by
  unfold rangeFault
  rw [if_neg (by omega), if_neg (by omega)]

section
variable {first count : Nat} {c : Cmd} {check : State → Nat → Option Status} {carryOut : State → State} {s : State}

theorem rangeCommand_outside {k : Nat} (h : rangeFault first count = some k) :
    rangeCommand first count c check carryOut s = s.replyRange c .badField count k false := by
  simp only [rangeCommand, h]

theorem rangeCommand_refused {k : Nat} {st : Status} (hr : rangeFault first count = none) (hk : k < count)
    (h : ∀ j, j < k → check s j = none) (hst : check s k = some st) :
    rangeCommand first count c check carryOut s = s.replyRange c st count k false := by
  simp only [rangeCommand, hr, firstFailure_range (check s) hk h hst]

theorem rangeCommand_accepted (hr : rangeFault first count = none) (h : ∀ k, k < count → check s k = none) :
    rangeCommand first count c check carryOut s = carryOut s := by
  simp only [rangeCommand, hr, firstFailure_none (check s) _ (fun k hk => h k (List.mem_range.1 hk))]

end

theorem defineLengthOk_of_count {p : List Byte} (h3 : 3 ≤ p.length) (h : rd8 p 2 = 0 ∨ 16 < rd8 p 2) :
    defineLengthOk p = true := by
  rcases h with h | h <;> simp [defineLengthOk, h3, h]

theorem defineLengthOk_of_length {p : List Byte} (h : p.length = 3 + 37 * rd8 p 2) : defineLengthOk p = true := by
  simp [defineLengthOk, h]

/-! ## Folds over a range -/

/-- A fold over a range keeps an invariant that counts its steps. -/
theorem foldl_range_inv {α : Type} (f : α → Nat → α) (I : Nat → α → Prop) (n : Nat) (a : α) (h0 : I 0 a)
    (hstep : ∀ k x, k < n → I k x → I (k + 1) (f x k)) : I n ((List.range n).foldl f a) := by
  induction n with
  | zero => exact h0
  | succ n ih =>
    rw [List.range_succ, List.foldl_append]
    exact hstep n _ (Nat.lt_succ_self n) (ih (fun k x hk => hstep k x (Nat.lt_succ_of_lt hk)))

theorem foldl_rangeOf (f : State → Nat → State) (first count : Nat) (s : State) :
    (rangeOf first count).foldl f s = (List.range count).foldl (fun t k => f t (first + k)) s := by
  rw [rangeOf, List.foldl_map]

/-- A fold that rewrites each record of a range alone rewrites them all and no other. -/
theorem foldl_range_circuits (f : State → Nat → State) (first n : Nat) (g : Nat → Circuit → Circuit) (P : State → Prop)
    (s : State) (hs : P s)
    (hstep : ∀ t k, k < n → P t → P (f t k) ∧ (f t k).circuit (first + k) = g k (t.circuit (first + k)) ∧
      ∀ c, c ≠ first + k → (f t k).circuit c = t.circuit c) :
    let t := (List.range n).foldl f s
    P t ∧ (∀ k, k < n → t.circuit (first + k) = g k (s.circuit (first + k))) ∧
      ∀ c, (c < first ∨ first + n ≤ c) → t.circuit c = s.circuit c := by
  refine foldl_range_inv f (fun m t => P t ∧ (∀ k, k < m → t.circuit (first + k) = g k (s.circuit (first + k))) ∧
    ∀ c, (c < first ∨ first + m ≤ c) → t.circuit c = s.circuit c) n s ⟨hs, fun k hk => by omega, fun _ _ => rfl⟩ ?_
  rintro k t hk ⟨hp, hdone, hrest⟩
  obtain ⟨hp', hself, hother⟩ := hstep t k hk hp
  refine ⟨hp', fun j hj => ?_, fun c hc => ?_⟩
  · rcases Nat.lt_succ_iff_lt_or_eq.1 hj with hlt | rfl
    · rw [hother _ (by omega), hdone j hlt]
    · rw [hself, hrest _ (by omega)]
  · rw [hother c (by omega), hrest c (by omega)]

end Sys2Proof.Machine
end


section
/-! SUPPORT. The circuit table: refused ranges, refused records, carried definitions (R11 to R14, R18, R19). -/

namespace Sys2Proof.Machine

/-! ## A range outside the table (R11) -/

section
variable {p : List Byte} {c : Cmd} {check : State → Nat → Option Status} {carryOut : Nat → Nat → State → State} {s : State}

theorem rangeBody_outside {k : Nat} (h : p.length = 3) (hf : rangeFault (rd16 p 0) (rd8 p 2) = some k) :
    rangeBody p c check carryOut s = s.replyRange c .badField (rd8 p 2) k false := by
  rw [rangeBody, fixedLength_of_eq h, rangeCommand_outside hf]

theorem rangeBody_refused {k : Nat} {st : Status} (h : p.length = 3) (hf : rangeFault (rd16 p 0) (rd8 p 2) = none)
    (hk : k < rd8 p 2) (hpass : ∀ j, j < k → check s (rd16 p 0 + j) = none) (hst : check s (rd16 p 0 + k) = some st) :
    rangeBody p c check carryOut s = s.replyRange c st (rd8 p 2) k false := by
  rw [rangeBody, fixedLength_of_eq h, rangeCommand_refused hf hk hpass hst]

theorem rangeBody_accepted (h : p.length = 3) (hf : rangeFault (rd16 p 0) (rd8 p 2) = none)
    (hpass : ∀ k, k < rd8 p 2 → check s (rd16 p 0 + k) = none) :
    rangeBody p c check carryOut s = carryOut (rd16 p 0) (rd8 p 2) s := by
  rw [rangeBody, fixedLength_of_eq h, rangeCommand_accepted hf hpass]

theorem circuitDefineBody_outside {k : Nat} (h : defineLengthOk p = true)
    (hf : rangeFault (rd16 p 0) (rd8 p 2) = some k) :
    circuitDefineBody p c s = s.replyRange c .badField (rd8 p 2) k false := by
  rw [circuitDefineBody, if_pos h, rangeCommand_outside hf]

end

/-- A range fault is the whole answer of each of the six range commands. -/
theorem rangeCommands_outside (tag : Tag) (payload : List Byte) (rest : List Frame) (s : State) (x : Byte × Instr)
    (hx : x ∈ [((0x10 : Byte), Instr.circuitDefine tag payload), (0x11, .circuitReport tag payload),
      (0x12, .circuitRetire tag payload), (0x13, .circuitSuspend tag payload), (0x14, .circuitResume tag payload),
      (0x15, .circuitBaselineClear tag payload)])
    (ht : s.Takes x.1 tag payload rest) (hdef : x.1 = 0x10 → defineLengthOk payload = true)
    (h3 : x.1 ≠ 0x10 → payload.length = 3) {k : Nat} (hf : rangeFault (rd16 payload 0) (rd8 payload 2) = some k) :
    exec x.2 s = .next (s.answered rest (replyTo x.1 tag .badField false (be8 (rd8 payload 2) ++ be8 k))) := by
  simp only [List.mem_cons, List.not_mem_nil, or_false] at hx
  have henough : ∀ (code : Byte) (check : State → Nat → Option Status) (carry : Cmd → Nat → Nat → State → State),
      s.Takes code tag payload rest → payload.length = 3 →
      hostCommand code tag payload s (fun c => rangeBody payload c check (carry c)) =
        .next (s.answered rest (replyTo code tag .badField false (be8 (rd8 payload 2) ++ be8 k))) := by
    intro code check carry ht h3
    rw [hostCommand_takes ht, rangeBody_outside h3 hf, taken_replyRange]
  rcases hx with rfl | rfl | rfl | rfl | rfl | rfl
  case inl =>
    change hostCommand 0x10 tag payload s (circuitDefineBody payload) = _
    rw [hostCommand_takes ht, circuitDefineBody_outside (hdef rfl) hf, taken_replyRange]
  all_goals exact henough _ _ _ ht (h3 (by simp))

/-- Settles O13, from the two ways a range fails. -/
theorem badRangeRefusesTheCommand : Obligations.BadRangeRefusesTheCommand := by
  intro tag payload rest s x hx ht h3 hlen
  refine ⟨fun hcount => ?_, fun hdef h1 h16 hend => ?_⟩
  · exact rangeCommands_outside tag payload rest s x hx ht (fun _ => defineLengthOk_of_count hlen hcount) h3
      (rangeFault_count hcount)
  · exact rangeCommands_outside tag payload rest s x hx ht (fun h => defineLengthOk_of_length (hdef h)) h3
      (rangeFault_end h1 h16 hend)

/-! ## RESUME and BASELINE_CLEAR (R18, R19) -/

theorem definedCheck_none {s : State} {c : Nat} (h : (s.circuit c).defState ≠ .vacant) :
    definedCheck s c = none := if_neg h

theorem definedCheck_vacant {s : State} {c : Nat} (h : (s.circuit c).defState = .vacant) :
    definedCheck s c = some .notDefined := if_pos h

/-- Records rewritten one after the other, and nothing but the records. -/
theorem foldl_setCircuits (f : Circuit → Circuit) (first n : Nat) (hr : first + n ≤ 2048) (s : State) :
    let t := (rangeOf first n).foldl (fun t c => t.setCircuit c (f (t.circuit c))) s
    (∀ k, k < n → t.circuit (first + k) = f (s.circuit (first + k))) ∧
      (∀ c, (c < first ∨ first + n ≤ c) → t.circuit c = s.circuit c) ∧ t = { s with circuits := t.circuits } := by
  rw [foldl_rangeOf]
  obtain ⟨heq, hdone, hrest⟩ := foldl_range_circuits (fun t k => t.setCircuit (first + k) (f (t.circuit (first + k)))) first n
    (fun _ => f) (fun t => t = { s with circuits := t.circuits }) s rfl (fun t k hk ht =>
      ⟨by rw [ht]; rfl, circuit_setCircuit_self _ _ _ (by omega), fun c hc => circuit_setCircuit_ne _ _ _ _ (Ne.symm hc)⟩)
  exact ⟨hdone, hrest, heq⟩

/-- What RESUME and BASELINE_CLEAR have in common: the first VACANT record refuses, else each record is rewritten. -/
theorem rewriteCommand_spec (code : Byte) (f : Circuit → Circuit) (tag : Tag) (payload : List Byte) (rest : List Frame)
    (s : State) (ht : s.Takes code tag payload rest) (hlen : payload.length = 3)
    (hf : rangeFault (rd16 payload 0) (rd8 payload 2) = none) (hr : rd16 payload 0 + rd8 payload 2 ≤ 2048) :
    let r := hostCommand code tag payload s (fun c => rangeBody payload c definedCheck (fun first n u =>
      (rangeOf first n).foldl (fun t c => t.setCircuit c (f (t.circuit c))) (u.replyRange c .ok n 0 false)))
    ((∀ k, k < rd8 payload 2 → (s.circuit (rd16 payload 0 + k)).defState ≠ .vacant) →
      ∃ t, r = .next t ∧ (∀ k, k < rd8 payload 2 → t.circuit (rd16 payload 0 + k) = f (s.circuit (rd16 payload 0 + k))) ∧
        (∀ c, (c < rd16 payload 0 ∨ rd16 payload 0 + rd8 payload 2 ≤ c) → t.circuit c = s.circuit c) ∧
        t = { s.answered rest (replyTo code tag .ok false (be8 (rd8 payload 2) ++ be8 0)) with circuits := t.circuits }) ∧
    (∀ k, k < rd8 payload 2 → (∀ j, j < k → (s.circuit (rd16 payload 0 + j)).defState ≠ .vacant) →
      (s.circuit (rd16 payload 0 + k)).defState = .vacant →
      r = .next (s.answered rest (replyTo code tag .notDefined false (be8 (rd8 payload 2) ++ be8 k)))) := by
  simp only [hostCommand_takes ht]
  refine ⟨fun hall => ⟨_, congrArg Host.Outcome.next (rangeBody_accepted hlen hf fun k hk => definedCheck_none (hall k hk)), ?_⟩,
    fun k hk hpre hvac => ?_⟩
  · rw [taken_replyRange]
    exact foldl_setCircuits f _ _ hr (s.answered rest (replyTo code tag .ok false (be8 (rd8 payload 2) ++ be8 0)))
  · rw [rangeBody_refused (s := s.taken rest) hlen hf hk (fun j hj => definedCheck_none (hpre j hj))
      (definedCheck_vacant hvac), taken_replyRange]

/-- Settles O21: both commands rewrite each record of the range alone. -/
theorem resumeAndBaselineClear : Obligations.ResumeAndBaselineClear := by
  intro tag payload rest s x hx ht hlen h1 h16 hr
  have hf := rangeFault_none h1 h16 hr
  simp only [List.mem_cons, List.not_mem_nil, or_false] at hx
  rcases hx with rfl | rfl
  · exact rewriteCommand_spec 0x14 (fun r => { r with defState := .defined }) tag payload rest s ht hlen hf hr
  · exact rewriteCommand_spec 0x15 (fun r => { r with baseDelay := none, baseLevel := none }) tag payload rest s ht hlen hf hr

/-! ## Carried definitions (R5, R12) -/

/-- Bit `i` of a rotation by `k` is bit `i - k`, counted cyclically, of the pattern. -/
theorem testBit_rotation (n p k i : Nat) (hk : k < n) (hi : i < n) :
    (rotation n p k).testBit i = p.testBit ((i + (n - k)) % n) := by
  have hlow : p % 2 ^ n / 2 ^ (n - k) < 2 ^ k := by
    rw [Nat.div_lt_iff_lt_mul (by positivity), ← pow_add, show k + (n - k) = n by omega]
    exact Nat.mod_lt _ (by positivity)
  rw [rotation, Nat.testBit_mod_two_pow, mul_comm, Nat.testBit_two_pow_mul_add _ hlow]
  by_cases hik : i < k
  · rw [if_pos hik, Nat.testBit_div_two_pow, Nat.testBit_mod_two_pow, Nat.mod_eq_of_lt (show i + (n - k) < n by omega)]
    simp [hi, show i + (n - k) < n by omega]
  · rw [if_neg hik, Nat.testBit_mod_two_pow, show i + (n - k) = (i - k) + n by omega, Nat.add_mod_right,
      Nat.mod_eq_of_lt (show i - k < n by omega)]
    simp [hi, show i - k < n by omega]

/-- Two patterns of `n` bits agree when all their bits do. -/
theorem mod_two_pow_eq_iff (n a b : Nat) (ha : a < 2 ^ n) : a = b % 2 ^ n ↔ ∀ i, i < n → b.testBit i = a.testBit i := by
  constructor
  · rintro rfl i hi
    simp [Nat.testBit_mod_two_pow, hi]
  · intro h
    apply Nat.eq_of_testBit_eq
    intro i
    rw [Nat.testBit_mod_two_pow]
    by_cases hi : i < n
    · simp [hi, h i hi]
    · have hle : 2 ^ n ≤ 2 ^ i := Nat.pow_le_pow_right (by omega) (by omega)
      simp [hi, Nat.testBit_lt_two_pow (show a < 2 ^ i by omega)]

/-- Two codes collide when some cyclic shift makes their bits agree. -/
theorem codesCollide_iff (d : CarriedDef) : codesCollide d = true ↔ d.actLength = d.deLength ∧
    ∃ k, k < d.actLength ∧ ∀ i, i < d.actLength → d.dePattern.testBit i = d.actPattern.testBit ((i + k) % d.actLength) := by
  simp only [codesCollide, Bool.and_eq_true, beq_iff_eq, List.any_eq_true, List.mem_range]
  refine and_congr_right fun hlen => ?_
  rw [← hlen]
  have hrot : ∀ k, rotation d.actLength d.actPattern k = d.dePattern % 2 ^ d.actLength ↔
      ∀ i, i < d.actLength → d.dePattern.testBit i = (rotation d.actLength d.actPattern k).testBit i :=
    fun k => mod_two_pow_eq_iff _ _ _ (Nat.mod_lt _ (by positivity))
  simp only [hrot]
  constructor
  · rintro ⟨k, hk, hbits⟩
    refine ⟨(d.actLength - k) % d.actLength, Nat.mod_lt _ (by omega), fun i hi => ?_⟩
    rw [hbits i hi, testBit_rotation _ _ _ _ hk hi, Nat.add_mod_mod]
  · rintro ⟨k, hk, hbits⟩
    refine ⟨(d.actLength - k) % d.actLength, Nat.mod_lt _ (by omega), fun i hi => ?_⟩
    rw [hbits i hi, testBit_rotation _ _ _ _ (Nat.mod_lt _ (by omega)) hi]
    rcases Nat.eq_zero_or_pos k with rfl | hpos
    · simp
    · rw [Nat.mod_eq_of_lt (show d.actLength - k < d.actLength by omega), show d.actLength - (d.actLength - k) = k by omega]

theorem codeSound_iff (n p : Nat) : codeSound n p = true ↔ 6 ≤ n ∧ n ≤ 16 ∧ p % 2 ^ n ≠ 0 ∧ p % 2 ^ n ≠ 2 ^ n - 1 := by
  simp [codeSound, and_assoc]

/-- Settles O18: the checks of R12, the collision of the codes read bit by bit. -/
theorem soundDefinitionHasSoundCodes : Obligations.SoundDefinitionHasSoundCodes := by
  intro d
  have hcollide : codesCollide d = false ↔ (d.actLength = d.deLength → ∀ k, k < d.actLength →
      ∃ i, i < d.actLength ∧ d.dePattern.testBit i ≠ d.actPattern.testBit ((i + k) % d.actLength)) := by
    rw [← Bool.not_eq_true, codesCollide_iff]
    push Not
    rfl
  simp only [CarriedDef.sound, Bool.and_eq_true, codeSound_iff, Bool.not_eq_true', hcollide, decide_eq_true_eq,
    List.all_eq_true]
  unfold CarriedDef.spans
  tauto

/-! ## Stored definitions (R7, R13) -/

theorem stored_wasClamped (d : CarriedDef) :
    (d.wasClamped = true ↔ d.exponent < 6 ∨ 12 < d.exponent ∨ d.soakTime < 1 ∨ 600 < d.soakTime ∨ 15 < d.markers ∨
      d.minLevel < -400 ∨ 50 < d.minLevel) := by
  simp only [CarriedDef.wasClamped, clampNat, clampInt, Bool.or_eq_true, bne_iff_ne]
  omega

/-! ## The checks of a define (R12) -/

theorem defineCheck_none {d : CarriedDef} {st : ProbeStatus} (h : d.sound = true) (hst : st = .idle ∨ st = .queued) :
    defineCheck d st = none := by
  simp [defineCheck, h, hst]

theorem defineCheck_unsound {d : CarriedDef} (st : ProbeStatus) (h : d.sound = false) :
    defineCheck d st = some .badField := by
  simp [defineCheck, h]

theorem defineCheck_busy {d : CarriedDef} {st : ProbeStatus} (h : d.sound = true) (hi : st ≠ .idle)
    (hq : st ≠ .queued) :
    defineCheck d st = some .circuitBusy := by
  simp [defineCheck, h, hi, hq]

/-- An accepted define replies, then takes its records in ascending order. -/
theorem exec_circuitDefine_accepted {tag : Tag} {payload : List Byte} {rest : List Frame} {s : State}
    (ht : s.Takes 0x10 tag payload rest) (h1 : 1 ≤ rd8 payload 2) (h16 : rd8 payload 2 ≤ 16)
    (hr : rd16 payload 0 + rd8 payload 2 ≤ 2048) (hlen : payload.length = 3 + 37 * rd8 payload 2)
    (hpass : ∀ k, k < rd8 payload 2 → (defAt payload k).sound = true ∧
      ((s.circuit (rd16 payload 0 + k)).status = .idle ∨ (s.circuit (rd16 payload 0 + k)).status = .queued)) :
    exec (.circuitDefine tag payload) s = .next ((List.range (rd8 payload 2)).foldl
      (fun t k => t.defineOne (rd16 payload 0 + k) (defAt payload k).stored)
      (s.answered rest (replyTo 0x10 tag .ok ((List.range (rd8 payload 2)).any (fun k => (defAt payload k).wasClamped))
        (be8 (rd8 payload 2) ++ be8 0)))) := by
  change hostCommand 0x10 tag payload s (circuitDefineBody payload) = _
  rw [hostCommand_takes ht, circuitDefineBody, if_pos (defineLengthOk_of_length hlen),
    rangeCommand_accepted (rangeFault_none h1 h16 hr) (fun k hk => defineCheck_none (hpass k hk).1 (hpass k hk).2)]
  rfl

theorem defineOne_of_not_queued (s : State) (c : Nat) (d : Definition) (h : (s.circuit c).status ≠ .queued) :
    s.defineOne c d = s.setCircuit c ((s.circuit c).redefined d) := if_neg h

/-- Settles O14: one VACANT record, no entry to move. -/
theorem defineOnVacantRecord : Obligations.DefineOnVacantRecord := by
  refine ⟨fun d => ⟨rfl, stored_wasClamped d⟩, ?_⟩
  intro tag payload rest s ht h1 hlen hle hsound hvac hidle
  have hone : ∀ k, k < rd8 payload 2 → k = 0 := fun k hk => by omega
  have hlong : payload.length = 3 + 37 * rd8 payload 2 := by omega
  rw [exec_circuitDefine_accepted ht h1.ge (by omega) (by omega) hlong
    (fun k hk => by rw [hone k hk]; exact ⟨hsound, by rw [Nat.add_zero]; exact .inl hidle⟩), h1]
  simp only [List.range_one, List.foldl_cons, List.foldl_nil, List.any_cons, List.any_nil, Bool.or_false, Nat.add_zero]
  rw [defineOne_of_not_queued _ _ _ (by rw [answered_circuit, hidle]; decide), answered_circuit, Circuit.redefined, if_pos hvac]
  rfl

/-- Settles O17: the checks run before any record is written. -/
theorem defineIsAllOrNothing : Obligations.DefineIsAllOrNothing := by
  intro tag payload rest s k ht h1 h16 hr hlen hk hpre
  have hrefuse : ∀ st, defineCheck (defAt payload k) (s.circuit (rd16 payload 0 + k)).status = some st →
      exec (.circuitDefine tag payload) s =
        .next (s.answered rest (replyTo 0x10 tag st false (be8 (rd8 payload 2) ++ be8 k))) := by
    intro st hst
    change hostCommand 0x10 tag payload s (circuitDefineBody payload) = _
    rw [hostCommand_takes ht, circuitDefineBody, if_pos (defineLengthOk_of_length hlen),
      rangeCommand_refused (rangeFault_none h1 h16 hr) hk (fun j hj => defineCheck_none (hpre j hj).1 (hpre j hj).2) hst,
      taken_replyRange]
  exact ⟨fun h => hrefuse _ (defineCheck_unsound _ h), fun h hi hq => hrefuse _ (defineCheck_busy h hi hq)⟩

end Sys2Proof.Machine
end


section
/-! SUPPORT. What leaves the class queues by a command, and the campaign's end that may follow (R15 to R17, R118, R127, R128). -/

namespace Sys2Proof.Machine

/-! ## The queues and the counters -/

theorem cls_mapClasses (s : State) (f : PacingClass → PacingClass) (hf : f ⟨1, 1, 0, 0, []⟩ = ⟨1, 1, 0, 0, []⟩)
    (k : Nat) :
    ({ s with classes := s.classes.map f } : State).cls k = f (s.cls k) := by
  by_cases hk : k < 4 <;> simp [State.cls, hk, hf]

theorem cls_dequeue (s : State) (c k : Nat) :
    (s.dequeue c).cls k = { s.cls k with queue := (s.cls k).queue.filter (fun x => x != c) } :=
  cls_mapClasses s _ rfl k

theorem cls_zeroCredits (s : State) (k : Nat) : s.zeroCredits.cls k = { s.cls k with credits := 0, timer := 0 } :=
  cls_mapClasses s _ rfl k

theorem cls_removeQueued (s : State) (r : NotTested) (c k : Nat) :
    (s.removeQueued r c).cls k = { s.cls k with queue := (s.cls k).queue.filter (fun x => x != c) } :=
  cls_dequeue s c k

theorem campaign_removeQueued (s : State) (r : NotTested) (c : Nat) :
    (s.removeQueued r c).campaign = { s.campaign with summary := s.campaign.summary.countNotTested r } := rfl

theorem bump_get {n : Nat} (v : Vector Nat n) (i : Nat) (j : Fin n) :
    (bump v i)[j] = if j.val = i then min (v[j] + 1) 4294967295 else v[j] := by
  simp only [bump, satAdd, summaryMax, Fin.getElem_fin]
  rw [Vector.getElem_setIfInBounds]
  by_cases h : i = j.val
  · subst h; simp
  · simp [h, Ne.symm h]

theorem queuesEmpty_iff (s : State) : s.queuesEmpty = true ↔ ∀ k, k < 4 → (s.cls k).queue = [] := by
  simp only [State.queuesEmpty, List.all_eq_true, List.isEmpty_iff, Vector.mem_toList_iff, Vector.mem_iff_getElem,
    State.cls]
  constructor
  · intro h k hk
    simpa [hk] using h s.classes[k] ⟨k, hk, rfl⟩
  · rintro h x ⟨k, hk, rfl⟩
    simpa [hk] using h k hk

theorem campaignOver_iff (s : State) : s.campaignOver = true ↔ CampaignOver s s := by
  simp [State.campaignOver, CampaignOver, queuesEmpty_iff, and_assoc]

/-! ## The campaign's end (R127) -/

theorem campaign_endCampaign (s : State) : s.endCampaign.campaign =
    { s.campaign with
      state := .idle
      deadline := none
      endCause := if s.campaign.state = .draining then s.campaign.endCause else .completed } := by
  simp [State.endCampaign, State.modCampaign, Campaign.finalCause]

theorem cls_endCampaign (s : State) (k : Nat) : s.endCampaign.cls k = { s.cls k with credits := 0, timer := 0 } := by
  have h : s.endCampaign.classes = s.zeroCredits.classes := by simp [State.endCampaign, State.zeroCredits, State.modCampaign]
  rw [cls_congr h, cls_zeroCredits]

theorem tx_endCampaign (s : State) : s.endCampaign.mli.tx =
    if s.mli.tx.length < 48 then s.mli.tx ++ [endRecord s.endCampaign] else s.mli.tx := by
  have h : endRecord s.endCampaign = noticeRecord noticeCampaignEnd
      (let t := (s.modCampaign (fun k => { k with state := .idle, endCause := k.finalCause, deadline := none })).zeroCredits
       be16 t.campaign.number ++ be8 t.campaign.kind.byte ++ be8 t.campaign.endCause.byte ++ t.summaryBlock) := by
    simp [endRecord, noticeRecord, noticeCampaignEnd, State.endCampaign, State.summaryBlock, State.queuedCount]
  rw [h]
  exact offer_tx _ _ _

theorem rxBuffer_endCampaign (s : State) : s.endCampaign.mli.rxBuffer = s.mli.rxBuffer := by
  simp [State.endCampaign, State.modCampaign, State.zeroCredits]

theorem testEnd_of_over {s : State} (h : CampaignOver s s) :
    s.testEnd = s.endCampaign := if_pos ((campaignOver_iff s).2 h)

theorem testEnd_of_not_over {s : State} (h : ¬CampaignOver s s) : s.testEnd = s :=
  if_neg (fun hover => h ((campaignOver_iff s).1 hover))

/-- Removing entries twice and testing the end each time comes to one removal and one test. -/
theorem endTested_trans {s t u : State} (hst : EndTested s t) (htu : EndTested t u)
    (hq : ∀ k, k < 4 → (t.cls k).queue = [] → (u.cls k).queue = []) : EndTested s u := by
  by_cases hover : CampaignOver s t
  · obtain ⟨hcamp, hcls⟩ := hst.1 hover
    have hstate : t.campaign.state = .idle := by rw [hcamp]
    have hidle : ¬CampaignOver t u := by rintro ⟨h | h, -⟩ <;> exact absurd (hstate.symm.trans h) (by decide)
    obtain ⟨hcamp', hcls'⟩ := htu.2 hidle
    have hover' : CampaignOver s u := ⟨hover.1, fun k hk => hq k hk (hover.2.1 k hk), hover.2.2⟩
    refine ⟨fun _ => ⟨by rw [hcamp', hcamp], fun k hk => by rw [hcls' k hk, hcls k hk]⟩, fun h => absurd hover' h⟩
  · obtain ⟨hcamp, hcls⟩ := hst.2 hover
    have hstate : t.campaign.state = s.campaign.state := by rw [hcamp]
    have hflight : t.campaign.inFlight = s.campaign.inFlight := by rw [hcamp]
    have hcause : t.campaign.endCause = s.campaign.endCause := by rw [hcamp]
    have hsame : CampaignOver t u ↔ CampaignOver s u := by simp only [CampaignOver, hstate, hflight]
    refine ⟨fun h => ?_, fun h => ?_⟩
    · obtain ⟨hcamp', hcls'⟩ := htu.1 (hsame.2 h)
      exact ⟨by rw [hcamp', hstate, hcause, hcamp], fun k hk => by rw [hcls' k hk, hcls k hk]⟩
    · obtain ⟨hcamp', hcls'⟩ := htu.2 (mt hsame.1 h)
      exact ⟨by rw [hcamp', hcamp], fun k hk => by rw [hcls' k hk, hcls k hk]⟩

/-! ## One entry withdrawn -/

theorem withdraw_of_over {s : State} {r : NotTested} {c : Nat}
    (h : CampaignOver (s.removeQueued r c) (s.removeQueued r c)) :
    s.withdraw r c = (s.removeQueued r c).endCampaign := testEnd_of_over h

theorem withdraw_of_not_over {s : State} {r : NotTested} {c : Nat}
    (h : ¬CampaignOver (s.removeQueued r c) (s.removeQueued r c)) :
    s.withdraw r c = s.removeQueued r c := testEnd_of_not_over h

theorem queue_withdraw (s : State) (r : NotTested) (c k : Nat) :
    ((s.withdraw r c).cls k).queue = (s.cls k).queue.filter (fun x => x != c) := by
  by_cases h : CampaignOver (s.removeQueued r c) (s.removeQueued r c)
  · rw [withdraw_of_over h, cls_endCampaign, cls_removeQueued]
  · rw [withdraw_of_not_over h, cls_removeQueued]

theorem summary_withdraw (s : State) (r : NotTested) (c : Nat) :
    (s.withdraw r c).campaign.summary = s.campaign.summary.countNotTested r := by
  by_cases h : CampaignOver (s.removeQueued r c) (s.removeQueued r c)
  · rw [withdraw_of_over h, campaign_endCampaign, campaign_removeQueued]
  · rw [withdraw_of_not_over h, campaign_removeQueued]

theorem runDue_withdraw (s : State) (r : NotTested) (c : Nat) : (s.withdraw r c).runDue = true := by
  simp [State.withdraw, State.removeQueued]

theorem rxBuffer_withdraw (s : State) (r : NotTested) (c : Nat) : (s.withdraw r c).mli.rxBuffer = s.mli.rxBuffer := by
  by_cases h : CampaignOver (s.removeQueued r c) (s.removeQueued r c)
  · simp [withdraw_of_over h, rxBuffer_endCampaign]
  · simp [withdraw_of_not_over h]

theorem circuits_withdraw (s : State) (r : NotTested) (c : Nat) :
    (s.withdraw r c).circuits = (s.setStatus c .idle).circuits := by
  simp only [State.withdraw, testEnd_frame]; rfl

theorem campaignOver_withdraw (s : State) (r : NotTested) (c : Nat) :
    CampaignOver s (s.withdraw r c) ↔ CampaignOver (s.removeQueued r c) (s.removeQueued r c) := by
  simp only [CampaignOver, queue_withdraw, cls_removeQueued, campaign_removeQueued]

theorem endTested_withdraw (s : State) (r : NotTested) (c : Nat) : EndTested s (s.withdraw r c) := by
  refine ⟨fun h => ?_, fun h => ?_⟩ <;> rw [campaignOver_withdraw] at h
  · exact ⟨by rw [withdraw_of_over h, campaign_endCampaign, campaign_removeQueued]; rfl,
      fun k _ => by rw [withdraw_of_over h, cls_endCampaign, cls_removeQueued]⟩
  · exact ⟨by rw [withdraw_of_not_over h, campaign_removeQueued]; rfl,
      fun k _ => by rw [withdraw_of_not_over h, cls_removeQueued]⟩

theorem countsNotTested_withdraw (s : State) (r : NotTested) (c : Nat) :
    CountsNotTested s (s.withdraw r c) r.index 1 := by
  intro i _
  rw [summary_withdraw]
  exact bump_get _ _ i

theorem tx_withdraw (s : State) (r : NotTested) (c : Nat) :
    (CampaignOver s (s.withdraw r c) → (s.withdraw r c).mli.tx =
      if s.mli.tx.length < 48 then s.mli.tx ++ [endRecord (s.withdraw r c)] else s.mli.tx) ∧
    (¬CampaignOver s (s.withdraw r c) → (s.withdraw r c).mli.tx = s.mli.tx) := by
  rw [campaignOver_withdraw]
  refine ⟨fun h => ?_, fun h => ?_⟩
  · rw [withdraw_of_over h, tx_endCampaign]; simp
  · rw [withdraw_of_not_over h]; simp

/-! ## Several entries withdrawn -/

/-- From `s` to `t` the entries of the circuits `gone` have left the queues, `n` of them counted under `r`, the end condition
tested behind each. -/
structure Withdrawn (s t : State) (r : NotTested) (gone : Nat → Bool) (n : Nat) : Prop where
  queues : ∀ k, (t.cls k).queue = (s.cls k).queue.filter (fun c => !gone c)
  counts : CountsNotTested s t r.index n
  tested : 1 ≤ n → EndTested s t ∧ t.runDue = true
  unmoved : n = 0 → t.campaign = s.campaign ∧ t.classes = s.classes ∧ t.runDue = s.runDue
  sent : ∃ more, t.mli.tx = s.mli.tx ++ more ∧
    (1 ≤ n → CampaignOver s t → s.mli.tx.length < 48 → ∃ x ∈ more, x.kind = .notice ∧ x.code = 0x82) ∧
    (n = 0 ∨ ¬CampaignOver s t → more = [])

theorem Withdrawn.of_frame {s t : State} (r : NotTested) (hk : t.campaign = s.campaign) (hc : t.classes = s.classes)
    (hr : t.runDue = s.runDue) (hx : t.mli.tx = s.mli.tx) : Withdrawn s t r (fun _ => false) 0 where
  queues k := by rw [cls_congr hc]; exact (List.filter_eq_self.2 (fun _ _ => rfl)).symm
  counts i hi := by rw [hk]; split <;> omega
  tested h := absurd h (by omega)
  unmoved _ := ⟨hk, hc, hr⟩
  sent := ⟨[], by rw [hx, List.append_nil], fun h => absurd h (by omega), fun _ => rfl⟩

theorem withdrawn_withdraw (s : State) (r : NotTested) (c : Nat) :
    Withdrawn s (s.withdraw r c) r (fun x => x == c) 1 where
  queues := queue_withdraw s r c
  counts := countsNotTested_withdraw s r c
  tested _ := ⟨endTested_withdraw s r c, runDue_withdraw s r c⟩
  unmoved h := absurd h (by omega)
  sent := by
    by_cases h : CampaignOver s (s.withdraw r c)
    · by_cases hlen : s.mli.tx.length < 48
      · exact ⟨_, ((tx_withdraw s r c).1 h).trans (if_pos hlen), fun _ _ _ => ⟨_, List.mem_singleton_self _, rfl, rfl⟩,
          fun hn => by rcases hn with hn | hn; exacts [absurd hn (by omega), absurd h hn]⟩
      · exact ⟨[], by rw [(tx_withdraw s r c).1 h, if_neg hlen, List.append_nil], fun _ _ hlt => absurd hlt hlen, fun _ => rfl⟩
    · exact ⟨[], by rw [(tx_withdraw s r c).2 h, List.append_nil], fun _ hover => absurd hover h, fun _ => rfl⟩

/-- Counting on from a count that holds at its limit. -/
theorem countsNotTested_trans {s t u : State} {i n m : Nat} (h : CountsNotTested s t i n)
    (h' : CountsNotTested t u i m) :
    CountsNotTested s u i (n + m) := by
  intro j hj
  have h1 := h j hj
  have h2 := h' j (by rw [h1]; split <;> omega)
  rw [h2, h1]
  split <;> omega

section
variable {s t u : State} {r : NotTested} {g h : Nat → Bool} {n m : Nat}

theorem Withdrawn.queues_trans (a : Withdrawn s t r g n) (b : Withdrawn t u r h m) (k : Nat) :
    (u.cls k).queue = (s.cls k).queue.filter (fun c => !(g c || h c)) := by
  rw [b.queues, a.queues, List.filter_filter]
  congr 1
  funext c
  cases g c <;> simp

/-- The first part withdraws nothing. -/
theorem Withdrawn.trans_of_none (a : Withdrawn s t r g 0) (b : Withdrawn t u r h m) :
    Withdrawn s u r (fun c => g c || h c) m := by
  obtain ⟨hk, hc, hr⟩ := a.unmoved rfl
  have hover : CampaignOver t u ↔ CampaignOver s u := by simp only [CampaignOver, hk]
  have htested : EndTested t u → EndTested s u := by
    unfold EndTested; rw [hover, hk]; simp only [cls_congr hc]; exact id
  obtain ⟨more, hmore, -, hnil⟩ := a.sent
  obtain rfl := hnil (.inl rfl)
  rw [List.append_nil] at hmore
  obtain ⟨more', hmore', hend, hnil'⟩ := b.sent
  rw [hmore, hover] at hend
  rw [hover] at hnil'
  refine ⟨a.queues_trans b, by simpa using countsNotTested_trans a.counts b.counts, fun hm => ?_, fun hm => ?_, more',
    by rw [hmore', hmore], hend, hnil'⟩
  · exact ⟨htested (b.tested hm).1, (b.tested hm).2⟩
  · obtain ⟨hk', hc', hr'⟩ := b.unmoved hm
    exact ⟨hk'.trans hk, hc'.trans hc, hr'.trans hr⟩

/-- The second part withdraws nothing. -/
theorem Withdrawn.trans_none (a : Withdrawn s t r g n) (hn : 1 ≤ n) (b : Withdrawn t u r h 0) :
    Withdrawn s u r (fun c => g c || h c) n := by
  obtain ⟨hk, hc, hr⟩ := b.unmoved rfl
  have hover : CampaignOver s u ↔ CampaignOver s t := by simp only [CampaignOver, cls_congr hc]
  have htested : EndTested s t → EndTested s u := by
    unfold EndTested; rw [hover, hk]; simp only [cls_congr hc]; exact id
  obtain ⟨more, hmore, -, hnil⟩ := b.sent
  obtain rfl := hnil (.inl rfl)
  rw [List.append_nil] at hmore
  obtain ⟨more', hmore', hend, hnil'⟩ := a.sent
  rw [← hover] at hend hnil'
  refine ⟨a.queues_trans b, countsNotTested_trans a.counts b.counts, fun h => ?_, fun h => absurd h (by omega), more',
    by rw [hmore, hmore'], hend, hnil'⟩
  exact ⟨htested (a.tested hn).1, by rw [hr]; exact (a.tested hn).2⟩

/-- Both parts withdraw. -/
theorem Withdrawn.trans_both (a : Withdrawn s t r g n) (hn : 1 ≤ n) (b : Withdrawn t u r h m) (hm : 1 ≤ m) :
    Withdrawn s u r (fun c => g c || h c) (n + m) := by
  have hempty (k : Nat) (_ : k < 4) (hk : (t.cls k).queue = []) : (u.cls k).queue = [] := by
    rw [b.queues, hk, List.filter_nil]
  have hunmoved (hst : ¬CampaignOver s t) : CampaignOver t u ↔ CampaignOver s u := by
    obtain ⟨hcamp, -⟩ := (a.tested hn).1.2 hst
    have hstate : t.campaign.state = s.campaign.state := by rw [hcamp]
    have hflight : t.campaign.inFlight = s.campaign.inFlight := by rw [hcamp]
    rw [CampaignOver, CampaignOver, hstate, hflight]
  obtain ⟨more, hmore, hend, hnil⟩ := a.sent
  obtain ⟨more', hmore', hend', hnil'⟩ := b.sent
  refine ⟨a.queues_trans b, countsNotTested_trans a.counts b.counts,
    fun _ => ⟨endTested_trans (a.tested hn).1 (b.tested hm).1 hempty, (b.tested hm).2⟩, fun h => absurd h (by omega),
    more ++ more', by rw [hmore', hmore, List.append_assoc], fun _ hover hlen => ?_, fun h => ?_⟩
  · by_cases hst : CampaignOver s t
    · obtain ⟨x, hx, hkind⟩ := hend hn hst hlen
      exact ⟨x, List.mem_append_left _ hx, hkind⟩
    · obtain rfl := hnil (.inr hst)
      rw [hmore, List.append_nil] at hend'
      obtain ⟨x, hx, hkind⟩ := hend' hm ((hunmoved hst).2 hover) hlen
      exact ⟨x, List.mem_append_right _ hx, hkind⟩
  · have hsu : ¬CampaignOver s u := h.resolve_left (by omega)
    have hst : ¬CampaignOver s t := fun ⟨hstate, hq, hflight⟩ => hsu ⟨hstate, fun k hk => hempty k hk (hq k hk), hflight⟩
    rw [hnil (.inr hst), hnil' (.inr (mt (hunmoved hst).1 hsu)), List.append_nil]

theorem Withdrawn.trans (a : Withdrawn s t r g n) (b : Withdrawn t u r h m) :
    Withdrawn s u r (fun c => g c || h c) (n + m) := by
  rcases Nat.eq_zero_or_pos n with rfl | hn
  · rw [Nat.zero_add]; exact a.trans_of_none b
  · rcases Nat.eq_zero_or_pos m with rfl | hm
    · exact a.trans_none hn b
    · exact a.trans_both hn b hm

end

/-! ## A range of records -/

/-- What the commands on the circuit table leave alone. -/
def State.besides (s : State) := (s.mli.rxBuffer, s.engines, s.points, s.nodes, s.spot, s.openLoops, s.amc, s.now)

/-- One record of a command that withdraws: a QUEUED one leaves its queue, the record is rewritten, nothing else moves. -/
structure WithdrawsEach (f : State → Nat → State) (r : NotTested) (g : Circuit → Circuit) : Prop where
  queued : ∀ t c, (t.circuit c).status = .queued → Withdrawn t (f t c) r (fun x => x == c) 1
  other : ∀ t c, (t.circuit c).status ≠ .queued → Withdrawn t (f t c) r (fun _ => false) 0
  self : ∀ t c, c < 2048 → (f t c).circuit c = g (t.circuit c)
  ne : ∀ t c d, d ≠ c → (f t c).circuit d = t.circuit d
  besides : ∀ t c, (f t c).besides = t.besides

/-- The range is withdrawn and rewritten, each QUEUED record counted once. -/
theorem WithdrawsEach.range {f : State → Nat → State} {r : NotTested} {g : Circuit → Circuit} (hf : WithdrawsEach f r g)
    (first n : Nat) (hr : first + n ≤ 2048) (s : State) :
    let t := (rangeOf first n).foldl f s
    (∀ k, k < n → t.circuit (first + k) = g (s.circuit (first + k))) ∧
      (∀ c, (c < first ∨ first + n ≤ c) → t.circuit c = s.circuit c) ∧
      Withdrawn s t r (fun c => decide (first ≤ c) && decide (c < first + n) && (s.circuit c).status == .queued)
        ((List.range n).countP (fun k => (s.circuit (first + k)).status == .queued)) ∧
      t.besides = s.besides := by
  rw [foldl_rangeOf]
  obtain ⟨hbesides, hdone, hrest⟩ := foldl_range_circuits (fun t k => f t (first + k)) first n (fun _ => g)
    (fun t => t.besides = s.besides) s rfl
    (fun t k hk ht => ⟨(hf.besides t _).trans ht, hf.self t _ (by omega), fun c hc => hf.ne t _ c hc⟩)
  refine ⟨hdone, hrest, ?_, hbesides⟩
  refine (foldl_range_inv (fun t k => f t (first + k)) (fun m t => (∀ c, first + m ≤ c → t.circuit c = s.circuit c) ∧
    Withdrawn s t r (fun c => decide (first ≤ c) && decide (c < first + m) && (s.circuit c).status == .queued)
      ((List.range m).countP (fun k => (s.circuit (first + k)).status == .queued))) n s ⟨fun _ _ => rfl, ?_⟩ ?_).2
  · have hnone : (fun c => decide (first ≤ c) && decide (c < first + 0) && (s.circuit c).status == .queued) =
        fun _ => false := by
      funext c; simp only [Nat.add_zero, Bool.and_eq_false_iff, decide_eq_false_iff_not]; omega
    rw [hnone]
    exact .of_frame r rfl rfl rfl rfl
  · rintro k t hk ⟨hrest, hw⟩
    refine ⟨fun c hc => by rw [hf.ne t _ c (by omega), hrest c (by omega)], ?_⟩
    have hgone : (fun c => decide (first ≤ c) && decide (c < first + (k + 1)) && (s.circuit c).status == .queued) =
        fun c => (decide (first ≤ c) && decide (c < first + k) && (s.circuit c).status == .queued) ||
          (c == first + k && (s.circuit (first + k)).status == .queued) := by
      funext c
      by_cases hc : c = first + k
      · subst hc; simp
      · simp [hc, show c < first + (k + 1) ↔ c < first + k by omega]
    rw [hgone, List.range_succ, List.countP_append, List.countP_singleton]
    by_cases hst : (s.circuit (first + k)).status = .queued
    · simpa [hst] using hw.trans (hf.queued t (first + k) (by rw [hrest _ le_rfl]; exact hst))
    · have hbeq : ((s.circuit (first + k)).status == ProbeStatus.queued) = false := beq_eq_false_iff_ne.2 hst
      simpa [hbeq] using hw.trans (hf.other t (first + k) (by rw [hrest _ le_rfl]; exact hst))

end Sys2Proof.Machine
end


section
/-! SUPPORT. CIRCUIT_RETIRE, CIRCUIT_SUSPEND and the queued circuits of CIRCUIT_DEFINE (R13 to R17). -/

namespace Sys2Proof.Machine

/-! ## A record rewritten around a withdrawal -/

theorem besides_withdraw (s : State) (r : NotTested) (c : Nat) : (s.withdraw r c).besides = s.besides := by
  simp [State.besides, rxBuffer_withdraw]

theorem withdrawn_setCircuit (s : State) (r : NotTested) (c : Nat) (x : Circuit) :
    Withdrawn s (s.setCircuit c x) r (fun _ => false) 0 := .of_frame r rfl rfl rfl rfl

theorem Withdrawn.zero_left {s t u : State} {r : NotTested} {g : Nat → Bool} {n : Nat}
    (a : Withdrawn s t r (fun _ => false) 0) (b : Withdrawn t u r g n) : Withdrawn s u r g n := by
  simpa using a.trans b

theorem Withdrawn.zero_right {s t u : State} {r : NotTested} {g : Nat → Bool} {n : Nat} (a : Withdrawn s t r g n)
    (b : Withdrawn t u r (fun _ => false) 0) : Withdrawn s u r g n := by
  simpa using a.trans b

theorem circuit_withdraw (s : State) (r : NotTested) (c d : Nat) :
    (s.withdraw r c).circuit d = if c = d ∧ c < 2048 then { s.circuit c with status := .idle } else s.circuit d := by
  rw [circuit_congr (circuits_withdraw s r c), State.setStatus, circuit_setCircuit]

/-! ## RETIRE (R16) -/

theorem retireCheck_none {s : State} {c : Nat} (h : (s.circuit c).status = .idle ∨ (s.circuit c).status = .queued) :
    retireCheck s c = none := by
  rcases h with h | h <;> simp [retireCheck, h]

theorem retireCheck_busy {s : State} {c : Nat} (hi : (s.circuit c).status ≠ .idle)
    (hq : (s.circuit c).status ≠ .queued) :
    retireCheck s c = some .circuitBusy := by
  unfold retireCheck
  split <;> simp_all

theorem retireOne_withdraws : WithdrawsEach State.retireOne .withdrawn (fun _ => Circuit.vacant) where
  queued t c h := by
    rw [State.retireOne, if_pos h]
    exact (withdrawn_withdraw t .withdrawn c).zero_right (withdrawn_setCircuit _ _ _ _)
  other t c h := by
    rw [State.retireOne, if_neg h]
    exact withdrawn_setCircuit _ _ _ _
  self t c h := circuit_setCircuit_self _ _ _ h
  ne t c d h := by
    rw [State.retireOne, circuit_setCircuit_ne _ _ _ _ (Ne.symm h)]
    split
    · rw [circuit_withdraw, if_neg (fun hc => h hc.1.symm)]
    · rfl
  besides t c := by
    rw [State.retireOne]
    split
    · exact besides_withdraw t .withdrawn c
    · rfl

/-- What RETIRE and SUSPEND have in common once every record of the range passes. -/
theorem withdrawingCommand_spec {code : Byte} {f : State → Nat → State} {g : Circuit → Circuit}
    (hf : WithdrawsEach f .withdrawn g) (check : State → Nat → Option Status) {tag : Tag} {payload : List Byte}
    {rest : List Frame} {s : State} (ht : s.Takes code tag payload rest) (hlen : payload.length = 3)
    (hrf : rangeFault (rd16 payload 0) (rd8 payload 2) = none) (hr : rd16 payload 0 + rd8 payload 2 ≤ 2048)
    (hpass : ∀ k, k < rd8 payload 2 → check (s.taken rest) (rd16 payload 0 + k) = none) :
    let withdrawn :=
      (List.range (rd8 payload 2)).countP (fun k => (s.circuit (rd16 payload 0 + k)).status == .queued)
    ∃ t, hostCommand code tag payload s (fun c => rangeBody payload c check (fun first n u =>
        (rangeOf first n).foldl f (u.replyRange c .ok n 0 false))) = .next t ∧
      (∀ k, k < rd8 payload 2 → t.circuit (rd16 payload 0 + k) = g (s.circuit (rd16 payload 0 + k))) ∧
      (∀ c, (c < rd16 payload 0 ∨ rd16 payload 0 + rd8 payload 2 ≤ c) → t.circuit c = s.circuit c) ∧
      (∀ k, k < 4 → (t.cls k).queue = (s.cls k).queue.filter (fun c =>
        !(decide (rd16 payload 0 ≤ c) && decide (c < rd16 payload 0 + rd8 payload 2) && (s.circuit c).status == .queued))) ∧
      CountsNotTested s t 2 withdrawn ∧ (1 ≤ withdrawn → EndTested s t ∧ t.runDue = true) ∧
      (withdrawn = 0 → t.campaign = s.campaign ∧ t.classes = s.classes ∧ t.runDue = s.runDue) ∧
      (∃ more, t.mli.tx = s.mli.tx ++ replyTo code tag .ok false (be8 (rd8 payload 2) ++ be8 0) :: more ∧
        (1 ≤ withdrawn → CampaignOver s t → s.mli.tx.length + 1 < 48 → ∃ r ∈ more, r.kind = .notice ∧ r.code = 0x82) ∧
        (withdrawn = 0 ∨ ¬CampaignOver s t → more = [])) ∧
      t.mli.rxBuffer = rest ∧ t.engines = s.engines ∧ t.points = s.points ∧ t.nodes = s.nodes ∧ t.spot = s.spot ∧
      t.openLoops = s.openLoops ∧ t.amc = s.amc ∧ t.now = s.now := by
  intro withdrawn
  let u := s.answered rest (replyTo code tag .ok false (be8 (rd8 payload 2) ++ be8 0))
  obtain ⟨hself, hother, hw, hb⟩ := hf.range (rd16 payload 0) (rd8 payload 2) hr u
  obtain ⟨hqueues, hcounts, htested, hunmoved, more, hmore, hend, hnil⟩ := hw
  refine ⟨(rangeOf (rd16 payload 0) (rd8 payload 2)).foldl f u, ?_, hself, hother, fun k _ => hqueues k, hcounts, htested,
    hunmoved, ⟨more, ?_, fun hn hover hlt => hend hn hover ?_, hnil⟩, ?_⟩
  · rw [hostCommand_takes ht, rangeBody_accepted hlen hrf hpass, taken_replyRange]
  · rw [hmore]; simp [u, State.answered]
  · simpa [u, State.answered] using hlt
  · simpa [State.besides, u, State.answered] using hb

/-- Settles O19. -/
theorem retireMakesTheRangeVacant : Obligations.RetireMakesTheRangeVacant := by
  intro tag payload rest s ht hlen h1 h16 hr
  have hrf := rangeFault_none h1 h16 hr
  refine ⟨fun hall => ?_, fun k hk hpre hi hq => ?_⟩
  · exact withdrawingCommand_spec retireOne_withdraws retireCheck ht hlen hrf hr (fun k hk => retireCheck_none (hall k hk))
  · change hostCommand 0x12 tag payload s (fun c => rangeBody payload c retireCheck (carryRetire c)) = _
    rw [hostCommand_takes ht, rangeBody_refused (s := s.taken rest) hlen hrf hk (fun j hj => retireCheck_none (hpre j hj))
      (retireCheck_busy hi hq), taken_replyRange]

/-! ## SUSPEND (R17) -/

theorem spotWaits_iff (s : State) (c : Nat) : s.spotWaits c = true ↔ ∃ slot, SpotEntry.probe c slot ∈ s.spot := by
  simp only [State.spotWaits, List.any_eq_true]
  constructor
  · rintro ⟨x, hx, hc⟩
    split at hc
    · rename_i d slot
      obtain rfl : d = c := by simpa using hc
      exact ⟨slot, hx⟩
    · cases hc
    · cases hc
  · rintro ⟨slot, hx⟩
    exact ⟨_, hx, by simp⟩

theorem suspendCheck_none {s : State} {c : Nat} (hdef : (s.circuit c).defState ≠ .vacant)
    (hw : ¬((s.circuit c).status = .spot ∧ ∃ slot, SpotEntry.probe c slot ∈ s.spot)) : suspendCheck s c = none := by
  rw [suspendCheck, if_neg hdef, if_neg (by rwa [spotWaits_iff])]

theorem suspendCheck_vacant {s : State} {c : Nat} (hdef : (s.circuit c).defState = .vacant) :
    suspendCheck s c = some .notDefined := if_pos hdef

theorem suspendCheck_busy {s : State} {c : Nat} (hdef : (s.circuit c).defState ≠ .vacant)
    (hw : (s.circuit c).status = .spot ∧ ∃ slot, SpotEntry.probe c slot ∈ s.spot) :
    suspendCheck s c = some .circuitBusy := by
  rw [suspendCheck, if_neg hdef, if_pos (by rwa [spotWaits_iff])]

/-- A suspended record; a QUEUED circuit leaves its queue. -/
def Circuit.suspend (r : Circuit) : Circuit :=
  { r with defState := .suspended, status := if r.status = .queued then .idle else r.status }

theorem suspendOne_withdraws : WithdrawsEach State.suspendOne .withdrawn Circuit.suspend where
  queued t c h := by
    rw [State.suspendOne, if_pos h]
    exact (withdrawn_setCircuit t .withdrawn c _).zero_left (withdrawn_withdraw _ _ _)
  other t c h := by
    rw [State.suspendOne, if_neg h]
    exact withdrawn_setCircuit _ _ _ _
  self t c h := by
    rw [State.suspendOne, Circuit.suspend]
    split
    · rw [circuit_withdraw, if_pos ⟨rfl, h⟩, circuit_setCircuit_self _ _ _ h]
    · rw [circuit_setCircuit_self _ _ _ h]
  ne t c d h := by
    rw [State.suspendOne]
    split
    · rw [circuit_withdraw, if_neg (fun hc => h hc.1.symm), circuit_setCircuit_ne _ _ _ _ (Ne.symm h)]
    · exact circuit_setCircuit_ne _ _ _ _ (Ne.symm h)
  besides t c := by
    rw [State.suspendOne]
    split
    · exact besides_withdraw _ .withdrawn c
    · rfl

/-- Settles O20. -/
theorem suspendKeepsTheRecords : Obligations.SuspendKeepsTheRecords := by
  intro tag payload rest s ht hlen h1 h16 hr withdrawn waits passes
  have hrf := rangeFault_none h1 h16 hr
  have hcheck : ∀ c, passes c → suspendCheck (s.taken rest) c = none := fun c hc => suspendCheck_none hc.1 hc.2
  have hrefuse : ∀ k st, k < rd8 payload 2 → (∀ j, j < k → passes (rd16 payload 0 + j)) →
      suspendCheck (s.taken rest) (rd16 payload 0 + k) = some st → exec (.circuitSuspend tag payload) s =
        .next (s.answered rest (replyTo 0x13 tag st false (be8 (rd8 payload 2) ++ be8 k))) := by
    intro k st hk hpre hst
    change hostCommand 0x13 tag payload s (fun c => rangeBody payload c suspendCheck (carrySuspend c)) = _
    rw [hostCommand_takes ht, rangeBody_refused hlen hrf hk (fun j hj => hcheck _ (hpre j hj)) hst, taken_replyRange]
  refine ⟨fun hall => ?_, fun k hk hpre => ⟨fun hvac => ?_, fun hdef hw => ?_⟩⟩
  · exact withdrawingCommand_spec suspendOne_withdraws suspendCheck ht hlen hrf hr (fun k hk => hcheck _ (hall k hk))
  · exact hrefuse k _ hk hpre (suspendCheck_vacant hvac)
  · exact hrefuse k _ hk hpre (suspendCheck_busy hdef hw)

/-! ## DEFINE (R13 to R15) -/

theorem redefined_vacant {r : Circuit} (d : Definition) (h : r.defState = .vacant) :
    r.redefined d = ⟨.defined, .idle, d, none, none, none⟩ := by
  rw [Circuit.redefined, if_pos h]; rfl

theorem moved_iff (a b : Definition) :
    a.moved b = true ↔ b.accessPoint ≠ a.accessPoint ∨ b.farNode ≠ a.farNode ∨ b.rate ≠ a.rate := by
  simp only [Definition.moved, Bool.or_eq_true, bne_iff_ne, ne_comm, or_assoc]

theorem redefined_definition (r : Circuit) (d : Definition) : (r.redefined d).definition = d := by
  unfold Circuit.redefined; split <;> rfl

theorem heldNode_iff (s : State) (n : Nat) : s.heldNode n = true ↔ (s.node n).state = .held := by simp [State.heldNode]

theorem requeue_held {s : State} {c old : Nat} (h : (s.node (s.circuit c).definition.farNode).state = .held) :
    s.requeue c old = s.withdraw .held c := if_pos ((heldNode_iff s _).2 h)

theorem requeue_stays {s : State} {c old : Nat} (h : (s.node (s.circuit c).definition.farNode).state ≠ .held)
    (hk : (s.circuit c).definition.pacingClass = old) : s.requeue c old = s := by
  rw [State.requeue, if_neg (by rwa [heldNode_iff]), if_pos hk]

theorem requeue_moves {s : State} {c old : Nat} (h : (s.node (s.circuit c).definition.farNode).state ≠ .held)
    (hk : (s.circuit c).definition.pacingClass ≠ old) :
    s.requeue c old = ((s.dequeue c).enqueue (s.circuit c).definition.pacingClass c).startRun := by
  rw [State.requeue, if_neg (by rwa [heldNode_iff]), if_neg hk]

/-- A requeued circuit stays QUEUED, unless its node is HELD. -/
theorem circuit_requeue (s : State) (c old d : Nat) : (s.requeue c old).circuit d =
    if c = d ∧ c < 2048 ∧ (s.node (s.circuit c).definition.farNode).state = .held then { s.circuit c with status := .idle }
    else s.circuit d := by
  by_cases hheld : (s.node (s.circuit c).definition.farNode).state = .held
  · rw [requeue_held hheld, circuit_withdraw]; simp [hheld]
  · rw [if_neg (fun h => hheld h.2.2)]
    by_cases hk : (s.circuit c).definition.pacingClass = old
    · rw [requeue_stays hheld hk]
    · rw [requeue_moves hheld hk]; rfl

theorem besides_requeue (s : State) (c old : Nat) : (s.requeue c old).besides = s.besides := by
  by_cases hheld : (s.node (s.circuit c).definition.farNode).state = .held
  · rw [requeue_held hheld, besides_withdraw]
  · by_cases hk : (s.circuit c).definition.pacingClass = old
    · rw [requeue_stays hheld hk]
    · rw [requeue_moves hheld hk]; rfl

theorem tx_requeue (s : State) (c old : Nat) : ∃ more, (s.requeue c old).mli.tx = s.mli.tx ++ more := by
  by_cases hheld : (s.node (s.circuit c).definition.farNode).state = .held
  · obtain ⟨more, hmore, -⟩ := (withdrawn_withdraw s .held c).sent
    exact ⟨more, by rw [requeue_held hheld, hmore]⟩
  · refine ⟨[], ?_⟩
    rw [List.append_nil]
    by_cases hk : (s.circuit c).definition.pacingClass = old
    · rw [requeue_stays hheld hk]
    · rw [requeue_moves hheld hk]; rfl

/-- The record that an accepted define leaves; `held` says that the new far node is HELD (R13 to R15). -/
def Circuit.defineAs (r : Circuit) (d : Definition) (held : Prop) [Decidable held] : Circuit :=
  { definition := d
    defState := if r.defState = .vacant then .defined else r.defState
    status := if r.status = .queued ∧ r.defState ≠ .vacant ∧ ¬held then .queued else .idle
    baseDelay := if r.defState = .vacant ∨ d.accessPoint ≠ r.definition.accessPoint ∨ d.farNode ≠ r.definition.farNode ∨
      d.rate ≠ r.definition.rate then none else r.baseDelay
    baseLevel := if r.defState = .vacant ∨ d.accessPoint ≠ r.definition.accessPoint ∨ d.farNode ≠ r.definition.farNode ∨
      d.rate ≠ r.definition.rate then none else r.baseLevel
    last := if r.defState = .vacant then none else r.last }

theorem defineOne_self (s : State) (c : Nat) (d : Definition) (hlt : c < 2048)
    (hst : (s.circuit c).status = .idle ∨ (s.circuit c).status = .queued) :
    (s.defineOne c d).circuit c = (s.circuit c).defineAs d ((s.node d.farNode).state = .held) := by
  have hnew : (s.setCircuit c ((s.circuit c).redefined d)).circuit c = (s.circuit c).redefined d :=
    circuit_setCircuit_self _ _ _ hlt
  have hdef : (s.defineOne c d).circuit c = if (s.circuit c).status = .queued ∧ (s.node d.farNode).state = .held
      then { (s.circuit c).redefined d with status := .idle } else (s.circuit c).redefined d := by
    rw [State.defineOne]
    by_cases hq : (s.circuit c).status = .queued
    · rw [if_pos hq, circuit_requeue, hnew, redefined_definition, setCircuit_node]
      simp [hlt, hq]
    · rw [if_neg hq, hnew]; simp [hq]
  rw [hdef, Circuit.defineAs]
  by_cases hvac : (s.circuit c).defState = .vacant
  · simp [redefined_vacant d hvac, hvac]
  · simp only [Circuit.redefined, moved_iff, hvac, false_or, ne_eq, not_false_eq_true, true_and]
    rcases hst with hst | hst
    · simp [hst]
    · by_cases hheld : (s.node d.farNode).state = .held <;> simp [hst, hheld]

theorem defineOne_ne (s : State) (c : Nat) (d : Definition) (j : Nat) (h : j ≠ c) :
    (s.defineOne c d).circuit j = s.circuit j := by
  rw [State.defineOne]
  split
  · rw [circuit_requeue, if_neg (fun hc => h hc.1.symm), circuit_setCircuit_ne _ _ _ _ (Ne.symm h)]
  · exact circuit_setCircuit_ne _ _ _ _ (Ne.symm h)

theorem besides_defineOne (s : State) (c : Nat) (d : Definition) : (s.defineOne c d).besides = s.besides := by
  rw [State.defineOne]
  split
  · exact besides_requeue _ _ _
  · rfl

theorem tx_defineOne (s : State) (c : Nat) (d : Definition) : ∃ more, (s.defineOne c d).mli.tx = s.mli.tx ++ more := by
  rw [State.defineOne]
  split
  · exact tx_requeue _ _ _
  · exact ⟨[], (List.append_nil _).symm⟩

/-- Settles O15, one record after the other. -/
theorem defineStoresEveryRecord : Obligations.DefineStoresEveryRecord := by
  intro tag payload rest s ht h1 h16 hr hlen hpass
  refine ⟨_, exec_circuitDefine_accepted ht h1 h16 hr hlen hpass, ?_⟩
  let u := s.answered rest (replyTo 0x10 tag .ok ((List.range (rd8 payload 2)).any (fun k => (defAt payload k).wasClamped))
    (be8 (rd8 payload 2) ++ be8 0))
  let f := fun (t : State) k => t.defineOne (rd16 payload 0 + k) (defAt payload k).stored
  have hmain := foldl_range_inv f (fun m t => t.besides = u.besides ∧ (∃ more, t.mli.tx = u.mli.tx ++ more) ∧
    (∀ k, k < m → t.circuit (rd16 payload 0 + k) = (s.circuit (rd16 payload 0 + k)).defineAs (defAt payload k).stored
      ((s.node (defAt payload k).stored.farNode).state = .held)) ∧
    ∀ c, (c < rd16 payload 0 ∨ rd16 payload 0 + m ≤ c) → t.circuit c = s.circuit c) (rd8 payload 2) u
    ⟨rfl, ⟨[], (List.append_nil _).symm⟩, fun k hk => absurd hk (by omega), fun _ _ => rfl⟩ ?_
  · obtain ⟨hb, ⟨more, hmore⟩, hself, hother⟩ := hmain
    refine ⟨hself, hother, ⟨more, ?_⟩, ?_⟩
    · rw [hmore]; simp [u, State.answered]
    · simpa [State.besides, u, State.answered] using hb
  · rintro k t hk ⟨hb, ⟨more, hmore⟩, hself, hother⟩
    have hnode : ∀ n, t.node n = s.node n := by
      have hnodes : t.nodes = s.nodes := by
        simp only [State.besides, Prod.mk.injEq] at hb
        obtain ⟨-, -, -, hn, -⟩ := hb
        exact hn
      exact node_congr hnodes
    obtain ⟨more', hmore'⟩ := tx_defineOne t (rd16 payload 0 + k) (defAt payload k).stored
    refine ⟨(besides_defineOne _ _ _).trans hb, ⟨more ++ more', by rw [hmore', hmore, List.append_assoc]⟩, fun j hj => ?_,
      fun c hc => ?_⟩
    · rcases Nat.lt_succ_iff_lt_or_eq.1 hj with hlt | rfl
      · rw [defineOne_ne _ _ _ _ (by omega), hself j hlt]
      · have hrec := hother (rd16 payload 0 + j) (by omega)
        rw [defineOne_self _ _ _ (by omega) (by rw [hrec]; exact (hpass j hk).2), hrec]
        simp only [hnode]
    · rw [defineOne_ne _ _ _ _ (by omega), hother c (by omega)]

theorem pacingClass_of_sound {d : CarriedDef} (h : d.sound = true) : d.stored.pacingClass < 4 := by
  obtain ⟨-, -, -, -, -, -, -, -, -, -, -, hcls, -⟩ := (soundDefinitionHasSoundCodes d).1 h
  exact Nat.lt_succ_of_le hcls

/-- Settles O16: the one entry is withdrawn, moved or left. -/
theorem defineMovesAQueuedCircuit : Obligations.DefineMovesAQueuedCircuit := by
  intro tag payload rest s ht h1 hlen hle hsound hdef hq
  have hone : ∀ k, k < rd8 payload 2 → k = 0 := fun k hk => by omega
  have hlong : payload.length = 3 + 37 * rd8 payload 2 := by omega
  refine ⟨_, exec_circuitDefine_accepted ht h1.ge (by omega) (by omega) hlong
    (fun k hk => by rw [hone k hk]; exact ⟨hsound, by rw [Nat.add_zero]; exact .inr hq⟩), ?_⟩
  simp only [h1, List.range_one, List.foldl_cons, List.foldl_nil, List.any_cons, List.any_nil, Bool.or_false, Nat.add_zero]
  set c := rd16 payload 0
  set d := (defAt payload 0).stored
  let u := s.answered rest (replyTo 0x10 tag .ok (defAt payload 0).wasClamped (be8 1 ++ be8 0))
  let v := u.setCircuit c ((s.circuit c).redefined d)
  have hnew : (v.circuit c).definition = d := by
    rw [show v.circuit c = _ from circuit_setCircuit_self u _ _ (by omega), redefined_definition]
  have hone : u.defineOne c d = v.requeue c (s.circuit c).definition.pacingClass := if_pos hq
  change (if (s.node d.farNode).state = .held then _ else _)
  rw [show (s.answered rest _).defineOne c d = _ from hone]
  split
  · rename_i hheld
    rw [requeue_held (s := v) (by rw [hnew]; exact hheld)]
    refine ⟨fun k _ => queue_withdraw v .held c k, runDue_withdraw v .held c, countsNotTested_withdraw v .held c,
      endTested_withdraw v .held c, fun hover hlt => ?_, fun hover => ?_⟩
    · rw [(tx_withdraw v .held c).1 hover, if_pos (by simpa [v, u, State.answered] using hlt)]
      simp [v, u, State.answered]
    · exact (tx_withdraw v .held c).2 hover
  · rename_i hheld
    split
    · rename_i hk
      rw [requeue_moves (s := v) (by rw [hnew]; exact hheld) (by rw [hnew]; exact hk), hnew]
      refine ⟨fun k hk4 => ?_, rfl, rfl⟩
      have hd4 : d.pacingClass < 4 := pacingClass_of_sound hsound
      rw [startRun_cls, State.enqueue, cls_setCls]
      by_cases hkd : k = d.pacingClass
      · subst hkd
        rw [if_pos ⟨rfl, hd4⟩, if_pos rfl, cls_dequeue]; rfl
      · rw [if_neg (fun h => hkd h.1.symm), if_neg hkd, cls_dequeue, List.append_nil]; rfl
    · rename_i hk
      rw [requeue_stays (s := v) (by rw [hnew]; exact hheld) (by rw [hnew]; exact not_not.1 hk)]
      exact ⟨rfl, rfl⟩

end Sys2Proof.Machine
end


section
/-! SUPPORT. The state that a cold reset leaves (R1, R2, R22, R93, R98, R110, R157, R166, R178). -/

namespace Sys2Proof.Machine

/-- The cold-reset state; the steps that wait and the launches that the run counted are not the part's. -/
def State.coldFrom (a b : Bool) (s : State) : State := { State.cold a b with pending := s.pending, launches := s.launches }

theorem exec_coldReset (a b : Bool) (s : State) : exec (.coldReset a b) s = .next (State.coldFrom a b s) := rfl

section
variable (a b : Bool) (s : State)

theorem circuit_coldFrom (c : Nat) : (State.coldFrom a b s).circuit c = Circuit.vacant := by
  simp only [State.coldFrom, State.circuit, State.cold, Vector.getElem?_replicate]; split <;> rfl

theorem engine_coldFrom (e : Nat) : (State.coldFrom a b s).engine e = Engine.reset := by
  simp only [State.coldFrom, State.engine, State.cold, Vector.getElem?_replicate]; split <;> rfl

theorem point_coldFrom (p : Nat) : (State.coldFrom a b s).point p = Point.reset := by
  simp only [State.coldFrom, State.point, State.cold, Vector.getElem?_replicate]; split <;> rfl

theorem node_coldFrom (n : Nat) (hn : n < 64) : (State.coldFrom a b s).node n = Node.reset := by
  simp [State.coldFrom, State.node, State.cold, hn]

theorem slot_coldFrom (i : Nat) : (State.coldFrom a b s).slot i = none := by
  simp only [State.coldFrom, State.slot, State.cold, Mli.reset, Vector.getElem?_replicate]; split <;> rfl

theorem cls_coldFrom (k : Nat) : (State.coldFrom a b s).cls k = (PacingClass.resets[k]?).getD ⟨1, 1, 0, 0, []⟩ := rfl

theorem lineRate_coldFrom : (State.coldFrom a b s).lineRate = (match a, b with
      | false, false => .baud115200
      | true, false => .baud460800
      | false, true => .baud921600
      | true, true => .baud3000000) := by
  cases a <;> cases b <;> rfl

/-- No circuit is queued, waits, flies or stands in a loop. -/
theorem holdings_coldFrom (c : Nat) : (State.coldFrom a b s).holdings c = [] := by
  have hq : (State.coldFrom a b s).queuedCircuits = [] := rfl
  have he : (State.coldFrom a b s).engines.toList = List.replicate 16 Engine.reset := Vector.toList_replicate
  have hs : (State.coldFrom a b s).spot = [] := rfl
  have hl : (State.coldFrom a b s).openLoops = [] := rfl
  rw [State.holdings, hq, he, hs, hl]
  rfl

theorem engineReset_sound : Engine.reset.sound :=
  ⟨iff_of_true rfl (.inl rfl), nofun, nofun, fun h => (h rfl).elim, fun h => (h rfl).elim, fun h => (h rfl).elim, nofun⟩

theorem requests_coldFrom : (State.coldFrom a b s).requests = [Request.ofReset] := rfl

/-- After a cold reset no table names another one. -/
theorem accounted_coldFrom : Accounted (State.coldFrom a b s) := by
  have hflight : (State.coldFrom a b s).engines.toList = List.replicate 16 Engine.reset := Vector.toList_replicate
  refine ⟨fun c => ?_, ⟨fun n hn => ?_, ?_, fun o ho => (nomatch (show o ∈ [] from ho))⟩, ⟨fun p e _ h => ?_, fun e x _ h => ?_⟩,
    fun e _ => ?_, fun e i h => (nomatch (show SpotEntry.calibration e i ∈ [] from h)), ?_, fun r hr e h => ?_⟩
  · rw [holdings_coldFrom, circuit_coldFrom]
    exact ⟨rfl, fun _ => rfl, by decide, by decide⟩
  · rw [node_coldFrom a b s n hn, hflight]; rfl
  · rw [State.probesInFlight, hflight, show (State.coldFrom a b s).openLoops = [] from rfl]; decide
  · rw [point_coldFrom] at h; cases h
  · rw [engine_coldFrom] at h; cases h
  · rw [engine_coldFrom]
    exact ⟨engineReset_sound, nofun, nofun⟩
  · rw [requests_coldFrom]; decide
  · rw [requests_coldFrom, List.mem_singleton] at hr
    subst hr; cases h

theorem linksInRange_coldFrom : LinksInRange (State.coldFrom a b s) := by
  rw [LinksInRange, show (State.coldFrom a b s).mli = Mli.reset from rfl, show (State.coldFrom a b s).amc = Amc.reset from rfl]
  decide

theorem classesInRange_coldFrom : ClassesInRange (State.coldFrom a b s) := by
  simp only [ClassesInRange, cls_coldFrom]
  unfold PacingClass.inRange
  decide

theorem nodesInRange_coldFrom : NodesInRange (State.coldFrom a b s) := by
  intro n hn
  rw [node_coldFrom a b s n hn]
  unfold Node.inRange
  decide

theorem transmitInRange_coldFrom : TransmitInRange (State.coldFrom a b s) :=
  ⟨List.nodup_nil, fun i hi => (nomatch (show i ∈ [] from hi)), Nat.zero_le _⟩

end

/-- Settles O4: the state after reset is one that a cold reset leaves. -/
theorem resetMeetsTheInvariants : Obligations.ResetMeetsTheInvariants := by
  have heq : State.reset = State.coldFrom false false State.reset := rfl
  unfold Obligations.ResetMeetsTheInvariants
  rw [heq]
  exact ⟨linksInRange_coldFrom _ _ _, classesInRange_coldFrom _ _ _, nodesInRange_coldFrom _ _ _, Nat.zero_le _,
    transmitInRange_coldFrom _ _ _, accounted_coldFrom _ _ _⟩

/-- Settles O3, table by table. -/
theorem coldResetSetsEverything : Obligations.ColdResetSetsEverything := by
  intro a b s
  refine ⟨State.coldFrom a b s, exec_coldReset a b s, rfl, fun c _ => circuit_coldFrom a b s c, fun e _ => ?_, rfl, rfl,
    fun p _ => point_coldFrom a b s p, fun n hn => ?_, rfl, rfl, rfl, rfl, rfl, rfl, rfl, rfl, rfl, rfl, rfl, rfl, ?_, rfl, rfl,
    rfl, rfl, lineRate_coldFrom a b s, rfl, ⟨_, rfl, rfl, rfl, rfl⟩, rfl, rfl, rfl, rfl, rfl, rfl, rfl, rfl, rfl,
    slot_coldFrom a b s, rfl, rfl, rfl, rfl⟩
  · rw [engine_coldFrom]; exact ⟨rfl, rfl, rfl, rfl, rfl⟩
  · rw [node_coldFrom a b s n hn]; exact ⟨rfl, rfl, rfl, rfl, rfl, rfl, rfl, rfl, rfl⟩
  · intro w hw
    obtain rfl : w = ⟨1, 0⟩ := List.eq_of_mem_replicate (n := 4) hw
    decide

end Sys2Proof.Machine
end


section
/-! SUPPORT. The reports, field by field (R20, R42, R101, R129, R154, R175, sections 11.4 and 11.5). -/

namespace Sys2Proof.Machine

theorem engines_toList (s : State) : s.engines.toList = (List.range 16).map s.engine := by
  refine List.ext_getElem (by simp) (fun i h _ => ?_)
  have hi : i < 16 := by simpa using h
  simp [State.engine, hi]

/-! ## Lengths of the fields -/

@[simp] theorem length_be8 (n : Nat) : (be8 n).length = 1 := rfl
@[simp] theorem length_be16 (n : Nat) : (be16 n).length = 2 := rfl
@[simp] theorem length_be24 (n : Nat) : (be24 n).length = 3 := rfl
@[simp] theorem length_be32 (n : Nat) : (be32 n).length = 4 := rfl
@[simp] theorem length_be48 (n : Nat) : (be48 n).length = 6 := rfl
@[simp] theorem length_beS16 (i : Int) : (beS16 i).length = 2 := rfl
@[simp] theorem length_beS32 (i : Int) : (beS32 i).length = 4 := rfl
@[simp] theorem length_msField (n : Nat) : (msField n).length = 4 := rfl
@[simp] theorem length_engineField (e : Option Nat) : (engineField e).length = 1 := rfl
@[simp] theorem length_circuitField (c : Option Nat) : (circuitField c).length = 2 := rfl
@[simp] theorem length_codeFields (a d : Code) : (codeFields a d).length = 6 := rfl

/-! ## A report's answer -/

/-- A report without operands replies its payload at once. -/
theorem reportCommand_spec {s : State} {code : Byte} {tag : Tag} {rest : List Frame} (ht : s.Takes code tag [] rest)
    {report : State → List Byte} {payload : List Byte} (h : report (s.taken rest) = payload) :
    hostCommand code tag [] s (fun c => fixedLength 0 [] c (fun t => t.reply c .ok (report t) false)) =
      .next (s.answered rest (replyTo code tag .ok false payload)) := by
  rw [hostCommand_takes ht, fixedLength_of_eq (n := 0) (p := []) rfl, taken_reply, h]

/-! ## NODE_REPORT (R101) -/

theorem nodeBlock_eq (s : State) (n : Nat) : s.nodeBlock n =
    [BitVec.ofNat 8 (if (s.node n).state = .active then 0 else 1), BitVec.ofNat 8 (s.node n).limit,
     BitVec.ofNat 8 (s.node n).occupancy, BitVec.ofNat 8 (s.openLoops.countP (fun o => o.farNode == n)),
     BitVec.ofNat 8 (s.node n).level, BitVec.ofNat 8 (s.node n).fails, BitVec.ofNat 8 (s.node n).successes,
     BitVec.ofNat 8 (s.node n).threshold, BitVec.ofNat 8 (if (s.node n).autoHold then 1 else 0)] ++
      msField ((s.node n).nextEligible - s.now) := by
  have hstate : (s.node n).state.byte = if (s.node n).state = .active then 0 else 1 := by
    cases (s.node n).state <;> rfl
  simp [State.nodeBlock, hstate, State.openLoopsAt, be8, bit]

/-! ## CAMPAIGN_REPORT (R129) -/

theorem length_paramsBlock (p : Params) : p.block.length = 24 := by
  simp only [Params.block, List.length_append, length_be8, length_be16, length_be32]

theorem length_selectionBlock (x : Selection) : x.block.length = 114 := by
  simp [Selection.block]

theorem length_summaryBlock (s : State) : s.summaryBlock.length = 100 := by
  simp [State.summaryBlock]

theorem length_pacingBlock (k : PacingClass) : k.block.length = 8 := rfl

theorem length_campaignReport (s : State) : s.campaignReport.length = 280 := by
  simp only [State.campaignReport, List.length_append, length_be8, length_be16, length_paramsBlock, length_selectionBlock,
    length_summaryBlock]
  split <;> simp [length_pacingBlock]

/-! ## DEVICE_STATUS (R175) -/

theorem statusBytes_eq (s : State) : s.engines.toList.flatMap Engine.statusByte =
    (List.range 16).flatMap (fun e => be8 ((s.engine e).state.byte + if (s.engine e).disablePending then 128 else 0)) := by
  rw [engines_toList, List.flatMap_map]
  rfl

theorem linkByte_eq (l : LinkState) : l.byte = if l = .synced then 1 else 0 := by cases l <;> rfl

theorem deviceStatus_eq (s : State) : s.deviceStatus =
    be8 s.campaign.state.byte ++ be16 s.campaign.number ++
      (List.range 16).flatMap (fun e => be8 ((s.engine e).state.byte + if (s.engine e).disablePending then 128 else 0)) ++
      be8 (if s.amc.link = .synced then 1 else 0) ++
      be8 (s.amc.fifo.length + if s.amc.current.isSome then 1 else 0) ++ be8 s.openLoops.length ++
      be8 s.mli.tx.length ++ be8 (s.mli.slots.toList.countP Option.isSome) ++
      be16 s.mli.frameErrors ++ be16 s.mli.overruns ++ be16 s.amc.lateAnswers ++ be16 s.mli.dropped := by
  rw [State.deviceStatus, statusBytes_eq, linkByte_eq, State.amcWaiting, State.slotsHeld]

theorem length_deviceStatus (s : State) : s.deviceStatus.length = 32 := by
  simp [State.deviceStatus, statusBytes_eq]

/-! ## ENGINE_REPORT (R42) -/

theorem engineCommand_inside {payload : List Byte} {c : Cmd} {body : Nat → State → State} {s : State}
    (h : payload.length = 1) (he : rd8 payload 0 ≤ 15) : engineCommand payload c body s = body (rd8 payload 0) s := by
  rw [engineCommand, fixedLength_of_eq h, if_pos he]

theorem engineCommand_outside {payload : List Byte} {c : Cmd} {body : Nat → State → State} {s : State}
    (h : payload.length = 1) (he : 15 < rd8 payload 0) : engineCommand payload c body s = s.refuse c .badField := by
  rw [engineCommand, fixedLength_of_eq h, if_neg (by omega)]

theorem length_engineReport (s : State) (e : Nat) : (s.engineReport e).length = 41 := by
  unfold State.engineReport
  extract_lets g m
  simp only [List.length_append, length_be8, length_be16, length_be24, length_be32, length_be48,
    length_beS32, length_msField, length_engineField, length_circuitField]

/-- An engine without a context reports zeros, its absent circuit and follower all ones. -/
theorem engineReport_eq (s : State) (e : Nat) :
    let g := s.engine e
    let m := g.meas
    let ofContext (f : Context → Nat) : Nat := match g.context with
      | some x => f x
      | none => 0
    s.engineReport e =
      be8 g.state.byte ++ be8 (if g.disablePending then 1 else 0) ++ be16 g.localOffset ++
      be8 (ofContext (fun x => match x.kind with
        | .campaign => 1
        | .spot => 2
        | .releaseOnly => 3
        | .calibration => 4)) ++
      be16 (ofContext Context.campaignNumber) ++
      (match g.context.bind Context.circuit with
        | some c => be16 c
        | none => [0xFF, 0xFF]) ++
      (if g.state = .following then be8 (partner e) else [0xFF]) ++
      be8 (ofContext Context.loopAttempts) ++ be8 (ofContext Context.releaseAttempts) ++
      be32 (min (ofContext Context.phaseTimer) 4294967295) ++
      be48 m.bitsB ++ be32 m.errorsE ++ be8 m.hitsH ++ be8 m.expectedX ++ be8 m.lossesK ++
      (match m.ticksT with
        | some k => be8 1 ++ be24 k
        | none => [0, 0, 0, 0]) ++ beS32 m.levelS ++ be32 m.samplesN := by
  intro g m ofContext
  have hctx (f : Context → Nat) : (g.context.map f).getD 0 = ofContext f := by
    simp only [ofContext]; cases g.context <;> rfl
  have hkind : (fun x : Context => x.kind.byte) = fun x => match x.kind with
      | .campaign => 1
      | .spot => 2
      | .releaseOnly => 3
      | .calibration => 4 := by
    funext x; cases x.kind <;> rfl
  have hcircuit : circuitField (g.context.bind Context.circuit) = match g.context.bind Context.circuit with
      | some c => be16 c
      | none => [0xFF, 0xFF] := by
    cases g.context.bind Context.circuit <;> rfl
  have hfollower : engineField (if g.state = .following then some (partner e) else none) =
      if g.state = .following then be8 (partner e) else [0xFF] := by
    split <;> rfl
  have hticks : be8 (bit m.ticksT.isSome 0) ++ be24 (m.ticksT.getD 0) = match m.ticksT with
      | some k => be8 1 ++ be24 k
      | none => [0, 0, 0, 0] := by
    cases m.ticksT <;> rfl
  have hpending : bit g.disablePending 0 = if g.disablePending then 1 else 0 := rfl
  rw [← hticks, ← hcircuit, ← hfollower, ← hpending, ← hctx, ← hctx, ← hctx, ← hctx, ← hctx, ← hkind]
  unfold State.engineReport msField
  simp only [List.append_assoc]
  rfl

/-! ## CIRCUIT_REPORT (R20) -/

theorem length_verdictBlock (v : Verdict) : v.block.length = 30 := by
  simp only [Verdict.block, List.length_append, length_be8, length_be16, length_be32, length_be48, length_beS16,
    length_engineField]

theorem length_reportRecord (r : Circuit) : r.reportRecord.length = 63 := by
  simp only [Circuit.reportRecord, List.length_append, length_be8, length_be16, length_be32, length_beS16, length_codeFields]
  split
  · rw [length_verdictBlock]
  · rw [zeros, List.length_replicate]

/-! ## The statement, report by report -/

theorem nodeReport_eq (s : State) : s.nodeReport = (List.range 64).flatMap (fun n =>
    [BitVec.ofNat 8 (if (s.node n).state = .active then 0 else 1), BitVec.ofNat 8 (s.node n).limit,
     BitVec.ofNat 8 (s.node n).occupancy, BitVec.ofNat 8 (s.openLoops.countP (fun o => o.farNode == n)),
     BitVec.ofNat 8 (s.node n).level, BitVec.ofNat 8 (s.node n).fails, BitVec.ofNat 8 (s.node n).successes,
     BitVec.ofNat 8 (s.node n).threshold, BitVec.ofNat 8 (if (s.node n).autoHold then 1 else 0)] ++
      msField ((s.node n).nextEligible - s.now)) := by
  rw [State.nodeReport, funext (nodeBlock_eq s)]

theorem exec_circuitReport {s : State} {tag : Tag} {payload : List Byte} {rest : List Frame}
    (ht : s.Takes 0x11 tag payload rest) (hlen : payload.length = 3)
    (hrf : rangeFault (rd16 payload 0) (rd8 payload 2) = none) :
    exec (.circuitReport tag payload) s = .next (s.answered rest (replyTo 0x11 tag .ok false
      (be8 (rd8 payload 2) ++ be8 0 ++
        (List.range (rd8 payload 2)).flatMap (fun k => (s.circuit (rd16 payload 0 + k)).reportRecord)))) := by
  change hostCommand 0x11 tag payload s (fun c => rangeBody payload c (fun _ _ => none) (carryReport c)) = _
  rw [hostCommand_takes ht, rangeBody_accepted hlen hrf (fun _ _ => rfl), carryReport, taken_reply, rangeOf, List.flatMap_map]
  rfl

theorem exec_engineReport {s : State} {tag : Tag} {e : Byte} {rest : List Frame} (ht : s.Takes 0x23 tag [e] rest) :
    exec (.engineReport tag [e]) s = .next (if e.toNat ≤ 15
      then s.answered rest (replyTo 0x23 tag .ok false (s.engineReport e.toNat))
      else s.answered rest (replyTo 0x23 tag .badField false [])) := by
  change hostCommand 0x23 tag [e] s (fun c => engineCommand [e] c (fun e t => t.reply c .ok (t.engineReport e) false)) = _
  rw [hostCommand_takes ht]
  by_cases he : e.toNat ≤ 15
  · rw [engineCommand_inside (payload := [e]) rfl he, if_pos he]; rfl
  · rw [engineCommand_outside (payload := [e]) rfl (Nat.lt_of_not_le he), if_neg he]; rfl

/-- Settles O12, report by report. -/
theorem tableReportsChangeNothing : Obligations.TableReportsChangeNothing := by
  refine ⟨fun tag rest s => ⟨fun ht => ?_, fun ht => ?_, fun ht => ?_, fun ht => ?_⟩, fun tag e rest s ht => ?_,
    fun tag payload rest s ht hlen h1 h16 hr => ?_⟩
  · exact reportCommand_spec ht (nodeReport_eq _)
  · refine ⟨reportCommand_spec (report := State.campaignReport) ht ?_, length_campaignReport s⟩
    rfl
  · refine reportCommand_spec (report := State.openLoopReport) ht ?_
    rfl
  · refine ⟨reportCommand_spec ht (deviceStatus_eq (s.taken rest)), ?_⟩
    exact (congrArg List.length (deviceStatus_eq s)).symm.trans (length_deviceStatus s)
  · rw [exec_engineReport ht]
    refine ⟨fun he => ⟨?_, ?_⟩, fun he => by rw [if_neg (by omega)]⟩
    · rw [if_pos he]
      exact congrArg (fun p => Host.Outcome.next (s.answered rest (replyTo 0x23 tag .ok false p))) (engineReport_eq s e.toNat)
    · exact (congrArg List.length (engineReport_eq s e.toNat)).symm.trans (length_engineReport s e.toNat)
  · refine ⟨?_, fun c => length_reportRecord (s.circuit c)⟩
    exact exec_circuitReport ht hlen (rangeFault_none h1 h16 hr)

end Sys2Proof.Machine
end


section
/-! SUPPORT. The accounts of the tables (R10, R94, R99, R158) in a form that adds up: what they read of an engine, the counts
of the probes in flight, and the two halves of `Accounted`, the tables with the flights and the engines with their locks and
requests. -/

namespace Sys2Proof.Machine

/-! ## The probes in flight -/

/-- A probe in flight as the circuit and node tables see it: its kind, its circuit and its far node. -/
abbrev Flight := Option ContextKind × Option Nat × Option Nat

/-- The probe in flight on an engine. -/
def Engine.flight (g : Engine) : Option Flight :=
  if g.state.inFlight then some (g.kind?, g.context.bind Context.circuit, g.context.bind Context.farNode) else none

/-- The probe status that a flight stands for. -/
def Flight.status (f : Flight) : ProbeStatus := if f.1 = some .spot then .spot else .active

/-- The flight holds the circuit in this probe status. -/
def Flight.holds (c : Nat) (st : ProbeStatus) (f : Flight) : Bool := f.2.1 == some c && f.status == st

def Flight.fliesTo (n : Nat) (f : Flight) : Bool := f.2.2 == some n

/-- How many probes in flight have a property. -/
def State.aloft (s : State) (P : Flight → Bool) : Nat := (List.range 16).countP (fun e => (s.engine e).flight.any P)

theorem countP_range_change (n e : Nat) (f g : Nat → Bool) (he : e < n) (h : ∀ d, d ≠ e → g d = f d) :
    (List.range n).countP g + (f e).toNat = (List.range n).countP f + (g e).toNat := by
  induction n with
  | zero => omega
  | succ n ih =>
    simp only [List.range_succ, List.countP_append, List.countP_singleton]
    by_cases hn : e = n
    · subst hn
      have hlow : (List.range e).countP g = (List.range e).countP f :=
        List.countP_congr (fun d hd => by rw [h d (by have := List.mem_range.1 hd; omega)])
      rw [hlow]
      cases f e <;> cases g e <;> simp
    · have := ih (by omega)
      rw [h n (Ne.symm hn)]
      omega

theorem aloft_congr {s t : State} (h : ∀ e, (t.engine e).flight = (s.engine e).flight) (P : Flight → Bool) :
    t.aloft P = s.aloft P := by
  simp only [State.aloft, h]

/-- One engine's flight changes. -/
theorem aloft_change {s t : State} {e : Nat} (he : e < 16) (h : ∀ d, d ≠ e → (t.engine d).flight = (s.engine d).flight)
    (P : Flight → Bool) :
    t.aloft P + ((s.engine e).flight.any P).toNat = s.aloft P + ((t.engine e).flight.any P).toNat :=
  countP_range_change 16 e (fun d => (s.engine d).flight.any P) (fun d => (t.engine d).flight.any P) he
    (fun d hd => by simp only [h d hd])

theorem aloft_pos {s : State} {e : Nat} {f : Flight} {P : Flight → Bool} (he : e < 16)
    (hf : (s.engine e).flight = some f)
    (hP : P f = true) : 0 < s.aloft P :=
  List.countP_pos_iff.2 ⟨e, List.mem_range.2 he, by simp [hf, hP]⟩

/-- A flight holds its circuit in one status only. -/
theorem aloft_holds_eq_zero (s : State) (c : Nat) (st : ProbeStatus) (h₁ : st ≠ .spot) (h₂ : st ≠ .active) :
    s.aloft (Flight.holds c st) = 0 := by
  refine List.countP_eq_zero.2 (fun e _ => ?_)
  cases (s.engine e).flight with
  | none => simp
  | some f =>
    have : f.status ≠ st := by
      unfold Flight.status
      split
      · exact Ne.symm h₁
      · exact Ne.symm h₂
    simp [Flight.holds, this]

/-! ## The counts that `Accounted` takes of the engines -/

theorem standsFor_eq (g : Engine) (c : Nat) (st : ProbeStatus) :
    (g.standsFor c == some st) = g.flight.any (Flight.holds c st) := by
  unfold Engine.standsFor Engine.flight Flight.holds Flight.status
  cases g.state.inFlight with
  | false => simp
  | true =>
    by_cases h : g.context.bind Context.circuit = some c
    · simp [h]
    · simp [h]

theorem fliesTo_eq (g : Engine) (n : Nat) : g.fliesTo n = g.flight.any (Flight.fliesTo n) := by
  unfold Engine.fliesTo Engine.flight Flight.fliesTo
  cases g.state.inFlight <;> simp

theorem inFlight_eq (g : Engine) : g.state.inFlight = g.flight.any (fun _ => true) := by
  unfold Engine.flight
  cases g.state.inFlight <;> simp

theorem countP_engines (s : State) (p : Engine → Bool) (P : Flight → Bool) (h : ∀ g : Engine, p g = g.flight.any P) :
    s.engines.toList.countP p = s.aloft P := by
  rw [engines_toList, List.countP_map]
  exact List.countP_congr (fun e _ => by simp [h])

theorem countP_fliesTo (s : State) (n : Nat) :
    s.engines.toList.countP (fun g => g.fliesTo n) = s.aloft (Flight.fliesTo n) :=
  countP_engines s _ _ (fun g => fliesTo_eq g n)

theorem probesInFlight_eq (s : State) : s.probesInFlight = s.aloft (fun _ => true) :=
  countP_engines s _ _ inFlight_eq

theorem count_standsFor (s : State) (c : Nat) (st : ProbeStatus) :
    (s.engines.toList.filterMap (fun g => g.standsFor c)).count st = s.aloft (Flight.holds c st) := by
  rw [List.count_filterMap, ← countP_engines s (fun g => g.standsFor c == some st) _ (fun g => standsFor_eq g c st)]

/-! ## A circuit in one place -/

/-- The four kinds of place that hold the circuit `c` are counted as its probe status says (R10). -/
structure HeldAs (s : State) (c : Nat) (st : ProbeStatus) : Prop where
  queued : s.queuedCircuits.count c = if st = .queued then 1 else 0
  spot : s.spot.countP (fun x => x.probes c) + s.aloft (Flight.holds c .spot) = if st = .spot then 1 else 0
  active : s.aloft (Flight.holds c .active) = if st = .active then 1 else 0
  loop : s.openLoops.countP (fun o => o.circuit == c) = if st = .openLoop then 1 else 0

theorem eq_ite_singleton_iff (l : List ProbeStatus) (st : ProbeStatus) :
    l = (if st = .idle then [] else [st]) ↔ ∀ a, l.count a = if a = st ∧ st ≠ .idle then 1 else 0 := by
  by_cases h : st = .idle
  · subst h
    simp [List.eq_nil_iff_forall_not_mem, List.count_eq_zero]
  · simp only [h, if_false, ne_eq, not_false_eq_true, and_true]
    rw [← List.perm_singleton, List.perm_iff_count]
    refine forall_congr' (fun a => ?_)
    simp only [List.count_singleton, beq_iff_eq, @eq_comm _ st a]

theorem holdings_iff (s : State) (c : Nat) (st : ProbeStatus) :
    s.holdings c = (if st = .idle then [] else [st]) ↔ HeldAs s c st := by
  have hcount (a : ProbeStatus) : (s.holdings c).count a =
      (if a = .queued then s.queuedCircuits.count c else 0) +
      (if a = .spot then s.spot.countP (fun x => x.probes c) else 0) + s.aloft (Flight.holds c a) +
      (if a = .openLoop then s.openLoops.countP (fun o => o.circuit == c) else 0) := by
    simp only [State.holdings, List.count_append, List.count_replicate, count_standsFor, beq_iff_eq, @eq_comm _ a]
  rw [eq_ite_singleton_iff]
  simp only [hcount]
  constructor
  · intro h
    refine ⟨?_, ?_, ?_, ?_⟩
    · have := h .queued
      rw [aloft_holds_eq_zero s c .queued (by decide) (by decide)] at this
      cases st <;> simpa using this
    · have := h .spot
      cases st <;> simpa using this
    · have := h .active
      cases st <;> simpa using this
    · have := h .openLoop
      rw [aloft_holds_eq_zero s c .openLoop (by decide) (by decide)] at this
      cases st <;> simpa using this
  · rintro ⟨hq, hs, ha, hl⟩ a
    cases a with
    | idle => rw [aloft_holds_eq_zero s c .idle (by decide) (by decide)]; cases st <;> simp
    | queued =>
      rw [aloft_holds_eq_zero s c .queued (by decide) (by decide)]
      cases st <;> simpa using hq
    | spot => cases st <;> simpa using hs
    | active => cases st <;> simpa using ha
    | openLoop =>
      rw [aloft_holds_eq_zero s c .openLoop (by decide) (by decide)]
      cases st <;> simpa using hl

/-- The counts of a circuit's places stand, so its probe status does. -/
theorem HeldAs.congr {s t : State} {c : Nat} {st : ProbeStatus} (h : HeldAs s c st)
    (hq : t.queuedCircuits.count c = s.queuedCircuits.count c)
    (hs : t.spot.countP (fun x => x.probes c) = s.spot.countP (fun x => x.probes c))
    (ha : ∀ st', t.aloft (Flight.holds c st') = s.aloft (Flight.holds c st'))
    (hl : t.openLoops.countP (fun o => o.circuit == c) = s.openLoops.countP (fun o => o.circuit == c)) :
    HeldAs t c st :=
  ⟨hq.trans h.queued, by rw [hs, ha]; exact h.spot, (ha _).trans h.active, hl.trans h.loop⟩

/-! ## The two halves of `Accounted` -/

/-- What a circuit record says by itself (R4, R10). -/
structure Circuit.Fits (r : Circuit) : Prop where
  vacant : r.defState = .vacant → r.status = .idle
  cls : r.definition.pacingClass < 4
  point : r.definition.accessPoint < 256

/-- Circuits, queues, nodes, loops and flights agree (R10, R99, R147). -/
structure TablesFit (s : State) : Prop where
  held : ∀ c, HeldAs s c (s.circuit c).status
  record : ∀ c, (s.circuit c).Fits
  occupancy : ∀ n, n < 64 → (s.node n).occupancy = s.aloft (Flight.fliesTo n) + s.openLoopsAt n
  room : s.aloft (fun _ => true) + s.openLoops.length ≤ 64
  loopPoint : ∀ o ∈ s.openLoops, o.accessPoint < 256
  pins : PinsAccounted s

/-- Engines, locks and requests agree (R94, R25, R29, R158). -/
structure EnginesFit (s : State) : Prop where
  locks : LocksAccounted s
  engines : EnginesAccounted s
  requests : RequestsAccounted s

theorem accounted_iff (s : State) : Accounted s ↔ TablesFit s ∧ EnginesFit s := by
  have hc : CircuitsAccounted s ↔ (∀ c, HeldAs s c (s.circuit c).status) ∧ ∀ c, (s.circuit c).Fits := by
    unfold CircuitsAccounted
    simp only [holdings_iff]
    exact ⟨fun h => ⟨fun c => (h c).1, fun c => ⟨(h c).2.1, (h c).2.2.1, (h c).2.2.2⟩⟩,
      fun h c => ⟨h.1 c, (h.2 c).vacant, (h.2 c).cls, (h.2 c).point⟩⟩
  unfold Accounted SlotsAccounted
  rw [hc]
  simp only [countP_fliesTo, probesInFlight_eq]
  constructor
  · rintro ⟨⟨hh, hr⟩, ⟨ho, hm, hp⟩, hl, he, hpin, hq⟩
    exact ⟨⟨hh, hr, ho, hm, hp, hpin⟩, hl, he, hq⟩
  · rintro ⟨⟨hh, hr, ho, hm, hp, hpin⟩, hl, he, hq⟩
    exact ⟨⟨hh, hr⟩, ⟨ho, hm, hp⟩, hl, he, hpin, hq⟩

end Sys2Proof.Machine
end


section
/-! SUPPORT. Steps that keep every account: what the tables say of one another is not read from the phase of a probe. -/

namespace Sys2Proof.Machine

/-! ## One engine -/

/-- What no phase changes of a probe or calibration. -/
def Context.place (x : Context) : ContextKind × Option Nat × RateClass × Option Nat × Option Nat :=
  (x.kind, x.circuit, x.rate, x.accessPoint, x.farNode)

/-- For the accounts the engine `h` stands where `g` stood. -/
structure Engine.SameAccount (g h : Engine) : Prop where
  place : h.context.map Context.place = g.context.map Context.place
  inFlight : h.state.inFlight = g.state.inFlight
  following : h.state = .following ↔ g.state = .following
  quarantined : h.state = .quarantined ↔ g.state = .quarantined
  sound : g.sound → h.sound
  awaits : ∀ op, g.awaits op → h.awaits op

theorem Engine.SameAccount.refl (g : Engine) : g.SameAccount g :=
  ⟨rfl, rfl, Iff.rfl, Iff.rfl, id, fun _ => id⟩

theorem Engine.SameAccount.trans {g h k : Engine} (a : g.SameAccount h) (b : h.SameAccount k) : g.SameAccount k :=
  ⟨b.place.trans a.place, b.inFlight.trans a.inFlight, b.following.trans a.following, b.quarantined.trans a.quarantined,
    b.sound ∘ a.sound, fun op => b.awaits op ∘ a.awaits op⟩

/-- Contexts of one place agree in every field of it. -/
theorem map_of_place {a b : Option Context} {β : Type}
    (f : ContextKind × Option Nat × RateClass × Option Nat × Option Nat → β)
    (h : b.map Context.place = a.map Context.place) : b.map (fun x => f x.place) = a.map (fun x => f x.place) := by
  have := congrArg (Option.map f) h
  rwa [Option.map_map, Option.map_map] at this

theorem bind_of_place {a b : Option Context} {β : Type}
    (f : ContextKind × Option Nat × RateClass × Option Nat × Option Nat → Option β)
    (h : b.map Context.place = a.map Context.place) : b.bind (fun x => f x.place) = a.bind (fun x => f x.place) := by
  have := congrArg (fun o => Option.bind o f) h
  simpa [Option.bind_map] using this

theorem flight_of_place {g h : Engine} (hp : h.context.map Context.place = g.context.map Context.place)
    (hf : h.state.inFlight = g.state.inFlight) : h.flight = g.flight := by
  have hk : h.kind? = g.kind? := map_of_place (fun y => y.1) hp
  have hc : h.context.bind Context.circuit = g.context.bind Context.circuit := bind_of_place (fun y => y.2.1) hp
  have hn : h.context.bind Context.farNode = g.context.bind Context.farNode := bind_of_place (fun y => y.2.2.2.2) hp
  simp only [Engine.flight, hf, hk, hc, hn]

theorem wide_eq_map (g : Engine) : g.wide = ((g.context.map (fun x => x.rate == .wide)).getD false) := by
  unfold Engine.wide; cases g.context <;> rfl

theorem wide_of_place {g h : Engine} (hp : h.context.map Context.place = g.context.map Context.place) :
    h.wide = g.wide := by
  have hr : h.context.map (fun x => x.rate == .wide) = g.context.map (fun x => x.rate == .wide) :=
    map_of_place (fun y => y.2.2.1 == .wide) hp
  rw [wide_eq_map, wide_eq_map, hr]

theorem exists_of_place {g h : Engine} (hp : h.context.map Context.place = g.context.map Context.place) {y : Context}
    (hy : h.context = some y) : ∃ x, g.context = some x ∧ x.place = y.place := by
  rw [hy] at hp
  cases hg : g.context with
  | none => simp [hg] at hp
  | some x => exact ⟨x, rfl, by simpa [hg, eq_comm] using hp⟩

/-- The fields of a place, taken apart. -/
theorem place_eq_iff (x y : Context) : x.place = y.place ↔
    x.kind = y.kind ∧ x.circuit = y.circuit ∧ x.rate = y.rate ∧ x.accessPoint = y.accessPoint ∧ x.farNode = y.farNode := by
  simp [Context.place]

theorem worksAt_of_place {g h : Engine} (hp : h.context.map Context.place = g.context.map Context.place) {p : Nat}
    (hw : h.worksAt p) : g.worksAt p := by
  obtain ⟨y, hy, hk, ha⟩ := hw
  obtain ⟨x, hx, hxy⟩ := exists_of_place hp hy
  obtain ⟨e1, -, -, e2, -⟩ := (place_eq_iff x y).1 hxy
  exact ⟨x, hx, e1 ▸ hk, e2.trans ha⟩

/-! ## The whole part -/

/-- Nothing that the accounts read has changed. -/
structure State.SameAccounts (s t : State) : Prop where
  circuit : ∀ c, t.circuit c = s.circuit c
  queued : t.queuedCircuits = s.queuedCircuits
  spot : t.spot = s.spot
  loops : t.openLoops = s.openLoops
  occupancy : ∀ n, (t.node n).occupancy = (s.node n).occupancy
  owner : ∀ p, (t.point p).owner = (s.point p).owner
  requests : t.requests = s.requests
  engine : ∀ e, (s.engine e).SameAccount (t.engine e)

theorem queuedCircuits_congr {s t : State} (h : t.classes = s.classes) : t.queuedCircuits = s.queuedCircuits := by
  simp only [State.queuedCircuits, h]

theorem requests_congr {s t : State} (h : t.amc = s.amc) : t.requests = s.requests := by
  simp only [State.requests, h]

/-- The other fields of the state are not read. -/
theorem State.SameAccounts.of_frame {s t : State} (hc : t.circuits = s.circuits)
    (hq : t.queuedCircuits = s.queuedCircuits)
    (hs : t.spot = s.spot) (hl : t.openLoops = s.openLoops) (hn : t.nodes = s.nodes) (hp : t.points = s.points)
    (hr : t.requests = s.requests) (he : t.engines = s.engines) : s.SameAccounts t where
  circuit := circuit_congr hc
  queued := hq
  spot := hs
  loops := hl
  occupancy n := by rw [node_congr hn n]
  owner p := by rw [point_congr hp p]
  requests := hr
  engine e := by rw [engine_congr he e]; exact .refl _

theorem State.SameAccounts.refl (s : State) : s.SameAccounts s :=
  .of_frame rfl rfl rfl rfl rfl rfl rfl rfl

theorem State.SameAccounts.trans {s t u : State} (a : s.SameAccounts t) (b : t.SameAccounts u) : s.SameAccounts u where
  circuit c := (b.circuit c).trans (a.circuit c)
  queued := b.queued.trans a.queued
  spot := b.spot.trans a.spot
  loops := b.loops.trans a.loops
  occupancy n := (b.occupancy n).trans (a.occupancy n)
  owner p := (b.owner p).trans (a.owner p)
  requests := b.requests.trans a.requests
  engine e := (a.engine e).trans (b.engine e)

theorem State.SameAccounts.flight {s t : State} (k : s.SameAccounts t) (e : Nat) :
    (t.engine e).flight = (s.engine e).flight := flight_of_place (k.engine e).place (k.engine e).inFlight

/-- What the tables read: circuits, queues, loops, occupancies and flights. -/
theorem TablesFit.congr {s t : State} (h : TablesFit s) (hc : ∀ c, t.circuit c = s.circuit c)
    (hq : t.queuedCircuits = s.queuedCircuits) (hs : t.spot = s.spot) (hl : t.openLoops = s.openLoops)
    (hn : ∀ n, (t.node n).occupancy = (s.node n).occupancy) (hf : ∀ e, (t.engine e).flight = (s.engine e).flight) :
    TablesFit t := by
  have ha := aloft_congr hf
  refine ⟨fun c => ?_, fun c => ?_, fun n hlt => ?_, ?_, ?_, ?_⟩
  · rw [hc]
    exact (h.held c).congr (by rw [hq]) (by rw [hs]) (fun st => ha _) (by rw [hl])
  · rw [hc]; exact h.record c
  · rw [hn, ha, h.occupancy n hlt, State.openLoopsAt, State.openLoopsAt, hl]
  · rw [ha, hl]; exact h.room
  · rw [hl]; exact h.loopPoint
  · intro e i hi
    rw [hs] at hi
    exact h.pins e i hi

theorem TablesFit.same {s t : State} (h : TablesFit s) (k : s.SameAccounts t) : TablesFit t :=
  h.congr k.circuit k.queued k.spot k.loops k.occupancy k.flight

/-- Locks are read from the owners of the points, the contexts, and who is quarantined. -/
theorem LocksAccounted.same {s t : State} (h : LocksAccounted s) (ho : ∀ p, (t.point p).owner = (s.point p).owner)
    (hp : ∀ e, (t.engine e).context.map Context.place = (s.engine e).context.map Context.place)
    (hq : ∀ e, (s.engine e).state = .quarantined → (t.engine e).state = .quarantined) : LocksAccounted t := by
  obtain ⟨hown, hctx⟩ := h
  refine ⟨fun p e hlt hpe => ?_, fun e y he hy hk => ?_⟩
  · rw [ho] at hpe
    obtain ⟨he, hw⟩ := hown p e hlt hpe
    exact ⟨he, hw.imp (hq e) (worksAt_of_place (hp e).symm)⟩
  · obtain ⟨x, hx, hxy⟩ := exists_of_place (hp e) hy
    obtain ⟨e1, -, -, e2, -⟩ := (place_eq_iff x y).1 hxy
    obtain ⟨p, hlt, hap, hpo⟩ := hctx e x he hx (e1 ▸ hk)
    exact ⟨p, hlt, e2 ▸ hap, by rw [ho]; exact hpo⟩

/-- Pairs are read from the rate classes and who is following. -/
theorem EnginesAccounted.same {s t : State} (h : EnginesAccounted s)
    (hp : ∀ e, (t.engine e).context.map Context.place = (s.engine e).context.map Context.place)
    (hf : ∀ e, (t.engine e).state = .following ↔ (s.engine e).state = .following)
    (hs : ∀ e, e < 16 → (t.engine e).sound) : EnginesAccounted t := by
  intro e he
  obtain ⟨-, hw, hfol⟩ := h e he
  refine ⟨hs e he, ?_, ?_⟩
  · rw [wide_of_place (hp e), hf (e + 1)]; exact hw
  · rw [wide_of_place (hp (e - 1)), hf e]; exact hfol

theorem EnginesFit.same {s t : State} (h : EnginesFit s) (k : s.SameAccounts t) : EnginesFit t where
  locks := h.locks.same k.owner (fun e => (k.engine e).place) (fun e => (k.engine e).quarantined.2)
  engines := h.engines.same (fun e => (k.engine e).place) (fun e => (k.engine e).following)
    (fun e he => (k.engine e).sound (h.engines e he).1)
  requests := by
    obtain ⟨hn, ha⟩ := h.requests
    unfold RequestsAccounted
    rw [k.requests]
    exact ⟨hn, fun r hr e he => ⟨(ha r hr e he).1, (k.engine e).awaits _ (ha r hr e he).2⟩⟩

theorem Accounted.same {s t : State} (h : Accounted s) (k : s.SameAccounts t) : Accounted t := by
  rw [accounted_iff] at h ⊢
  exact ⟨h.1.same k, h.2.same k⟩

/-! ## Operations that the accounts do not see -/

theorem sameAccounts_place (s : State) (r : TxRecord) : s.SameAccounts (s.place r) :=
  .of_frame rfl rfl rfl rfl rfl rfl rfl rfl

theorem sameAccounts_mli (s : State) (m : Mli) : s.SameAccounts { s with mli := m } :=
  .of_frame rfl rfl rfl rfl rfl rfl rfl rfl

theorem sameAccounts_reply (s : State) (c : Cmd) (st : Status) (p : List Byte) (b : Bool) :
    s.SameAccounts (s.reply c st p b) :=
  sameAccounts_place s _

theorem sameAccounts_offer (s : State) (code : Byte) (p : List Byte) : s.SameAccounts (s.offer code p) := by
  unfold State.offer
  split
  · exact sameAccounts_place s _
  · exact sameAccounts_mli s _

theorem sameAccounts_startRun (s : State) : s.SameAccounts s.startRun :=
  .of_frame rfl rfl rfl rfl rfl rfl rfl rfl

theorem sameAccounts_startRunIf (s : State) (b : Bool) : s.SameAccounts (s.startRunIf b) := by
  unfold State.startRunIf
  split
  · exact sameAccounts_startRun s
  · exact .refl s

theorem sameAccounts_takeSlot (s : State) (i : Nat) (c : Cmd) (op : DeferredOp) : s.SameAccounts (s.takeSlot i c op) :=
  .of_frame rfl rfl rfl rfl rfl rfl rfl rfl

theorem sameAccounts_setSlot (s : State) (i : Nat) (x : Option DeferredSlot) : s.SameAccounts (s.setSlot i x) :=
  .of_frame rfl rfl rfl rfl rfl rfl rfl rfl

theorem sameAccounts_answer (s : State) (i : Nat) (st : Status) (b : Bool) (p : List Byte) :
    s.SameAccounts (s.answer i st b p) := by
  unfold State.answer
  split
  · split
    · exact .refl s
    · exact (sameAccounts_place s _).trans (sameAccounts_setSlot _ _ _)
  · exact .refl s

theorem sameAccounts_modCampaign (s : State) (f : Campaign → Campaign) : s.SameAccounts (s.modCampaign f) :=
  .of_frame rfl rfl rfl rfl rfl rfl rfl rfl

/-- A change of the pacing classes that keeps their queues. -/
theorem queuedCircuits_map (s : State) (f : PacingClass → PacingClass) (hf : ∀ k, (f k).queue = k.queue) :
    ({ s with classes := s.classes.map f } : State).queuedCircuits = s.queuedCircuits := by
  rw [State.queuedCircuits, Vector.toList_map, List.flatMap_map]
  exact List.flatMap_congr (fun k _ => hf k)

theorem sameAccounts_mapClasses (s : State) (f : PacingClass → PacingClass) (hf : ∀ k, (f k).queue = k.queue) :
    s.SameAccounts { s with classes := s.classes.map f } :=
  .of_frame rfl (queuedCircuits_map s f hf) rfl rfl rfl rfl rfl rfl

theorem sameAccounts_zeroCredits (s : State) : s.SameAccounts s.zeroCredits :=
  sameAccounts_mapClasses s _ (fun _ => rfl)

theorem sameAccounts_endCampaign (s : State) : s.SameAccounts s.endCampaign :=
  ((sameAccounts_modCampaign s _).trans (sameAccounts_zeroCredits _)).trans (sameAccounts_offer _ _ _)

theorem sameAccounts_testEnd (s : State) : s.SameAccounts s.testEnd := by
  unfold State.testEnd
  split
  · exact sameAccounts_endCampaign s
  · exact .refl s

theorem sameAccounts_testEndIf (s : State) (b : Bool) : s.SameAccounts (s.testEndIf b) := by
  unfold State.testEndIf
  split
  · exact sameAccounts_testEnd s
  · exact .refl s

theorem sameAccounts_setNode (s : State) (n : Nat) (x : Node) (hx : x.occupancy = (s.node n).occupancy) :
    s.SameAccounts (s.setNode n x) where
  circuit _ := rfl
  queued := rfl
  spot := rfl
  loops := rfl
  occupancy m := by rw [node_setNode]; split <;> simp_all
  owner _ := rfl
  requests := rfl
  engine _ := .refl _

theorem sameAccounts_setPoint (s : State) (p : Nat) (x : Point) (hx : x.owner = (s.point p).owner) :
    s.SameAccounts (s.setPoint p x) where
  circuit _ := rfl
  queued := rfl
  spot := rfl
  loops := rfl
  occupancy _ := rfl
  owner q := by rw [point_setPoint]; split <;> simp_all
  requests := rfl
  engine _ := .refl _

/-- The four class queues, one behind the other. -/
theorem queuedCircuits_eq (s : State) :
    s.queuedCircuits = (s.cls 0).queue ++ (s.cls 1).queue ++ (s.cls 2).queue ++ (s.cls 3).queue := by
  have h : s.classes.toList = (List.range 4).map s.cls := by
    refine List.ext_getElem (by simp) (fun i hi _ => ?_)
    have hi : i < 4 := by simpa using hi
    simp [State.cls, hi]
  simp [State.queuedCircuits, h, List.range_succ]

theorem sameAccounts_setCls (s : State) (k : Nat) (x : PacingClass) (hx : x.queue = (s.cls k).queue) :
    s.SameAccounts (s.setCls k x) := by
  have hq (j : Nat) : ((s.setCls k x).cls j).queue = (s.cls j).queue := by
    rw [cls_setCls]; split <;> simp_all
  exact .of_frame rfl (by simp only [queuedCircuits_eq, hq]) rfl rfl rfl rfl rfl rfl

/-- Only engines change, each to one of the same account. -/
theorem sameAccounts_engines {s t : State} (hc : t.circuits = s.circuits) (hq : t.classes = s.classes)
    (hs : t.spot = s.spot) (hl : t.openLoops = s.openLoops) (hn : t.nodes = s.nodes) (hp : t.points = s.points)
    (hr : t.amc = s.amc) (he : ∀ e, (s.engine e).SameAccount (t.engine e)) : s.SameAccounts t where
  circuit := circuit_congr hc
  queued := queuedCircuits_congr hq
  spot := hs
  loops := hl
  occupancy n := by rw [node_congr hn n]
  owner p := by rw [point_congr hp p]
  requests := requests_congr hr
  engine := he

theorem sameAccounts_modEngine (s : State) (e : Nat) (f : Engine → Engine)
    (hf : e < 16 → (s.engine e).SameAccount (f (s.engine e))) :
    s.SameAccounts (s.modEngine e f) := by
  refine sameAccounts_engines rfl rfl rfl rfl rfl rfl rfl (fun d => ?_)
  unfold State.modEngine
  rw [engine_setEngine]
  split
  · rename_i h; obtain ⟨rfl, h⟩ := h; exact hf h
  · exact .refl _

end Sys2Proof.Machine
end


section
/-! SUPPORT. The operations on circuits, class queues, the spot queue and the open loop list keep the accounts. They touch no
engine, no lock and no request. -/

namespace Sys2Proof.Machine

theorem EnginesFit.of_frame {s t : State} (h : EnginesFit s) (he : t.engines = s.engines) (hp : t.points = s.points)
    (hr : t.amc = s.amc) : EnginesFit t where
  locks := h.locks.same (fun p => by rw [point_congr hp p]) (fun e => by rw [engine_congr he e])
    (fun e => by rw [engine_congr he e]; exact id)
  engines := h.engines.same (fun e => by rw [engine_congr he e]) (fun e => by rw [engine_congr he e])
    (fun e hlt => by rw [engine_congr he e]; exact (h.engines e hlt).1)
  requests := by
    have hreq := h.requests
    unfold RequestsAccounted at hreq ⊢
    simpa only [requests_congr hr, engine_congr he] using hreq

/-! ## Circuits -/

theorem lt_of_status {s : State} {c : Nat} (h : (s.circuit c).status ≠ .idle) : c < 2048 := by
  by_contra hc
  exact h (by rw [circuit_of_le s c (by omega)]; rfl)

theorem circuit_setStatus (s : State) (c d : Nat) (st : ProbeStatus) :
    (s.setStatus c st).circuit d = if c = d ∧ c < 2048 then { s.circuit c with status := st } else s.circuit d :=
  circuit_setCircuit s c d _

/-- One circuit changes its record or its place; nodes, loops and flights stand. -/
theorem TablesFit.move {s t : State} (h : TablesFit s) (c : Nat) (hrec : ∀ d, d ≠ c → t.circuit d = s.circuit d)
    (hfit : (t.circuit c).Fits) (hheld : HeldAs t c (t.circuit c).status)
    (hq : ∀ d, d ≠ c → t.queuedCircuits.count d = s.queuedCircuits.count d)
    (hs : ∀ d, d ≠ c → t.spot.countP (fun x => x.probes d) = s.spot.countP (fun x => x.probes d))
    (hpin : ∀ e i, SpotEntry.calibration e i ∈ t.spot → e < 16)
    (he : t.engines = s.engines) (hl : t.openLoops = s.openLoops) (hn : t.nodes = s.nodes) : TablesFit t := by
  have ha := aloft_congr (s := s) (t := t) (fun e => by rw [engine_congr he e])
  refine ⟨fun d => ?_, fun d => ?_, fun n hlt => ?_, ?_, ?_, hpin⟩
  · by_cases hd : d = c
    · subst hd; exact hheld
    · rw [hrec d hd]
      exact (h.held d).congr (hq d hd) (hs d hd) (fun _ => ha _) (by rw [hl])
  · by_cases hd : d = c
    · subst hd; exact hfit
    · rw [hrec d hd]; exact h.record d
  · rw [node_congr hn, ha, State.openLoopsAt, hl]; exact h.occupancy n hlt
  · rw [ha, hl]; exact h.room
  · rw [hl]; exact h.loopPoint

/-- A record is rewritten with the probe status that it had. -/
theorem TablesFit.setCircuit {s : State} (h : TablesFit s) (c : Nat) (x : Circuit) (hx : x.Fits)
    (hst : x.status = (s.circuit c).status) : TablesFit (s.setCircuit c x) := by
  have hself : (s.setCircuit c x).circuit c = x ∨ (s.setCircuit c x).circuit c = s.circuit c := by
    rw [circuit_setCircuit]; split
    · exact .inl rfl
    · exact .inr rfl
  have hstat : ((s.setCircuit c x).circuit c).status = (s.circuit c).status := by
    rcases hself with e | e <;> simp [e, hst]
  refine h.move c (fun d hd => circuit_setCircuit_ne s c d x (Ne.symm hd)) ?_ ?_ (fun _ _ => rfl) (fun _ _ => rfl)
    h.pins rfl rfl rfl
  · rcases hself with e | e
    · rw [e]; exact hx
    · rw [e]; exact h.record c
  · rw [hstat]; exact (h.held c).congr rfl rfl (fun _ => rfl) rfl

/-! ## The class queues -/

theorem queuedCircuits_dequeue (s : State) (c : Nat) :
    (s.dequeue c).queuedCircuits = s.queuedCircuits.filter (fun x => x != c) := by
  simp only [State.queuedCircuits, State.dequeue, Vector.toList_map, List.flatMap_map, List.filter_flatMap]

theorem count_dequeue_self (s : State) (c : Nat) : (s.dequeue c).queuedCircuits.count c = 0 := by
  rw [queuedCircuits_dequeue, List.count_eq_zero]; simp

theorem count_dequeue_ne (s : State) (c d : Nat) (h : d ≠ c) :
    (s.dequeue c).queuedCircuits.count d = s.queuedCircuits.count d := by
  rw [queuedCircuits_dequeue, List.count_filter (by simpa using h)]

theorem count_enqueue (s : State) (k c d : Nat) (hk : k < 4) :
    (s.enqueue k c).queuedCircuits.count d = s.queuedCircuits.count d + (if c = d then 1 else 0) := by
  have hcls (j : Nat) : ((s.enqueue k c).cls j).queue = (s.cls j).queue ++ (if k = j then [c] else []) := by
    rw [State.enqueue, cls_setCls]
    by_cases h : k = j
    · subst h; simp [hk]
    · simp [h]
  simp only [queuedCircuits_eq, hcls, List.count_append]
  obtain rfl | rfl | rfl | rfl : k = 0 ∨ k = 1 ∨ k = 2 ∨ k = 3 := by omega
  all_goals simp [List.count_singleton]; omega

theorem TablesFit.status_of_queued {s : State} (h : TablesFit s) {c : Nat} (hc : c ∈ s.queuedCircuits) :
    (s.circuit c).status = .queued := by
  by_contra hn
  have := (h.held c).queued
  rw [if_neg hn, List.count_eq_zero] at this
  exact this hc

theorem TablesFit.mem_of_status {s : State} (h : TablesFit s) {c : Nat} (hc : (s.circuit c).status = .queued) :
    c ∈ s.queuedCircuits := by
  have := (h.held c).queued
  rw [if_pos hc] at this
  exact List.count_pos_iff.1 (by omega)

theorem TablesFit.queue_nodup {s : State} (h : TablesFit s) : s.queuedCircuits.Nodup := by
  rw [List.nodup_iff_count_le_one]
  intro c
  rw [(h.held c).queued]
  split <;> omega

/-- A class entry leaves its queue and its circuit becomes IDLE. -/
theorem TablesFit.removeQueued {s : State} (h : TablesFit s) (r : NotTested) {c : Nat} (hc : c ∈ s.queuedCircuits) :
    TablesFit (s.removeQueued r c) := by
  have hst := h.status_of_queued hc
  have hlt : c < 2048 := lt_of_status (by rw [hst]; decide)
  have hrec (d : Nat) : (s.removeQueued r c).circuit d =
      if c = d ∧ c < 2048 then { s.circuit c with status := .idle } else s.circuit d :=
    circuit_setStatus (s.dequeue c) c d .idle
  have hself : (s.removeQueued r c).circuit c = { s.circuit c with status := .idle } := by rw [hrec]; simp [hlt]
  have hh := h.held c
  rw [hst] at hh
  refine h.move c (fun d hd => by rw [hrec]; simp [Ne.symm hd]) ?_ ?_ (fun d hd => count_dequeue_ne s c d hd)
    (fun _ _ => rfl) h.pins rfl rfl rfl
  · rw [hself]
    obtain ⟨-, hcls, hp⟩ := h.record c
    exact ⟨fun _ => rfl, hcls, hp⟩
  · rw [hself]
    exact ⟨count_dequeue_self s c, hh.spot, hh.active, hh.loop⟩

theorem queuedCircuits_removeQueued (s : State) (r : NotTested) (c : Nat) :
    (s.removeQueued r c).queuedCircuits = s.queuedCircuits.filter (fun x => x != c) := queuedCircuits_dequeue s c

theorem TablesFit.removeAll {s : State} (h : TablesFit s) (r : NotTested) (l : List Nat) (hn : l.Nodup)
    (hl : ∀ c ∈ l, c ∈ s.queuedCircuits) : TablesFit (l.foldl (fun t c => t.removeQueued r c) s) := by
  induction l generalizing s with
  | nil => exact h
  | cons c rest ih =>
    obtain ⟨hc, hrest⟩ := List.nodup_cons.1 hn
    refine ih (h.removeQueued r (hl c (by simp))) hrest (fun d hd => ?_)
    rw [queuedCircuits_removeQueued, List.mem_filter]
    exact ⟨hl d (by simp [hd]), by simp only [bne_iff_ne]; rintro rfl; exact hc hd⟩

theorem TablesFit.withdraw {s : State} (h : TablesFit s) (r : NotTested) {c : Nat} (hc : c ∈ s.queuedCircuits) :
    TablesFit (s.withdraw r c) := (h.removeQueued r hc).same (sameAccounts_testEnd _)

theorem TablesFit.drain {s : State} (h : TablesFit s) (r : NotTested) (k : EndCause) : TablesFit (s.drain r k) :=
  (h.removeAll r _ h.queue_nodup (fun _ => id)).same
    ((sameAccounts_modCampaign _ _).trans (sameAccounts_zeroCredits _))

/-- An IDLE circuit that is not VACANT joins the queue of its class. -/
theorem TablesFit.queueCircuit {s : State} (h : TablesFit s) {c : Nat} (hlt : c < 2048)
    (hst : (s.circuit c).status = .idle)
    (hd : (s.circuit c).defState ≠ .vacant) : TablesFit (s.queueCircuit c) := by
  obtain ⟨-, hcls, hp⟩ := h.record c
  have hrec (d : Nat) : (s.queueCircuit c).circuit d =
      if c = d ∧ c < 2048 then { s.circuit c with status := .queued } else s.circuit d := circuit_setStatus s c d .queued
  have hself : (s.queueCircuit c).circuit c = { s.circuit c with status := .queued } := by rw [hrec]; simp [hlt]
  have hcount (d : Nat) : (s.queueCircuit c).queuedCircuits.count d = s.queuedCircuits.count d + (if c = d then 1 else 0) :=
    count_enqueue (s.setStatus c .queued) _ c d hcls
  have hh := h.held c
  rw [hst] at hh
  refine h.move c (fun d hd => by rw [hrec]; simp [Ne.symm hd]) ?_ ?_ (fun d hd => by rw [hcount]; simp [Ne.symm hd])
    (fun _ _ => rfl) h.pins rfl rfl rfl
  · rw [hself]
    exact ⟨fun hv => absurd hv hd, hcls, hp⟩
  · rw [hself]
    exact ⟨by rw [hcount, hh.queued]; simp, hh.spot, hh.active, hh.loop⟩

/-- A class entry moves to the tail of another queue. -/
theorem sameHeld_requeue {s : State} (h : TablesFit s) {c k : Nat} (hc : c ∈ s.queuedCircuits) (hk : k < 4) :
    TablesFit ((s.dequeue c).enqueue k c) := by
  have hcount (d : Nat) := count_enqueue (s.dequeue c) k c d hk
  have hone : s.queuedCircuits.count c = 1 := by rw [(h.held c).queued, if_pos (h.status_of_queued hc)]
  refine h.move c (fun _ _ => rfl) (h.record c) ((h.held c).congr ?_ rfl (fun _ => rfl) rfl) (fun d hd => ?_)
    (fun _ _ => rfl) h.pins rfl rfl rfl
  · rw [hcount, count_dequeue_self, hone]; simp
  · rw [hcount, count_dequeue_ne s c d hd]; simp [Ne.symm hd]

/-! ## The spot queue -/

theorem TablesFit.joinSpot_other {s : State} (h : TablesFit s) (x : SpotEntry) (hx : ∀ c, x.probes c = false)
    (hpin : ∀ e i, x = .calibration e i → e < 16) : TablesFit (s.joinSpot x) := by
  have hcount (d : Nat) : (s.joinSpot x).spot.countP (fun y => y.probes d) = s.spot.countP (fun y => y.probes d) := by
    show (s.spot ++ [x]).countP _ = _
    simp [hx d]
  refine h.move 0 (fun _ _ => rfl) (h.record 0) ((h.held 0).congr rfl (hcount 0) (fun _ => rfl) rfl) (fun _ _ => rfl)
    (fun d _ => hcount d) (fun e i hi => ?_) rfl rfl rfl
  rcases List.mem_append.1 (show _ ∈ s.spot ++ [x] from hi) with hi | hi
  · exact h.pins e i hi
  · exact hpin e i (by simpa [eq_comm] using hi)

/-- An IDLE circuit that is not VACANT takes a place in the spot queue. -/
theorem TablesFit.joinProbe {s : State} (h : TablesFit s) {c : Nat} (slot : Option Nat) (hlt : c < 2048)
    (hst : (s.circuit c).status = .idle) (hd : (s.circuit c).defState ≠ .vacant) :
    TablesFit ((s.setStatus c .spot).joinSpot (.probe c slot)) := by
  obtain ⟨-, hcls, hp⟩ := h.record c
  have hrec (d : Nat) : ((s.setStatus c .spot).joinSpot (.probe c slot)).circuit d =
      if c = d ∧ c < 2048 then { s.circuit c with status := .spot } else s.circuit d := circuit_setStatus s c d .spot
  have hself := hrec c
  simp only [hlt, and_self, if_true] at hself
  have hcount (d : Nat) : ((s.setStatus c .spot).joinSpot (.probe c slot)).spot.countP (fun y => y.probes d) =
      s.spot.countP (fun y => y.probes d) + (if c = d then 1 else 0) := by
    show (s.spot ++ [SpotEntry.probe c slot]).countP _ = _
    simp [SpotEntry.probes]
  have hh := h.held c
  rw [hst] at hh
  refine h.move c (fun d hd => by rw [hrec]; simp [Ne.symm hd]) ?_ ?_ (fun _ _ => rfl)
    (fun d hd => by rw [hcount]; simp [Ne.symm hd]) (fun e i hi => ?_) rfl rfl rfl
  · rw [hself]; exact ⟨fun hv => absurd hv hd, hcls, hp⟩
  · rw [hself]
    have hs := hh.spot
    refine ⟨hh.queued, ?_, hh.active, hh.loop⟩
    rw [hcount]
    change _ + s.aloft _ = _
    rw [if_neg (by decide)] at hs
    rw [if_pos rfl, if_pos rfl]
    omega
  · rcases List.mem_append.1 (show _ ∈ s.spot ++ [SpotEntry.probe c slot] from hi) with hi | hi
    · exact h.pins e i hi
    · simp at hi

theorem countP_leaveSpot (s : State) (x : SpotEntry) (d : Nat) :
    (s.leaveSpot x).spot.countP (fun y => y.probes d) =
      s.spot.countP (fun y => y.probes d) - if x ∈ s.spot ∧ x.probes d = true then 1 else 0 :=
  List.countP_erase _ _ _

/-- An entry that is no probe leaves the spot queue. -/
theorem TablesFit.leaveSpot_other {s : State} (h : TablesFit s) (x : SpotEntry) (hx : ∀ c, x.probes c = false) :
    TablesFit (s.leaveSpot x) := by
  have hcount (d : Nat) : (s.leaveSpot x).spot.countP (fun y => y.probes d) = s.spot.countP (fun y => y.probes d) := by
    rw [countP_leaveSpot]; simp [hx d]
  exact h.move 0 (fun _ _ => rfl) (h.record 0) ((h.held 0).congr rfl (hcount 0) (fun _ => rfl) rfl) (fun _ _ => rfl)
    (fun d _ => hcount d) (fun e i hi => h.pins e i (List.mem_of_mem_erase hi)) rfl rfl rfl

theorem probes_self (c : Nat) (slot : Option Nat) :
    (SpotEntry.probe c slot).probes c = true := by simp [SpotEntry.probes]

theorem TablesFit.waits_spot {s : State} (h : TablesFit s) {c : Nat} {slot : Option Nat}
    (hx : SpotEntry.probe c slot ∈ s.spot) :
    (s.circuit c).status = .spot ∧ s.spot.countP (fun y => y.probes c) = 1 ∧ s.aloft (Flight.holds c .spot) = 0 := by
  have hs := (h.held c).spot
  have hpos : 0 < s.spot.countP (fun y => y.probes c) := List.countP_pos_iff.2 ⟨_, hx, probes_self c slot⟩
  split at hs
  · exact ⟨‹_›, by omega, by omega⟩
  · omega

/-- A waiting spot probe leaves the queue and its circuit becomes IDLE. -/
theorem TablesFit.leaveProbe {s : State} (h : TablesFit s) {c : Nat} {slot : Option Nat}
    (hx : SpotEntry.probe c slot ∈ s.spot) :
    TablesFit ((s.leaveSpot (.probe c slot)).setStatus c .idle) := by
  obtain ⟨hst, hone, hnone⟩ := h.waits_spot hx
  have hlt : c < 2048 := lt_of_status (by rw [hst]; decide)
  have hrec (d : Nat) : ((s.leaveSpot (.probe c slot)).setStatus c .idle).circuit d =
      if c = d ∧ c < 2048 then { s.circuit c with status := .idle } else s.circuit d :=
    circuit_setStatus (s.leaveSpot (.probe c slot)) c d .idle
  have hself := hrec c
  simp only [hlt, and_self, if_true] at hself
  have hh := h.held c
  rw [hst] at hh
  refine h.move c (fun d hd => by rw [hrec]; simp [Ne.symm hd]) ?_ ?_ (fun _ _ => rfl) (fun d hd => ?_)
    (fun e i hi => h.pins e i (List.mem_of_mem_erase hi)) rfl rfl rfl
  · rw [hself]
    obtain ⟨-, hcls, hp⟩ := h.record c
    exact ⟨fun _ => rfl, hcls, hp⟩
  · rw [hself]
    refine ⟨hh.queued, ?_, hh.active, hh.loop⟩
    change (s.leaveSpot _).spot.countP _ + s.aloft _ = _
    rw [countP_leaveSpot, hone, hnone]
    simp [hx, probes_self]
  · change (s.leaveSpot _).spot.countP _ = _
    rw [countP_leaveSpot]
    simp [SpotEntry.probes, Ne.symm hd]

theorem TablesFit.removeSpot {s : State} (h : TablesFit s) (st : Status) {x : SpotEntry} (hx : x ∈ s.spot) :
    TablesFit (s.removeSpot st x) := by
  unfold State.removeSpot
  split
  · exact ((h.leaveProbe hx).same (sameAccounts_offer _ _ _)).same (sameAccounts_startRun _)
  · exact ((h.leaveProbe hx).same (sameAccounts_answer _ _ _ _ _)).same (sameAccounts_startRun _)
  · exact ((h.leaveSpot_other _ (fun _ => rfl)).same (sameAccounts_offer _ _ _)).same (sameAccounts_startRun _)
  · exact h

/-- What is left of the spot queue still holds the rest of a sublist. -/
theorem sublist_removeSpot {s : State} {st : Status} {x : SpotEntry} {rest : List SpotEntry}
    (h : (x :: rest).Sublist s.spot) :
    rest.Sublist (s.removeSpot st x).spot := by
  have herase : rest.Sublist (s.spot.erase x) := by simpa using h.erase x
  unfold State.removeSpot
  split
  · simpa [State.leaveSpot] using herase
  · simpa [State.leaveSpot] using herase
  · simpa [State.leaveSpot] using herase
  · exact (List.sublist_cons_self _ _).trans h

theorem TablesFit.removeSpots {s : State} (h : TablesFit s) (st : Status) (l : List SpotEntry) (hl : l.Sublist s.spot) :
    TablesFit (l.foldl (fun u x => u.removeSpot st x) s) := by
  induction l generalizing s with
  | nil => exact h
  | cons x rest ih => exact ih (h.removeSpot st (hl.subset (by simp))) (sublist_removeSpot hl)

theorem TablesFit.removeCalibration {s : State} (h : TablesFit s) (x : SpotEntry) :
    TablesFit (s.removeCalibration x) := by
  unfold State.removeCalibration
  split
  · exact ((h.leaveSpot_other _ (fun _ => rfl)).same (sameAccounts_answer _ _ _ _ _)).same (sameAccounts_startRun _)
  · exact h
  · exact h

/-! ## A hold (R140) -/

theorem TablesFit.holdNode {s : State} (h : TablesFit s) (n : Nat) (cause : HoldCause) :
    TablesFit (s.holdNode n cause) := by
  have h₁ : TablesFit (s.setNode n { s.node n with state := .held }) := h.same (sameAccounts_setNode s n _ rfl)
  have h₂ := h₁.removeAll .held (s.heldClassEntries n) (h.queue_nodup.filter _) (fun c hc => List.mem_of_mem_filter hc)
  have h₃ := h₂.removeSpots .nodeHeld (s.heldSpotEntries n) (by
    have hspot := foldl_keeps (fun t c => t.removeQueued .held c) State.spot (fun _ _ => by simp) (s.heldClassEntries n)
      (s.setNode n { s.node n with state := .held })
    rw [hspot]
    exact List.filter_sublist)
  have h₄ (p : List Byte) := h₃.same (sameAccounts_offer _ noticeNodeHold p)
  unfold State.holdNode
  dsimp only
  split
  · exact h₄ _
  · exact (h₄ _).same (sameAccounts_testEnd _)

theorem holdNode_points_engines_amc (s : State) (n : Nat) (cause : HoldCause) :
    (s.holdNode n cause).engines = s.engines ∧ (s.holdNode n cause).points = s.points ∧ (s.holdNode n cause).amc = s.amc := by
  simp

theorem Accounted.holdNode {s : State} (h : Accounted s) (n : Nat) (cause : HoldCause) :
    Accounted (s.holdNode n cause) := by
  rw [accounted_iff] at h ⊢
  obtain ⟨he, hp, ha⟩ := holdNode_points_engines_amc s n cause
  exact ⟨h.1.holdNode n cause, h.2.of_frame he hp ha⟩

end Sys2Proof.Machine
end


section
/-! SUPPORT. Engines, locks and requests: launches, disconnects, engines that come to rest, and requests that complete keep the
accounts of the engines. -/

namespace Sys2Proof.Machine

/-! ## One engine -/

/-- A probe in flight that neither outcome has ended. -/
structure Context.Flies (x : Context) : Prop where
  kind : x.kind ≠ .calibration
  circuit : x.circuit ≠ none
  farNode : x.farNode ≠ none
  blocked : .blocked ∉ x.outcomes
  stuck : .stuckLoop ∉ x.outcomes

theorem Engine.sound.context_some {g : Engine} (h : g.sound) {x : Context} (hx : g.context = some x) :
    g.state ≠ .idle ∧ g.state ≠ .offline ∧ g.state ≠ .quarantined ∧ g.state ≠ .following := by
  have : ¬(g.state = .idle ∨ g.state = .offline ∨ g.state = .quarantined ∨ g.state = .following) := by
    rw [← h.1, hx]; simp
  simpa using this

theorem Engine.sound.context_none {g : Engine} (h : g.sound)
    (hg : g.state = .idle ∨ g.state = .offline ∨ g.state = .quarantined ∨ g.state = .following) : g.context = none :=
  h.1.2 hg

theorem Engine.sound.flies {g : Engine} (h : g.sound) (hf : g.state.inFlight = true) :
    ∃ x, g.context = some x ∧ x.Flies := by
  cases hx : g.context with
  | none => rcases h.1.1 hx with e | e | e | e <;> simp [e, EngineState.inFlight] at hf
  | some x =>
    obtain ⟨-, -, -, -, -, -, hfly⟩ := h
    obtain ⟨hkind, hcirc, hnode, hblocked, hstuck⟩ := hfly hf x hx
    exact ⟨x, rfl, hkind, hcirc, hnode, hblocked, hstuck⟩

theorem Engine.sound.base_of_calibration {g : Engine} (h : g.sound) {x : Context} (hx : g.context = some x)
    (hk : x.kind = .calibration) : x.rate = .base := by
  obtain ⟨-, -, hbase, -⟩ := h
  exact hbase x hx hk

theorem Engine.sound.state_of_settle {g : Engine} (h : g.sound) (hs : g.settleUntil ≠ none) :
    g.state = .connecting ∨ g.state = .calibrating := by
  obtain ⟨-, -, -, hset, -⟩ := h
  exact hset hs

theorem Engine.sound.state_of_limit {g : Engine} (h : g.sound) (hl : g.limitUntil ≠ none) : g.state = .calibrating := by
  obtain ⟨-, -, -, -, -, hlim, -⟩ := h
  exact hlim hl

theorem search_of_awaits {g : Engine} (h : g.awaits .loopPort) : g.lane.wordDet.search = none := by
  obtain ⟨-, -, -, hsearch⟩ := h
  exact hsearch

/-- An engine with a probe in flight. -/
theorem sound_of_flies {g : Engine} {x : Context} (hx : g.context = some x) (hf : g.state.inFlight = true)
    (hfl : x.Flies)
    (hset : g.settleUntil ≠ none → g.state = .connecting) (hchk : g.checkFrom ≠ none → g.state = .loopDown)
    (hlim : g.limitUntil = none) : g.sound := by
  refine ⟨?_, ?_, ?_, fun h => .inl (hset h), hchk, fun h => absurd hlim h, ?_⟩
  · rw [hx]
    refine ⟨nofun, ?_⟩
    rintro (h | h | h | h) <;> simp [h, EngineState.inFlight] at hf
  · intro h; simp [h, EngineState.inFlight] at hf
  · intro y hy hk
    obtain rfl : x = y := by simpa [hx] using hy
    exact absurd hk hfl.kind
  · intro _ y hy
    obtain rfl : x = y := by simpa [hx] using hy
    exact ⟨hfl.kind, hfl.circuit, hfl.farNode, hfl.blocked, hfl.stuck⟩

/-- An engine that waits for its DISCONNECT. -/
theorem sound_of_disconnecting {g : Engine} {x : Context} (hx : g.context = some x) (hst : g.state = .disconnecting)
    (hk : x.kind = .calibration → x.rate = .base) (hset : g.settleUntil = none) (hchk : g.checkFrom = none)
    (hlim : g.limitUntil = none) : g.sound := by
  refine ⟨?_, ?_, ?_, fun h => absurd hset h, fun h => absurd hchk h, fun h => absurd hlim h, ?_⟩
  · rw [hx, hst]; simp
  · rw [hst]; simp
  · intro y hy
    obtain rfl : x = y := by simpa [hx] using hy
    exact hk
  · rw [hst]; simp [EngineState.inFlight]

/-- IDLE, OFFLINE or QUARANTINED, without a probe. -/
structure Engine.AtRest (g : Engine) : Prop where
  context : g.context = none
  state : g.state = .idle ∨ g.state = .offline ∨ g.state = .quarantined
  settle : g.settleUntil = none
  check : g.checkFrom = none
  limit : g.limitUntil = none

theorem Engine.AtRest.flight {g : Engine} (h : g.AtRest) : g.flight = none := by
  unfold Engine.flight
  rcases h.state with e | e | e <;> simp [e, EngineState.inFlight]

theorem Engine.AtRest.sound {g : Engine} (h : g.AtRest) : g.sound := by
  obtain ⟨hc, hs, h1, h2, h3⟩ := h
  refine ⟨?_, ?_, ?_, fun h => absurd h1 h, fun h => absurd h2 h, fun h => absurd h3 h, ?_⟩
  · rw [hc]; rcases hs with e | e | e <;> simp [e]
  · rcases hs with e | e | e <;> simp [e]
  · rw [hc]; simp
  · rw [hc]; simp

theorem Engine.AtRest.not_following {g : Engine} (h : g.AtRest) : g.state ≠ .following := by
  rcases h.state with e | e | e <;> simp [e]

theorem wide_of_context_none {g : Engine} (h : g.context = none) : g.wide = false := by simp [Engine.wide, h]

theorem atRest_resting (g : Engine) {st : EngineState} (h : st = .idle ∨ st = .offline ∨ st = .quarantined) :
    (g.resting st).AtRest := ⟨rfl, h, rfl, rfl, rfl⟩

theorem atRest_of_sound {g : Engine} (h : g.sound)
    (hst : g.state = .idle ∨ g.state = .offline ∨ g.state = .quarantined) :
    g.AtRest := by
  obtain ⟨hc, -, -, hset, hchk, hlim, -⟩ := h
  refine ⟨hc.2 (by rcases hst with e | e | e <;> simp [e]), hst, ?_, ?_, ?_⟩
  · by_contra hn; rcases hst with e | e | e <;> simpa [e] using hset hn
  · by_contra hn; rcases hst with e | e | e <;> simpa [e] using hchk hn
  · by_contra hn; rcases hst with e | e | e <;> simpa [e] using hlim hn

/-- An engine that awaits an answer is CONNECTING, CALIBRATING or DISCONNECTING. -/
theorem state_of_awaits {g : Engine} {op : MatrixOp} (h : g.awaits op) :
    g.state = .connecting ∨ g.state = .calibrating ∨ g.state = .disconnecting := by
  cases op with
  | connect => exact .inl h.1
  | disconnect => exact .inr (.inr h)
  | loopPort => exact .inr (.inl h.1)
  | resetAll => exact h.elim

/-- Two engines at rest, both quarantined or neither, have one account. -/
theorem sameAccount_of_atRest {g h : Engine} (hg : g.AtRest) (hh : h.AtRest)
    (hq : h.state = .quarantined ↔ g.state = .quarantined) :
    g.SameAccount h where
  place := by rw [hg.context, hh.context]
  inFlight := by
    have (k : Engine) (hk : k.AtRest) : k.state.inFlight = false := by
      rcases hk.state with e | e | e <;> simp [e, EngineState.inFlight]
    rw [this g hg, this h hh]
  following := iff_of_false hh.not_following hg.not_following
  quarantined := hq
  sound _ := hh.sound
  awaits op ha := by
    exfalso
    rcases hg.state with e | e | e <;> rcases state_of_awaits ha with e' | e' | e' <;> simp [e] at e'

/-! ## Requests -/

theorem requests_pump (s : State) : s.pump.requests = s.requests := by
  unfold State.pump State.requests
  split
  · rename_i h1 h2; simp [h1, h2]
  · rfl

theorem requests_issue (s : State) (r : Request) : (s.issue r).requests = s.requests ++ [r] := by
  rw [State.issue, requests_pump]
  simp [State.requests]

/-- No request of the engine waits for an answer. -/
def State.Unasked (s : State) (e : Nat) : Prop := ∀ r ∈ s.requests, r.engine? ≠ some e

theorem EnginesFit.unasked {s : State} (h : EnginesFit s) {e : Nat} (hno : ∀ op, ¬(s.engine e).awaits op) :
    s.Unasked e :=
  fun r hr he => hno _ (h.requests.2 r hr e he).2

theorem EnginesFit.unasked_of_state {s : State} (h : EnginesFit s) {e : Nat} (h₁ : (s.engine e).state ≠ .connecting)
    (h₂ : (s.engine e).state ≠ .calibrating) (h₃ : (s.engine e).state ≠ .disconnecting) : s.Unasked e :=
  h.unasked (fun op ha => by rcases state_of_awaits ha with e | e | e <;> contradiction)

/-- Requests that have waited still fit when they, or some of them, wait on and their engines wait on. -/
theorem RequestsAccounted.sublist {s t : State} (h : RequestsAccounted s) (hr : t.requests.Sublist s.requests)
    (ha : ∀ r ∈ t.requests, ∀ e op, r.engine? = some e → (s.engine e).awaits op → (t.engine e).awaits op) :
    RequestsAccounted t := by
  obtain ⟨hn, hw⟩ := h
  refine ⟨hn.sublist (hr.filterMap _), fun r hmem e he => ?_⟩
  obtain ⟨hlt, haw⟩ := hw r (hr.subset hmem) e he
  exact ⟨hlt, ha r hmem e _ he haw⟩

/-- An engine without a request asks. -/
theorem RequestsAccounted.ask {s t : State} (h : RequestsAccounted s) {r : Request} {e : Nat} (he : e < 16)
    (hreq : t.requests = s.requests ++ [r]) (hr : r.engine? = some e) (hun : s.Unasked e)
    (haw : (t.engine e).awaits r.op)
    (ha : ∀ d op, d ≠ e → (s.engine d).awaits op → (t.engine d).awaits op) : RequestsAccounted t := by
  obtain ⟨hn, hw⟩ := h
  unfold RequestsAccounted
  rw [hreq]
  constructor
  · rw [List.filterMap_append, List.nodup_append]
    refine ⟨hn, by simp [hr], fun a hmem b hb => ?_⟩
    obtain rfl : b = e := by simpa [hr] using hb
    obtain ⟨q, hq, hqa⟩ := List.mem_filterMap.1 hmem
    rintro rfl
    exact hun q hq hqa
  · intro q hq d hd
    rcases List.mem_append.1 hq with hq | hq
    · obtain ⟨hlt, haw'⟩ := hw q hq d hd
      exact ⟨hlt, ha d _ (fun hde => hun q hq (hde ▸ hd)) haw'⟩
    · obtain rfl : q = r := by simpa using hq
      obtain rfl : e = d := by simpa [hr] using hd
      exact ⟨he, haw⟩

/-! ## An engine asks for its DISCONNECT -/

theorem EnginesFit.disconnects {s t : State} (h : EnginesFit s) {e : Nat} {x : Context} {r : Request} (he : e < 16)
    (hx : (s.engine e).context = some x) (hun : s.Unasked e) (hst : (t.engine e).state = .disconnecting)
    (hp : (t.engine e).context.map Context.place = (s.engine e).context.map Context.place)
    (htimers : (t.engine e).settleUntil = none ∧ (t.engine e).checkFrom = none ∧ (t.engine e).limitUntil = none)
    (hother : ∀ d, d ≠ e → (s.engine d).SameAccount (t.engine d)) (ho : ∀ p, (t.point p).owner = (s.point p).owner)
    (hreq : t.requests = s.requests ++ [r]) (hr : r.engine? = some e) (hop : r.op = .disconnect) : EnginesFit t := by
  have hs := (h.engines e he).1
  obtain ⟨-, -, hq, hf⟩ := hs.context_some hx
  have hplace (d : Nat) : (t.engine d).context.map Context.place = (s.engine d).context.map Context.place := by
    by_cases hd : d = e
    · subst hd; exact hp
    · exact (hother d hd).place
  refine ⟨h.locks.same ho hplace (fun d hd => ?_), h.engines.same hplace (fun d => ?_) (fun d hlt => ?_),
    h.requests.ask he hreq hr hun (by rw [hop]; exact hst) (fun d op hd => (hother d hd).awaits op)⟩
  · exact (hother d (by rintro rfl; exact hq hd)).quarantined.2 hd
  · by_cases hd : d = e
    · subst hd; rw [hst]; simp [hf]
    · exact (hother d hd).following
  · by_cases hd : d = e
    · subst hd
      obtain ⟨y, hy, hxy⟩ := exists_of_place hp.symm hx
      obtain ⟨hk, -, hrate, -, -⟩ := (place_eq_iff y x).1 hxy
      obtain ⟨hset, hchk, hlim⟩ := htimers
      exact sound_of_disconnecting hy hst (fun hc => hrate.trans (hs.base_of_calibration hx (hk ▸ hc))) hset hchk hlim
    · exact (hother d hd).sound (h.engines d hlt).1

/-! ## An engine comes to rest, its follower with it -/

/-- The follower of a lead. -/
theorem EnginesFit.follower {s : State} (h : EnginesFit s) {e : Nat} (he : e < 16) (hw : (s.engine e).wide = true) :
    e + 1 < 16 ∧ (s.engine (e + 1)).state = .following := by
  obtain ⟨-, hlead, -⟩ := h.engines e he
  obtain ⟨heven, hfol⟩ := hlead hw
  exact ⟨by omega, hfol⟩

/-- A follower has no context. -/
theorem EnginesFit.follower_context {s : State} (h : EnginesFit s) {e : Nat} (he : e < 16)
    (hw : (s.engine e).wide = true) :
    (s.engine (e + 1)).context = none := by
  obtain ⟨hlt, hfol⟩ := h.follower he hw
  exact (h.engines (e + 1) hlt).1.context_none (by simp [hfol])

theorem EnginesFit.follower_owns_none {s : State} (h : EnginesFit s) {e : Nat} (he : e < 16)
    (hw : (s.engine e).wide = true)
    {p : Nat} (hp : p < 256) : (s.point p).owner ≠ some (e + 1) := by
  intro hpo
  obtain ⟨-, hquar | ⟨x, hx, -⟩⟩ := h.locks.1 p (e + 1) hp hpo
  · rw [(h.follower he hw).2] at hquar; cases hquar
  · rw [h.follower_context he hw] at hx; cases hx

/-- The engine comes to rest, its follower with it, and no other engine changes. -/
structure Rests (s t : State) (e : Nat) : Prop where
  lead : (s.engine e).state ≠ .following
  rest : (t.engine e).AtRest
  follower : (s.engine e).wide = true → (t.engine (e + 1)).AtRest
  other : ∀ d, d ≠ e → ((s.engine e).wide = true → d ≠ e + 1) → t.engine d = s.engine d

theorem Rests.cases {s t : State} {e : Nat} (k : Rests s t e) (d : Nat) : (t.engine d).AtRest ∨
    (d ≠ e ∧ ((s.engine e).wide = true → d ≠ e + 1) ∧ t.engine d = s.engine d) := by
  by_cases hd : d = e
  · subst hd; exact .inl k.rest
  · by_cases hw : (s.engine e).wide = true ∧ d = e + 1
    · obtain ⟨hw, rfl⟩ := hw
      exact .inl (k.follower hw)
    · have hne : (s.engine e).wide = true → d ≠ e + 1 := fun a b => hw ⟨a, b⟩
      exact .inr ⟨hd, hne, k.other d hd hne⟩

/-- The engine keeps a point only when it is quarantined; the points of the others stay locked. -/
theorem LocksAccounted.rests {s t : State} (h : EnginesFit s) {e : Nat} (he : e < 16) (k : Rests s t e)
    (hsub : ∀ p d, p < 256 → (t.point p).owner = some d → (s.point p).owner = some d)
    (hown : ∀ p, p < 256 → (t.point p).owner = some e → (t.engine e).state = .quarantined)
    (hkeep : ∀ p d, p < 256 → d ≠ e → (s.point p).owner = some d → (t.point p).owner = some d) : LocksAccounted t := by
  refine ⟨fun p d hp hpd => ?_, fun d y hd hy hk => ?_⟩
  · have hpd' := hsub p d hp hpd
    obtain ⟨hlt, hwork⟩ := h.locks.1 p d hp hpd'
    refine ⟨hlt, ?_⟩
    by_cases hde : d = e
    · subst hde; exact .inl (hown p hp hpd)
    · have hne : (s.engine e).wide = true → d ≠ e + 1 := by
        rintro hw rfl
        exact h.follower_owns_none he hw hp hpd'
      rw [k.other d hde hne]; exact hwork
  · rcases k.cases d with hr | ⟨hde, -, hsame⟩
    · rw [hr.context] at hy; cases hy
    · rw [hsame] at hy
      obtain ⟨p, hp, hap, hpo⟩ := h.locks.2 d y hd hy hk
      exact ⟨p, hp, hap, hkeep p d hp hde hpo⟩

/-- No other lead has lost its follower, and no other follower its lead. -/
theorem EnginesAccounted.rests {s t : State} (h : EnginesFit s) {e : Nat} (he : e < 16) (k : Rests s t e) :
    EnginesAccounted t := by
  refine fun d hd => ⟨?_, fun hwd => ?_, fun hfd => ?_⟩
  · rcases k.cases d with hr | ⟨-, -, hsame⟩
    · exact hr.sound
    · rw [hsame]; exact (h.engines d hd).1
  · rcases k.cases d with hr | ⟨hde, -, hsame⟩
    · rw [wide_of_context_none hr.context] at hwd; cases hwd
    · rw [hsame] at hwd
      obtain ⟨hev, hnext⟩ := (h.engines d hd).2.1 hwd
      have hne : d + 1 ≠ e := by rintro rfl; exact k.lead hnext
      rw [k.other (d + 1) hne (fun _ heq => hde (by omega))]
      exact ⟨hev, hnext⟩
  · rcases k.cases d with hr | ⟨-, hdf, hsame⟩
    · exact absurd hfd hr.not_following
    · rw [hsame] at hfd
      obtain ⟨hodd, hprev⟩ := (h.engines d hd).2.2 hfd
      have hne : d - 1 ≠ e := by rintro rfl; exact hdf hprev (by omega)
      have hnf : (s.engine e).wide = true → d - 1 ≠ e + 1 := by
        intro hw heq
        rw [heq, wide_of_context_none (h.follower_context he hw)] at hprev
        cases hprev
      rw [k.other (d - 1) hne hnf]
      exact ⟨hodd, hprev⟩

theorem EnginesFit.rests {s t : State} (h : EnginesFit s) {e : Nat} (he : e < 16) (hun : s.Unasked e) (k : Rests s t e)
    (hsub : ∀ p d, p < 256 → (t.point p).owner = some d → (s.point p).owner = some d)
    (hown : ∀ p, p < 256 → (t.point p).owner = some e → (t.engine e).state = .quarantined)
    (hkeep : ∀ p d, p < 256 → d ≠ e → (s.point p).owner = some d → (t.point p).owner = some d)
    (hreq : t.requests = s.requests) : EnginesFit t := by
  refine ⟨.rests h he k hsub hown hkeep, .rests h he k,
    h.requests.sublist (by rw [hreq]) (fun r hr d op hd haw => ?_)⟩
  rw [hreq] at hr
  have hde : d ≠ e := by rintro rfl; exact hun r hr hd
  have hdf : (s.engine e).wide = true → d ≠ e + 1 := by
    rintro hw rfl
    have hfol := (h.follower he hw).2
    rcases state_of_awaits haw with e' | e' | e' <;> rw [hfol] at e' <;> cases e'
  rw [k.other d hde hdf]; exact haw

end Sys2Proof.Machine
end


section
/-! SUPPORT. Launches (R25, R47, R109): what they do to the engines, the locks and the requests. -/

namespace Sys2Proof.Machine

/-! ## What a launch writes -/

theorem engine_seat_self (s : State) (e : Nat) (st : EngineState) (x : Context) (he : e < 16) :
    (s.seat e st x).engine e = (s.engine e).launched st (some x) (Config.delayWord e s.launches) := by
  unfold State.seat
  dsimp only
  split
  · exact (engine_setEngine_ne _ _ _ _ (by omega)).trans (engine_setEngine_self s e _ he)
  · exact engine_setEngine_self s e _ he

theorem engine_seat_follower (s : State) (e : Nat) (st : EngineState) (x : Context) (hw : x.rate = .wide)
    (he : e + 1 < 16) :
    (s.seat e st x).engine (e + 1) = (s.engine (e + 1)).launched .following none 0 := by
  simp only [State.seat, hw, if_true]
  refine (engine_setEngine_self _ (e + 1) _ he).trans ?_
  rw [engine_setEngine_ne _ _ _ _ (by omega)]

theorem engine_seat_other (s : State) (e d : Nat) (st : EngineState) (x : Context) (hd : d ≠ e)
    (hw : x.rate = .wide → d ≠ e + 1) : (s.seat e st x).engine d = s.engine d := by
  unfold State.seat
  dsimp only
  split
  · exact (engine_setEngine_ne _ _ _ _ (Ne.symm (hw ‹_›))).trans (engine_setEngine_ne s _ _ _ (Ne.symm hd))
  · exact engine_setEngine_ne s _ _ _ (Ne.symm hd)

@[simp] theorem seat_frame (s : State) (e : Nat) (st : EngineState) (x : Context) :
    (s.seat e st x).circuits = s.circuits ∧ (s.seat e st x).classes = s.classes ∧ (s.seat e st x).spot = s.spot ∧
    (s.seat e st x).openLoops = s.openLoops ∧ (s.seat e st x).nodes = s.nodes ∧ (s.seat e st x).points = s.points ∧
    (s.seat e st x).amc = s.amc := by
  unfold State.seat
  dsimp only
  split <;> simp

/-- An engine that a probe or calibration has just taken. -/
structure Engine.Seated (g : Engine) (st : EngineState) (x : Context) : Prop where
  state : g.state = st
  context : g.context = some x
  settle : g.settleUntil = none
  check : g.checkFrom = none
  limit : g.limitUntil = none
  search : g.lane.wordDet.search = none

/-- The odd engine of a pair, just launched. -/
structure Engine.Follows (g : Engine) : Prop where
  state : g.state = .following
  context : g.context = none
  settle : g.settleUntil = none
  check : g.checkFrom = none
  limit : g.limitUntil = none

theorem seated_launched (g : Engine) (st : EngineState) (x : Context) (w : BitVec 64) :
    (g.launched st (some x) w).Seated st x :=
  ⟨rfl, rfl, rfl, rfl, rfl, rfl⟩

theorem follows_launched (g : Engine) (w : BitVec 64) :
    (g.launched .following none w).Follows := ⟨rfl, rfl, rfl, rfl, rfl⟩

theorem Engine.Follows.sound {g : Engine} (h : g.Follows) : g.sound := by
  obtain ⟨hs, hc, h1, h2, h3⟩ := h
  refine ⟨by simp [hs, hc], by simp [hs], by simp [hc], fun h => absurd h1 h, fun h => absurd h2 h, fun h => absurd h3 h, ?_⟩
  simp [hs, EngineState.inFlight]

theorem Engine.Follows.flight {g : Engine} (h : g.Follows) : g.flight = none := by
  simp [Engine.flight, h.state, EngineState.inFlight]

/-- A probe of a circuit begins in CONNECTING, a calibration in CALIBRATING. -/
structure Launchable (st : EngineState) (x : Context) : Prop where
  probe : st = .connecting ∧ x.Flies ∨ st = .calibrating ∧ x.kind = .calibration ∧ x.rate = .base

theorem Engine.Seated.sound {g : Engine} {st : EngineState} {x : Context} (h : g.Seated st x) (hx : Launchable st x) :
    g.sound := by
  obtain ⟨hs, hc, h1, h2, h3, -⟩ := h
  rcases hx.probe with ⟨rfl, hfl⟩ | ⟨rfl, hk, hr⟩
  · exact sound_of_flies hc (by rw [hs]; rfl) hfl (fun h => absurd h1 h) (fun h => absurd h2 h) h3
  · refine ⟨by simp [hs, hc], fun _ => by simp [Engine.kind?, hc, hk], fun y hy _ => ?_, fun h => absurd h1 h,
      fun h => absurd h2 h, fun h => absurd h3 h, ?_⟩
    · obtain rfl : x = y := by simpa [hc] using hy
      exact hr
    · simp [hs, EngineState.inFlight]

/-! ## The launch as a whole -/

/-- From `s` to `t` the IDLE engine `e` has taken the context `x`, its odd neighbour following in a pair. -/
structure Launches (s t : State) (e : Nat) (st : EngineState) (x : Context) : Prop where
  lt : e < 16
  idle : (s.engine e).state = .idle
  pair : x.rate = .wide → e % 2 = 0 ∧ (s.engine (e + 1)).state = .idle
  launchable : Launchable st x
  seated : (t.engine e).Seated st x
  follows : x.rate = .wide → (t.engine (e + 1)).Follows
  other : ∀ d, d ≠ e → (x.rate = .wide → d ≠ e + 1) → t.engine d = s.engine d

theorem Launches.cases {s t : State} {e : Nat} {st : EngineState} {x : Context} (k : Launches s t e st x) (d : Nat) :
    d = e ∨ (x.rate = .wide ∧ d = e + 1) ∨ (d ≠ e ∧ (x.rate = .wide → d ≠ e + 1) ∧ t.engine d = s.engine d) := by
  by_cases hd : d = e
  · exact .inl hd
  · by_cases hw : x.rate = .wide ∧ d = e + 1
    · exact .inr (.inl hw)
    · have hw' : x.rate = .wide → d ≠ e + 1 := fun a b => hw ⟨a, b⟩
      exact .inr (.inr ⟨hd, hw', k.other d hd hw'⟩)

theorem Launches.wide_iff {s t : State} {e : Nat} {st : EngineState} {x : Context} (k : Launches s t e st x) :
    (t.engine e).wide = true ↔ x.rate = .wide := by
  simp [Engine.wide, k.seated.context]

theorem EnginesFit.atRest_of_idle {s : State} (h : EnginesFit s) {e : Nat} (he : e < 16)
    (hi : (s.engine e).state = .idle) :
    (s.engine e).AtRest := atRest_of_sound (h.engines e he).1 (.inl hi)

/-- An IDLE engine owns no point. -/
theorem EnginesFit.idle_owns_none {s : State} (h : EnginesFit s) {e : Nat} (hi : (s.engine e).state = .idle) {p : Nat}
    (hp : p < 256) : (s.point p).owner ≠ some e := by
  intro hpo
  obtain ⟨he, hq | ⟨x, hx, -⟩⟩ := h.locks.1 p e hp hpo
  · rw [hi] at hq; cases hq
  · rw [(h.atRest_of_idle he hi).context] at hx; cases hx

theorem EnginesAccounted.launches {s t : State} {e : Nat} {st : EngineState} {x : Context} (h : EnginesFit s)
    (k : Launches s t e st x) : EnginesAccounted t := by
  have hrest := h.atRest_of_idle k.lt k.idle
  intro d hd
  rcases k.cases d with rfl | ⟨hw, rfl⟩ | ⟨hde, hdf, hsame⟩
  · refine ⟨k.seated.sound k.launchable, fun hw => ?_, fun hf => ?_⟩
    · have hr := k.wide_iff.1 hw
      exact ⟨(k.pair hr).1, (k.follows hr).state⟩
    · rw [k.seated.state] at hf
      rcases k.launchable.probe with ⟨rfl, -⟩ | ⟨rfl, -⟩ <;> cases hf
  · refine ⟨(k.follows hw).sound, fun hw' => ?_, fun _ => ?_⟩
    · rw [wide_of_context_none (k.follows hw).context] at hw'; cases hw'
    · have := (k.pair hw).1
      exact ⟨by omega, k.wide_iff.2 hw⟩
  · rw [hsame]
    obtain ⟨hs, hwide, hfol⟩ := h.engines d hd
    refine ⟨hs, fun hw => ?_, fun hf => ?_⟩
    · obtain ⟨hev, hnext⟩ := hwide hw
      have h1 : d + 1 ≠ e := by rintro rfl; rw [k.idle] at hnext; cases hnext
      rw [k.other (d + 1) h1 (fun _ heq => hde (by omega))]
      exact ⟨hev, hnext⟩
    · obtain ⟨hodd, hprev⟩ := hfol hf
      have h1 : d - 1 ≠ e := by
        intro heq
        rw [heq, wide_of_context_none hrest.context] at hprev; cases hprev
      have h2 : x.rate = .wide → d - 1 ≠ e + 1 := by
        intro hw heq
        rw [heq, wide_of_context_none (h.atRest_of_idle (by omega) (k.pair hw).2).context] at hprev
        cases hprev
      rw [k.other (d - 1) h1 h2]
      exact ⟨hodd, hprev⟩

theorem LocksAccounted.launches {s t : State} {e : Nat} {st : EngineState} {x : Context} (h : EnginesFit s)
    (k : Launches s t e st x) (hpt : x.kind ≠ .calibration → ∃ p, p < 256 ∧ x.accessPoint = some p)
    (ho : ∀ q d, q < 256 → ((t.point q).owner = some d ↔
      (s.point q).owner = some d ∨ d = e ∧ x.kind ≠ .calibration ∧ x.accessPoint = some q)) : LocksAccounted t := by
  refine ⟨fun q d hq hqd => ?_, fun d y hd hy hk => ?_⟩
  · rcases (ho q d hq).1 hqd with hold | ⟨rfl, hk, ha⟩
    · rcases k.cases d with rfl | ⟨hw, rfl⟩ | ⟨-, -, hsame⟩
      · exact absurd hold (h.idle_owns_none k.idle hq)
      · exact absurd hold (h.idle_owns_none (k.pair hw).2 hq)
      · rw [hsame]; exact h.locks.1 q d hq hold
    · exact ⟨k.lt, .inr ⟨x, k.seated.context, hk, ha⟩⟩
  · rcases k.cases d with rfl | ⟨hw, rfl⟩ | ⟨-, -, hsame⟩
    · obtain rfl : x = y := by simpa [k.seated.context] using hy
      obtain ⟨p, hp, ha⟩ := hpt hk
      exact ⟨p, hp, ha, (ho p d hp).2 (.inr ⟨rfl, hk, ha⟩)⟩
    · rw [(k.follows hw).context] at hy; cases hy
    · rw [hsame] at hy
      obtain ⟨p, hp, ha, hpo⟩ := h.locks.2 d y hd hy hk
      exact ⟨p, hp, ha, (ho p d hp).2 (.inl hpo)⟩

theorem awaits_of_idle {g : Engine} (h : g.state = .idle) (op : MatrixOp) : ¬g.awaits op := by
  intro ha
  rcases state_of_awaits ha with e | e | e <;> rw [h] at e <;> cases e

theorem EnginesFit.launches {s t : State} {e : Nat} {st : EngineState} {x : Context} {r : Request} (h : EnginesFit s)
    (k : Launches s t e st x) (hpt : x.kind ≠ .calibration → ∃ p, p < 256 ∧ x.accessPoint = some p)
    (ho : ∀ q d, q < 256 → ((t.point q).owner = some d ↔
      (s.point q).owner = some d ∨ d = e ∧ x.kind ≠ .calibration ∧ x.accessPoint = some q))
    (hreq : t.requests = s.requests ++ [r]) (hr : r.engine? = some e) (haw : (t.engine e).awaits r.op) :
    EnginesFit t where
  locks := .launches h k hpt ho
  engines := .launches h k
  requests := h.requests.ask k.lt hreq hr (h.unasked (awaits_of_idle k.idle)) haw (fun d op hd had => by
    rcases k.cases d with rfl | ⟨hw, rfl⟩ | ⟨-, -, hsame⟩
    · exact absurd rfl hd
    · exact absurd had (awaits_of_idle (k.pair hw).2 op)
    · rw [hsame]; exact had)

/-! ## The two kinds of launch -/

theorem launches_seat {s u t : State} {e : Nat} {st : EngineState} {x : Context} (he : e < 16)
    (hi : (s.engine e).state = .idle) (hp : x.rate = .wide → e % 2 = 0 ∧ (s.engine (e + 1)).state = .idle)
    (hl : Launchable st x) (hu : u.engines = s.engines) (ht : t.engines = (u.seat e st x).engines) :
    Launches s t e st x where
  lt := he
  idle := hi
  pair := hp
  launchable := hl
  seated := by rw [engine_congr ht, engine_seat_self u e st x he]; exact seated_launched _ _ _ _
  follows hw := by
    have := hp hw
    rw [engine_congr ht, engine_seat_follower u e st x hw (by omega)]; exact follows_launched _ _
  other d hd hw := by rw [engine_congr ht, engine_seat_other u e d st x hd hw, engine_congr hu]

/-- A probe is launched at a free point (R47, R109). -/
theorem EnginesFit.launchProbe {s : State} (h : EnginesFit s) {e p : Nat} {x : Context} (he : e < 16)
    (hi : (s.engine e).state = .idle) (hw : x.rate = .wide → e % 2 = 0 ∧ (s.engine (e + 1)).state = .idle)
    (hf : x.Flies)
    (hp : p < 256) (hfree : (s.point p).owner = none) (hap : x.accessPoint = some p) :
    EnginesFit (s.launchProbe e p x) ∧ Launches s (s.launchProbe e p x) e .connecting x := by
  have k : Launches s (s.launchProbe e p x) e .connecting x :=
    launches_seat (u := s.takeLock p e) he hi hw ⟨.inl ⟨rfl, hf⟩⟩ rfl (by simp [State.launchProbe])
  refine ⟨h.launches k (fun _ => ⟨p, hp, hap⟩) (fun q d hq => ?_)
    (r := ⟨.connect, some p, some (laneSet e (x.rate == .wide)), .engine e⟩) ?_ rfl ?_, k⟩
  · have hpts : (s.launchProbe e p x).points = (s.takeLock p e).points := by simp [State.launchProbe]
    rw [point_congr hpts q, State.takeLock, point_setPoint, hap]
    by_cases hpq : p = q
    · subst hpq; simp [hp, hfree, hf.kind, eq_comm]
    · simp [hpq]
  · rw [State.launchProbe, requests_issue]
    congr 1
    exact requests_congr (by simp [State.takeLock])
  · exact ⟨k.seated.state, k.seated.settle⟩

end Sys2Proof.Machine
end


section
/-! SUPPORT. The phases of a probe keep the accounts: its engine stays in flight with its circuit, point and node. -/

namespace Sys2Proof.Machine

/-! ## One engine -/

theorem flies_of_place {x y : Context} (hp : y.place = x.place) (hb : .blocked ∈ y.outcomes → .blocked ∈ x.outcomes)
    (hs : .stuckLoop ∈ y.outcomes → .stuckLoop ∈ x.outcomes) (h : x.Flies) : y.Flies := by
  obtain ⟨hk, hc, -, -, hn⟩ := (place_eq_iff y x).1 hp
  exact ⟨hk ▸ h.kind, hc ▸ h.circuit, hn ▸ h.farNode, h.blocked ∘ hb, h.stuck ∘ hs⟩

/-- A change of the context that moves no place and ends no probe. -/
def ContextKept (f : Context → Context) : Prop := ∀ x, (f x).place = x.place ∧ (x.Flies → (f x).Flies)

theorem contextKept_of_eq {f : Context → Context} (hp : ∀ x, (f x).place = x.place)
    (ho : ∀ x, (f x).outcomes = x.outcomes) :
    ContextKept f := fun x => ⟨hp x, flies_of_place (hp x) (by rw [ho]; exact id) (by rw [ho]; exact id)⟩

theorem contextKept_outcome (o : ProbeOutcome) (hb : o ≠ .blocked) (hs : o ≠ .stuckLoop) :
    ContextKept (fun x => { x with outcomes := x.outcomes ++ [o] }) := fun x =>
  ⟨rfl, flies_of_place (x := x) rfl (by simp [Ne.symm hb]) (by simp [Ne.symm hs])⟩

theorem map_place_of_kept {f : Context → Context} (hf : ContextKept f) (o : Option Context) :
    (o.map f).map Context.place = o.map Context.place := by
  cases o with
  | none => rfl
  | some x => simp [(hf x).1]

theorem sound_modContext {g : Engine} {f : Context → Context} (hf : ContextKept f) (h : g.sound) :
    (g.modContext f).sound := by
  have hpl : (g.modContext f).context.map Context.place = g.context.map Context.place := map_place_of_kept hf _
  have hsome (y : Context) (hy : (g.modContext f).context = some y) : ∃ x, g.context = some x ∧ f x = y := by
    simpa [Engine.modContext] using hy
  have hflies := h.flies
  obtain ⟨hc, hcal, hrate, hset, hchk, hlim, -⟩ := h
  refine ⟨?_, fun hst => ?_, fun y hy hk => ?_, hset, hchk, hlim, fun hfl y hy => ?_⟩
  · rw [← show g.state = (g.modContext f).state from rfl, ← hc]; simp [Engine.modContext]
  · rw [← hcal hst]; exact map_of_place (fun p => p.1) hpl
  · obtain ⟨x, hx, rfl⟩ := hsome y hy
    obtain ⟨hk', -, hr, -, -⟩ := (place_eq_iff _ _).1 (hf x).1
    exact hr.trans (hrate x hx (hk' ▸ hk))
  · obtain ⟨x, hx, rfl⟩ := hsome y hy
    obtain ⟨x', hx', hfx⟩ := hflies hfl
    obtain rfl : x = x' := by simpa [hx] using hx'
    have k := (hf x).2 hfx
    exact ⟨k.kind, k.circuit, k.farNode, k.blocked, k.stuck⟩

theorem sameAccount_modContext (g : Engine) {f : Context → Context} (hf : ContextKept f) :
    g.SameAccount (g.modContext f) where
  place := map_place_of_kept hf _
  inFlight := rfl
  following := Iff.rfl
  quarantined := Iff.rfl
  sound := sound_modContext hf
  awaits op h := by cases op <;> exact h

/-- The lane, the record, the offset and the marks of an engine are in no account, but for the search of a delay word. -/
theorem sameAccount_of_eq {g h : Engine} (hst : h.state = g.state) (hc : h.context = g.context)
    (hset : h.settleUntil = g.settleUntil) (hchk : h.checkFrom = g.checkFrom) (hlim : h.limitUntil = g.limitUntil)
    (hsearch : g.awaits .loopPort → h.lane.wordDet.search = none) : g.SameAccount h where
  place := by rw [hc]
  inFlight := by rw [hst]
  following := by rw [hst]
  quarantined := by rw [hst]
  sound k := by
    unfold Engine.sound Engine.kind? at k ⊢
    rw [hst, hc, hset, hchk, hlim]; exact k
  awaits op k := by
    cases op with
    | connect => exact ⟨hst.trans k.1, hset.trans k.2⟩
    | loopPort =>
      have := hsearch k
      obtain ⟨h1, h2, h3, -⟩ := k
      exact ⟨hst.trans h1, hset.trans h2, hlim.trans h3, this⟩
    | disconnect => exact hst.trans k
    | resetAll => exact k

/-- An update of the lane that begins no search. -/
def SearchKept (F : Lane → Lane) : Prop := ∀ l, l.wordDet.search = none → (F l).wordDet.search = none

theorem sameAccount_lane (g : Engine) {F : Lane → Lane} (hF : SearchKept F) :
    g.SameAccount { g with lane := F g.lane } :=
  sameAccount_of_eq rfl rfl rfl rfl rfl (fun k => hF _ (search_of_awaits k))

theorem sameAccount_onLanes_other (s : State) (e d : Nat) {f : Engine → Engine} {F : Lane → Lane}
    (hf : ∀ g, f g = { g with lane := F g.lane }) (hF : SearchKept F) (hd : d ≠ e) :
    (s.engine d).SameAccount ((s.onLanes e f).engine d) := by
  rcases onLanes_other s e d f hd with h | ⟨-, -, h⟩
  · rw [h]; exact .refl _
  · rw [h, hf]; exact sameAccount_lane _ hF

theorem sameAccounts_onLanes (s : State) (e : Nat) {f : Engine → Engine} {F : Lane → Lane}
    (hf : ∀ g, f g = { g with lane := F g.lane }) (hF : SearchKept F) : s.SameAccounts (s.onLanes e f) := by
  have hmod (u : State) (d : Nat) : u.SameAccounts (u.modEngine d f) :=
    sameAccounts_modEngine u d f (fun _ => by rw [hf]; exact sameAccount_lane _ hF)
  unfold State.onLanes
  split
  · exact (hmod s e).trans (hmod _ _)
  · exact hmod s e

theorem sameAccounts_modContext (s : State) (e : Nat) {f : Context → Context} (hf : ContextKept f) :
    s.SameAccounts (s.modEngine e (fun g => g.modContext f)) :=
  sameAccounts_modEngine s e _ (fun _ => sameAccount_modContext _ hf)

theorem sameAccounts_writeOutcome (s : State) (e : Nat) (o : ProbeOutcome) (hb : o ≠ .blocked) (hs : o ≠ .stuckLoop) :
    s.SameAccounts (s.writeOutcome e o) := sameAccounts_modContext s e (contextKept_outcome o hb hs)

theorem sameAccounts_markAborted (s : State) (e : Nat) : s.SameAccounts (s.markAborted e) :=
  sameAccounts_modContext s e (contextKept_of_eq (fun _ => rfl) (fun _ => rfl))

/-! ## From phase to phase -/

/-- The engine has a probe in flight and no request. -/
structure Engine.Roams (g : Engine) : Prop where
  inFlight : g.state.inFlight = true
  idle : ∀ op, ¬g.awaits op

theorem roams_of_state {g : Engine}
    (h : g.state = .loopUp ∨ g.state = .retryWait ∨ g.state = .soak ∨ g.state = .loopDown ∨
    g.state = .courtesyRelease) : g.Roams := by
  refine ⟨by rcases h with e | e | e | e | e <;> simp [e, EngineState.inFlight], fun op ha => ?_⟩
  rcases state_of_awaits ha with k | k | k <;> simp [k] at h

theorem roams_of_settled {g : Engine} (h : g.state = .connecting) (hset : g.settleUntil ≠ none) : g.Roams := by
  refine ⟨by simp [h, EngineState.inFlight], fun op ha => ?_⟩
  cases op with
  | connect => exact hset ha.2
  | loopPort => exact absurd ha.1 (by simp [h])
  | disconnect => exact absurd (show g.state = .disconnecting from ha) (by simp [h])
  | resetAll => exact ha

/-- A probe in flight enters another phase of its flight. -/
theorem sameAccount_enter {g : Engine} (hg : g.Roams) {st : EngineState} (hst : st.inFlight = true) (l : Lane) :
    g.SameAccount { g.enter st with lane := l } where
  place := map_place_of_kept (f := fun x => { x with phaseTimer := 0 }) (contextKept_of_eq (fun _ => rfl) (fun _ => rfl)) _
  inFlight := hst.trans hg.inFlight.symm
  following := by
    have h1 := hg.inFlight
    constructor
    · rintro (rfl : st = _); cases hst
    · intro h; rw [h] at h1; cases h1
  quarantined := by
    have h1 := hg.inFlight
    constructor
    · rintro (rfl : st = _); cases hst
    · intro h; rw [h] at h1; cases h1
  sound h := by
    obtain ⟨x, hx, hfl⟩ := h.flies hg.inFlight
    exact sound_of_flies (x := { x with phaseTimer := 0 }) (by simp [Engine.enter, Engine.modContext, hx]) hst
      (flies_of_place (x := x) rfl id id hfl) (fun h => absurd rfl h) (fun h => absurd rfl h) rfl
  awaits op h := absurd h (hg.idle op)

theorem searchKept_enter {f : Lane → Lane} (hf : ∀ l, (f l).wordDet = l.wordDet) :
    SearchKept (fun l => f l.disarmed) := by
  intro l _; simp only [hf]; rfl

theorem sameAccounts_enterPhase (s : State) {e : Nat} (hg : (s.engine e).Roams) {st : EngineState}
    (hst : st.inFlight = true)
    {f : Lane → Lane} (hf : ∀ l, (f l).wordDet = l.wordDet) : s.SameAccounts (s.enterPhase e st f) :=
  (sameAccounts_modEngine s e _ (fun _ => sameAccount_enter hg hst _)).trans
    (sameAccounts_onLanes _ e (fun _ => rfl) (searchKept_enter hf))

theorem sameAccounts_startLoopUp (s : State) {e : Nat} (hg : (s.engine e).Roams) :
    s.SameAccounts (s.startLoopUp e) := by
  unfold State.startLoopUp
  dsimp only
  refine (sameAccounts_enterPhase s hg (st := .loopUp) (f := fun l => l.turnToCode.armAis s.laneTime) rfl
    (fun _ => rfl)).trans (sameAccounts_modEngine _ e _ (fun _ => ?_))
  refine (sameAccount_modContext _ (f := fun x => { x with loopAttempts := x.loopAttempts + 1 })
    (contextKept_of_eq (fun _ => rfl) (fun _ => rfl))).trans
    (sameAccount_of_eq rfl rfl rfl rfl rfl (fun k => ?_))
  obtain ⟨-, -, -, hk⟩ := k
  dsimp only
  split
  · exact hk
  · exact hk

theorem sameAccounts_startRetryWait (s : State) {e : Nat} (hg : (s.engine e).Roams) :
    s.SameAccounts (s.startRetryWait e) :=
  sameAccounts_enterPhase s hg rfl (fun _ => rfl)

theorem sameAccounts_startSoak (s : State) {e : Nat} (hg : (s.engine e).Roams) : s.SameAccounts (s.startSoak e) := by
  unfold State.startSoak
  dsimp only
  refine (sameAccounts_enterPhase s hg (st := .soak)
    (f := fun l => ((l.turnToTest.armChecker .soak).armAis s.laneTime).armMeter) rfl
    (fun _ => rfl)).trans (sameAccounts_modEngine _ e _ (fun _ => ?_))
  exact (sameAccount_modContext _ (f := fun x => { x with measured := true })
    (contextKept_of_eq (fun _ => rfl) (fun _ => rfl))).trans
    (sameAccount_of_eq rfl rfl rfl rfl rfl search_of_awaits)

theorem sameAccounts_startRelease (s : State) {e : Nat} (hg : (s.engine e).Roams) : s.SameAccounts (s.startRelease e) :=
  (sameAccounts_enterPhase s hg (st := .loopDown) (f := Lane.turnToCode) rfl (fun _ => rfl)).trans
    (sameAccounts_modContext _ e (f := fun x => { x with releaseAttempts := x.releaseAttempts + 1 })
      (contextKept_of_eq (fun _ => rfl) (fun _ => rfl)))

theorem sameAccounts_startCourtesy (s : State) {e : Nat} (hg : (s.engine e).Roams) :
    s.SameAccounts (s.startCourtesy e) :=
  sameAccounts_enterPhase s hg rfl (fun _ => rfl)

/-! ## Timers -/

/-- The check of a release attempt begins, in LOOP_DOWN. -/
theorem sameAccounts_startCheck (s : State) {e : Nat} (hst : (s.engine e).state = .loopDown) :
    s.SameAccounts (s.startCheck e) := by
  refine (sameAccounts_modEngine s e _ (fun _ => ?_)).trans
    (sameAccounts_onLanes _ e (F := fun l => l.turnToTest.armChecker .release) (fun _ => rfl) (fun _ h => h))
  refine ⟨rfl, rfl, Iff.rfl, Iff.rfl, fun h => ?_, fun op h => ?_⟩
  · obtain ⟨x, hx, hfl⟩ := h.flies (by rw [hst]; rfl)
    refine sound_of_flies hx (by rw [hst]; rfl) hfl ?_ (fun _ => hst) ?_
    · intro hn; rcases h.state_of_settle hn with e' | e' <;> rw [hst] at e' <;> cases e'
    · by_contra hn
      have := h.state_of_limit hn
      rw [hst] at this; cases this
  · cases op <;> exact h

end Sys2Proof.Machine
end


section
/-! SUPPORT. A probe takes off from a queue or a loop, and lands in a verdict: the circuit and node tables follow (R10, R64, R89,
R99, R148). -/

namespace Sys2Proof.Machine

/-! ## Taking off -/

theorem flight_of_seated {g : Engine} {x : Context} (h : g.Seated .connecting x) :
    g.flight = some (some x.kind, x.circuit, x.farNode) := by
  simp [Engine.flight, Engine.kind?, h.state, h.context, EngineState.inFlight]

/-- The launch of a probe brings one flight more. -/
theorem Launches.aloft {s t : State} {e : Nat} {x : Context} (h : EnginesFit s) (k : Launches s t e .connecting x)
    (P : Flight → Bool) : t.aloft P = s.aloft P + (P (some x.kind, x.circuit, x.farNode)).toNat := by
  have hold : (s.engine e).flight = none := (h.atRest_of_idle k.lt k.idle).flight
  have := aloft_change (s := s) (t := t) k.lt (fun d hd => by
    rcases k.cases d with rfl | ⟨hw, rfl⟩ | ⟨-, -, hsame⟩
    · exact absurd rfl hd
    · have := k.pair hw
      rw [(k.follows hw).flight, (h.atRest_of_idle (by have := k.lt; omega) this.2).flight]
    · rw [hsame]) P
  rw [hold, flight_of_seated k.seated] at this
  simpa using this

/-- The tables have let go of the circuit `c` for a flight to the node `n`: the place that held it is free, its status names the
flight, the node slot is claimed or passes from its open loop entry (R109). -/
structure Departs (s u : State) (c n : Nat) (kind : ContextKind) : Prop where
  record : ∀ d, d ≠ c → u.circuit d = s.circuit d
  fits : (u.circuit c).Fits
  status : (u.circuit c).status = if kind = .spot then .spot else .active
  queued : ∀ d, u.queuedCircuits.count d = if d = c then 0 else s.queuedCircuits.count d
  spot : ∀ d, u.spot.countP (fun y => y.probes d) = if d = c then 0 else s.spot.countP (fun y => y.probes d)
  loops : ∀ d, u.openLoops.countP (fun o => o.circuit == d) = if d = c then 0 else s.openLoops.countP (fun o => o.circuit == d)
  aground : ∀ st, s.aloft (Flight.holds c st) = 0
  occupancy : ∀ m, m < 64 →
    (u.node m).occupancy + s.openLoopsAt m = (s.node m).occupancy + u.openLoopsAt m + if n = m then 1 else 0
  room : s.aloft (fun _ => true) + u.openLoops.length < 64
  loopKept : ∀ o ∈ u.openLoops, o ∈ s.openLoops
  spotKept : ∀ y ∈ u.spot, y ∈ s.spot

theorem TablesFit.takeOff {s u t : State} (h : TablesFit s) (he : EnginesFit s) {e c n : Nat} {x : Context}
    (k : Launches s t e .connecting x) (hc : x.circuit = some c) (hn : x.farNode = some n) (D : Departs s u c n x.kind)
    (fc : t.circuits = u.circuits) (fk : t.classes = u.classes) (fs : t.spot = u.spot) (fl : t.openLoops = u.openLoops)
    (fn : t.nodes = u.nodes) : TablesFit t := by
  have ha := k.aloft he
  have hholds (d : Nat) (st : ProbeStatus) : t.aloft (Flight.holds d st) =
      s.aloft (Flight.holds d st) + if c = d ∧ (if x.kind = .spot then ProbeStatus.spot else .active) = st then 1 else 0 := by
    rw [ha, hc]
    simp [Flight.holds, Flight.status, Bool.toNat, Bool.cond_eq_ite]
  refine ⟨fun d => ?_, fun d => ?_, fun m hm => ?_, ?_, fun o ho => h.loopPoint o (D.loopKept o (fl ▸ ho)),
    fun d i hi => h.pins d i (D.spotKept _ (fs ▸ hi))⟩
  · rw [circuit_congr fc]
    by_cases hd : d = c
    · subst hd
      have hz := hholds d
      simp only [D.aground, true_and, zero_add] at hz
      have hne : (if x.kind = .spot then ProbeStatus.spot else .active) ≠ .queued ∧
          (if x.kind = .spot then ProbeStatus.spot else .active) ≠ .openLoop := by split <;> decide
      rw [D.status]
      exact ⟨by rw [queuedCircuits_congr fk, D.queued, if_pos rfl, if_neg hne.1],
        by rw [fs, D.spot, hz, if_pos rfl, zero_add], hz _, by rw [fl, D.loops, if_pos rfl, if_neg hne.2]⟩
    · rw [D.record d hd]
      refine (h.held d).congr (by rw [queuedCircuits_congr fk, D.queued, if_neg hd]) (by rw [fs, D.spot, if_neg hd])
        (fun st => ?_) (by rw [fl, D.loops, if_neg hd])
      rw [hholds]; simp [Ne.symm hd]
  · rw [circuit_congr fc]
    by_cases hd : d = c
    · subst hd; exact D.fits
    · rw [D.record d hd]; exact h.record d
  · have h1 := h.occupancy m hm
    have h2 := D.occupancy m hm
    have h3 : t.aloft (Flight.fliesTo m) = s.aloft (Flight.fliesTo m) + if n = m then 1 else 0 := by
      rw [ha, hn]
      simp [Flight.fliesTo, Bool.toNat, Bool.cond_eq_ite]
    have h4 : t.openLoopsAt m = u.openLoopsAt m := by rw [State.openLoopsAt, fl]; rfl
    rw [node_congr fn]
    omega
  · have h3 : t.aloft (fun _ => true) = s.aloft (fun _ => true) + 1 := by rw [ha]; rfl
    have := D.room
    rw [fl]
    omega

/-! ## Landing -/

/-- The circuit in flight: its status names the flight, and nothing else holds it. -/
theorem TablesFit.in_flight {s : State} (h : TablesFit s) {e c : Nat} {f : Flight} (he : e < 16)
    (hf : (s.engine e).flight = some f) (hc : f.2.1 = some c) :
    (s.circuit c).status = f.status ∧ s.queuedCircuits.count c = 0 ∧ s.spot.countP (fun y => y.probes c) = 0 ∧
      s.openLoops.countP (fun o => o.circuit == c) = 0 ∧
      ∀ st, s.aloft (Flight.holds c st) = if st = f.status then 1 else 0 := by
  have hpos : 0 < s.aloft (Flight.holds c f.status) := aloft_pos he hf (by simp [Flight.holds, hc])
  obtain ⟨hq, hs, ha, hl⟩ := h.held c
  have hother (st : ProbeStatus) (h1 : st ≠ .spot) (h2 : st ≠ .active) := aloft_holds_eq_zero s c st h1 h2
  have hfs : f.status = .spot ∨ f.status = .active := by unfold Flight.status; split <;> simp
  rcases hfs with e' | e' <;> rw [e'] at hpos ⊢
  · have hst : (s.circuit c).status = .spot := by by_contra hn; rw [if_neg hn] at hs; omega
    rw [hst] at hq hs ha hl
    simp only [if_true] at hs
    refine ⟨hst, by simpa using hq, by omega, by simpa using hl, fun st => ?_⟩
    cases st with
    | spot => simp; omega
    | active => simpa using ha
    | idle => simpa using hother .idle (by decide) (by decide)
    | queued => simpa using hother .queued (by decide) (by decide)
    | openLoop => simpa using hother .openLoop (by decide) (by decide)
  · have hst : (s.circuit c).status = .active := by by_contra hn; rw [if_neg hn] at ha; omega
    rw [hst] at hq hs ha hl
    simp only [reduceCtorEq, if_false, Nat.add_eq_zero_iff] at hs
    refine ⟨hst, by simpa using hq, hs.1, by simpa using hl, fun st => ?_⟩
    cases st with
    | spot => simpa using hs.2
    | active => simpa using ha
    | idle => simpa using hother .idle (by decide) (by decide)
    | queued => simpa using hother .queued (by decide) (by decide)
    | openLoop => simpa using hother .openLoop (by decide) (by decide)

/-- A flight of the circuit `c` to the node `n` is settled: the circuit is IDLE and the node slot returned, or it stands in the
open loop list and its slot has passed to the new entry (R64, R148). -/
structure Settles (s t : State) (c n : Nat) (loop : Option OpenLoop) : Prop where
  record : ∀ d, d ≠ c → t.circuit d = s.circuit d
  defState : (t.circuit c).defState = (s.circuit c).defState
  definition : (t.circuit c).definition = (s.circuit c).definition
  status : (t.circuit c).status = if loop.isSome then .openLoop else .idle
  queued : t.queuedCircuits = s.queuedCircuits
  spot : t.spot = s.spot
  loops : t.openLoops = s.openLoops ++ loop.toList
  entry : ∀ o, loop = some o → o.circuit = c ∧ o.farNode = n ∧ o.accessPoint < 256
  occupancy : ∀ m, m < 64 → (t.node m).occupancy = (s.node m).occupancy - if loop = none ∧ n = m then 1 else 0

/-- The tables are settled and the engine `e` is out of flight. -/
structure Lands (s t : State) (e c n : Nat) (loop : Option OpenLoop) : Prop extends Settles s t c n loop where
  others : ∀ d, d ≠ e → (t.engine d).flight = (s.engine d).flight
  landed : (t.engine e).flight = none

section
variable {s t : State} {e c n : Nat} {k : Option ContextKind} {loop : Option OpenLoop} (h : TablesFit s) (he : e < 16)
  (hf : (s.engine e).flight = some (k, some c, some n)) (L : Lands s t e c n loop)

include he hf L in
/-- One flight less. -/
theorem Lands.aloft (P : Flight → Bool) : t.aloft P + (P (k, some c, some n)).toNat = s.aloft P := by
  have := aloft_change (s := s) (t := t) he L.others P
  rw [hf, L.landed] at this
  simpa using this

include h he hf L in
/-- The circuit that landed stands in the open loop list, or nowhere. -/
theorem Lands.held_self : HeldAs t c (t.circuit c).status := by
  obtain ⟨-, hcq, hcs, hcl, hca⟩ := h.in_flight he hf rfl
  have hzero (st : ProbeStatus) : t.aloft (Flight.holds c st) = 0 := by
    have hless := L.aloft he hf (Flight.holds c st)
    have hone := hca st
    have hself : (Flight.holds c st (k, some c, some n)).toNat = if st = Flight.status (k, some c, some n) then 1 else 0 := by
      simp [Flight.holds, Bool.toNat, Bool.cond_eq_ite, @eq_comm _ st]
    omega
  have hloop : t.openLoops.countP (fun o => o.circuit == c) = if loop.isSome then 1 else 0 := by
    rw [L.loops, List.countP_append, hcl]
    cases hlo : loop with
    | none => rfl
    | some o => simp [(L.entry o hlo).1]
  rw [L.status]
  refine ⟨?_, ?_, ?_, ?_⟩
  · rw [L.queued, hcq]; split <;> simp
  · rw [L.spot, hcs, hzero]; split <;> simp
  · rw [hzero]; split <;> simp
  · rw [hloop]; cases loop <;> simp

include h he hf L in
theorem Lands.held_ne {d : Nat} (hd : d ≠ c) : HeldAs t d (t.circuit d).status := by
  rw [L.record d hd]
  refine (h.held d).congr (by rw [L.queued]) (by rw [L.spot]) (fun st => ?_) ?_
  · rw [← L.aloft he hf (Flight.holds d st)]
    simp [Flight.holds, Ne.symm hd]
  · rw [L.loops, List.countP_append]
    cases hlo : loop with
    | none => rfl
    | some o => simp [(L.entry o hlo).1, Ne.symm hd]

include h he hf L in
/-- The slot of the far node is free again, or stands for the open loop. -/
theorem Lands.occupied {m : Nat} (hm : m < 64) :
    (t.node m).occupancy = t.aloft (Flight.fliesTo m) + t.openLoopsAt m := by
  have hless := L.aloft he hf (Flight.fliesTo m)
  have hocc := h.occupancy m hm
  have hloops : t.openLoopsAt m = s.openLoopsAt m + if loop.isSome ∧ n = m then 1 else 0 := by
    unfold State.openLoopsAt
    rw [L.loops, List.countP_append]
    cases hlo : loop with
    | none => simp
    | some o => simp [(L.entry o hlo).2.1, List.countP_singleton]
  have hto : (Flight.fliesTo m (k, some c, some n)).toNat = if n = m then 1 else 0 := by
    simp [Flight.fliesTo, Bool.toNat, Bool.cond_eq_ite]
  rw [L.occupancy m hm]
  cases loop with
  | none =>
    simp only [Option.isSome_none, Bool.false_eq_true, false_and, if_false, true_and] at hloops ⊢
    omega
  | some o =>
    simp only [Option.isSome_some, true_and, reduceCtorEq, false_and, if_false] at hloops ⊢
    omega

include h he hf L in
theorem TablesFit.land : TablesFit t := by
  have hnv : (s.circuit c).defState ≠ .vacant := by
    intro hv
    have hst := (h.in_flight he hf rfl).1
    rw [(h.record c).vacant hv] at hst
    unfold Flight.status at hst
    split at hst <;> cases hst
  refine ⟨fun d => ?_, fun d => ?_, fun m => L.occupied h he hf, ?_, fun o ho => ?_, fun d i hi => h.pins d i (L.spot ▸ hi)⟩
  · by_cases hd : d = c
    · subst hd; exact L.held_self h he hf
    · exact L.held_ne h he hf hd
  · by_cases hd : d = c
    · subst hd
      obtain ⟨-, hcls, hp⟩ := h.record d
      exact ⟨fun hv => absurd (L.defState ▸ hv) hnv, L.definition ▸ hcls, L.definition ▸ hp⟩
    · rw [L.record d hd]; exact h.record d
  · have hless := L.aloft he hf (fun _ => true)
    have hroom := h.room
    have hlen : loop.toList.length ≤ 1 := by cases loop <;> simp
    rw [L.loops, List.length_append]
    simp only [Bool.toNat_true] at hless
    omega
  · rw [L.loops, List.mem_append] at ho
    rcases ho with ho | ho
    · exact h.loopPoint o ho
    · exact (L.entry o (by simpa using ho)).2.2

end

/-! ## The verdict and the status after it (R87, R89) -/

theorem worstFault_mem {l : List (Bool × Grade)} {g : Grade} (h : worstFault l = some g) : g ∈ l.map Prod.snd := by
  induction l with
  | nil => cases h
  | cons a l ih =>
    obtain ⟨b, k⟩ := a
    cases b with
    | true => obtain rfl : k = g := by simpa [worstFault] using h
              simp
    | false => simp only [worstFault] at h; simp [ih h]

theorem fault_grade {o : List ProbeOutcome} {a b c d : Bool} {g : Grade}
    (h : worstFault (rankedFaults o a b c d) = some g) :
    g ≠ .stuckLoop ∧ g ≠ .blocked := by
  have := worstFault_mem h
  simp only [rankedFaults, List.map_cons, List.map_nil, List.mem_cons, List.not_mem_nil, or_false] at this
  rcases this with rfl | rfl | rfl | rfl | rfl | rfl | rfl <;> decide

/-- Case 1 to 3 of R87 decide between BLOCKED, STUCK_LOOP and the rest. -/
theorem chooseGrade_cases (o : List ProbeOutcome) (fault : Option Grade) (ab : Bool) (f : VerdictFlags) (lim : Bool)
    (hf : ∀ g, fault = some g → g ≠ .stuckLoop ∧ g ≠ .blocked) :
    (.blocked ∈ o → chooseGrade o fault ab f lim = .blocked) ∧
    (.blocked ∉ o → .stuckLoop ∈ o → chooseGrade o fault ab f lim = .stuckLoop) ∧
    (.blocked ∉ o → .stuckLoop ∉ o → chooseGrade o fault ab f lim ≠ .blocked ∧ chooseGrade o fault ab f lim ≠ .stuckLoop) := by
  unfold chooseGrade
  refine ⟨fun h => by simp [h], fun h1 h2 => by simp [h1, h2], fun h1 h2 => ?_⟩
  rw [if_neg (by simpa using h1), if_neg (by simpa using h2)]
  split
  · decide
  · cases fault with
    | some g => exact ⟨(hf g rfl).2, (hf g rfl).1⟩
    | none => dsimp only; split_ifs <;> decide

theorem verdictOf_grade (x : Context) (e : Nat) (m : Measured) (q : GradeLimits) :
    (.blocked ∈ x.outcomes → (verdictOf x e m q).grade = .blocked) ∧
    (.blocked ∉ x.outcomes → .stuckLoop ∈ x.outcomes → (verdictOf x e m q).grade = .stuckLoop) ∧
    (.blocked ∉ x.outcomes → .stuckLoop ∉ x.outcomes →
      (verdictOf x e m q).grade ≠ .blocked ∧ (verdictOf x e m q).grade ≠ .stuckLoop) := by
  unfold verdictOf
  split
  · exact chooseGrade_cases _ _ _ _ _ (fun g hg => fault_grade hg)
  · exact chooseGrade_cases _ _ _ _ _ (fun g hg => fault_grade hg)

/-- What a grading writes in the circuit table. -/
theorem circuit_gradeProbe (s : State) (e : Nat) {x : Context} {c : Nat} (hx : (s.engine e).context = some x)
    (hc : x.circuit = some c) (d : Nat) :
    (s.gradeProbe e).circuit d =
      if c = d ∧ c < 2048 then (s.circuit c).graded (s.checkMode x) x.kind (s.verdictFor e x c) else s.circuit d := by
  rw [← circuit_setCircuit]
  unfold State.gradeProbe
  simp only [hx, hc]
  refine circuit_congr ?_ d
  split <;> simp

/-- The status after the grading follows from the outcomes that end a probe (R89). -/
theorem status_verdictFor (s : State) (e c : Nat) (x : Context) :
    statusAfter x.kind (s.verdictFor e x c).grade =
      if (.blocked ∈ x.outcomes ∧ x.kind = .releaseOnly) ∨ (.blocked ∉ x.outcomes ∧ .stuckLoop ∈ x.outcomes) then .openLoop
      else .idle := by
  obtain ⟨hb, hs, hn⟩ := verdictOf_grade x e (s.measuredOf e) (s.gradeLimits e x (s.circuit c))
  unfold statusAfter State.verdictFor
  by_cases h1 : .blocked ∈ x.outcomes
  · simp [hb h1, h1]
  · by_cases h2 : .stuckLoop ∈ x.outcomes
    · simp [hs h1 h2, h1, h2]
    · obtain ⟨k1, k2⟩ := hn h1 h2
      simp [h1, h2, k1, k2]

end Sys2Proof.Machine
end


section
/-! SUPPORT. An arbiter run keeps the accounts (R103 to R109). -/

namespace Sys2Proof.Machine

theorem Accounted.tables {s : State} (h : Accounted s) : TablesFit s := ((accounted_iff s).1 h).1

theorem Accounted.engines {s : State} (h : Accounted s) : EnginesFit s := ((accounted_iff s).1 h).2

theorem accounted_of {s : State} (ht : TablesFit s) (he : EnginesFit s) : Accounted s := (accounted_iff s).2 ⟨ht, he⟩

/-- A step on the tables alone. -/
theorem Accounted.of_tables {s t : State} (h : Accounted s) (ht : TablesFit t) (he : t.engines = s.engines)
    (hp : t.points = s.points) (hr : t.amc = s.amc) : Accounted t := accounted_of ht (h.engines.of_frame he hp hr)

/-! ## Choosing an engine (R108) -/

theorem chooseEngine_spec (s : State) (r : RateClass) (e : Nat) (h : s.chooseEngine r = some e) :
    e < 16 ∧ (s.engine e).state = .idle ∧ (r = .wide → e % 2 = 0 ∧ (s.engine (e + 1)).state = .idle) := by
  cases r with
  | base =>
    simp only [State.chooseEngine, State.chooseBase] at h
    split at h
    · rename_i e' he'
      obtain rfl : e' = e := by simpa using h
      have hmem := List.mem_range.1 (List.mem_of_find?_eq_some he')
      have hp := List.find?_some he'
      simp only [State.idleEngine, Bool.and_eq_true, beq_iff_eq] at hp
      exact ⟨hmem, hp.1, nofun⟩
    · have hmem := List.mem_range.1 (List.mem_of_find?_eq_some h)
      have hp := List.find?_some h
      exact ⟨hmem, by simpa [State.idleEngine] using hp, nofun⟩
  | wide =>
    simp only [State.chooseEngine, State.chooseWide, Option.map_eq_some_iff] at h
    obtain ⟨p, hp, rfl⟩ := h
    have hmem := List.mem_range.1 (List.mem_of_find?_eq_some hp)
    have hi := List.find?_some hp
    simp only [State.pairIdle, State.idleEngine, Bool.and_eq_true, beq_iff_eq] at hi
    exact ⟨by omega, hi.1, fun _ => ⟨by omega, hi.2⟩⟩

theorem pointFree_spec {s : State} {p : Nat} (h : s.pointFree p = true) : (s.point p).owner = none := by
  simp only [State.pointFree, Bool.and_eq_true, Option.isNone_iff_eq_none] at h
  exact h.2

theorem circuitEngine_spec {s : State} {c e : Nat} (h : s.circuitEngine c = some e) :
    (s.point (s.circuit c).definition.accessPoint).owner = none ∧ s.aloft (fun _ => true) + s.openLoops.length < 64 ∧
      s.chooseEngine (s.circuit c).definition.rate = some e := by
  unfold State.circuitEngine at h
  split at h
  · rename_i hm
    simp only [State.circuitMayLaunch, State.flightRoom, Bool.and_eq_true, decide_eq_true_eq, probesInFlight_eq] at hm
    obtain ⟨⟨⟨⟨-, hp⟩, -⟩, -⟩, hr⟩ := hm
    exact ⟨pointFree_spec hp, hr, h⟩
  · cases h

theorem openLoopOf_spec {s : State} {c : Nat} {o : OpenLoop} (h : s.openLoopOf c = some o) :
    o ∈ s.openLoops ∧ o.circuit = c :=
  ⟨List.mem_of_find?_eq_some h, by simpa using List.find?_some h⟩

theorem retryEngine_spec {s : State} {c e : Nat} {o : OpenLoop} (ho : s.openLoopOf c = some o)
    (h : s.retryEngine c = some e) :
    (s.point o.accessPoint).owner = none ∧ s.chooseEngine (s.circuit c).definition.rate = some e := by
  simp only [State.retryEngine, ho] at h
  split at h
  · rename_i hm
    simp only [Bool.and_eq_true] at hm
    exact ⟨pointFree_spec hm.1.2, h⟩
  · cases h

/-! ## Launches -/

@[simp] theorem launchProbe_frame (s : State) (e p : Nat) (x : Context) :
    (s.launchProbe e p x).circuits = s.circuits ∧ (s.launchProbe e p x).classes = s.classes ∧
    (s.launchProbe e p x).spot = s.spot ∧ (s.launchProbe e p x).openLoops = s.openLoops ∧
    (s.launchProbe e p x).nodes = s.nodes := by
  simp [State.launchProbe, State.takeLock]

theorem Launches.of_engines {s u t : State} {e : Nat} {st : EngineState} {x : Context} (k : Launches u t e st x)
    (h : u.engines = s.engines) : Launches s t e st x where
  lt := k.lt
  idle := engine_congr h e ▸ k.idle
  pair hw := engine_congr h (e + 1) ▸ k.pair hw
  launchable := k.launchable
  seated := k.seated
  follows := k.follows
  other d hd hw := engine_congr h d ▸ k.other d hd hw

theorem occupancy_claimSlot (s : State) (n m : Nat) (hm : m < 64) :
    ((s.claimSlot n).node m).occupancy = (s.node m).occupancy + if n = m then 1 else 0 := by
  rw [State.claimSlot, node_setNode]
  by_cases h : n = m
  · subst h; simp [hm]
  · simp [h]

theorem flies_circuitContext (s : State) (c : Nat) {kind : ContextKind} (hk : kind ≠ .calibration) (number : Nat)
    (slot : Option Nat) : (circuitContext s c kind number slot).Flies :=
  ⟨hk, nofun, nofun, by simp [circuitContext], by simp [circuitContext]⟩

theorem mem_queuedCircuits {s : State} {k c : Nat} (h : c ∈ (s.cls k).queue) : c ∈ s.queuedCircuits := by
  have hk : k < 4 := by
    by_contra hk
    simp [State.cls, hk] at h
  rw [queuedCircuits_eq]
  obtain rfl | rfl | rfl | rfl : k = 0 ∨ k = 1 ∨ k = 2 ∨ k = 3 := by omega
  all_goals simp [h]

theorem HeldAs.aloft_zero {s : State} {c : Nat} {st : ProbeStatus} (h : HeldAs s c st)
    (hst : st = .queued ∨ st = .openLoop)
    (a : ProbeStatus) : s.aloft (Flight.holds c a) = 0 := by
  have hs := h.spot
  have ha := h.active
  cases a with
  | spot => rcases hst with rfl | rfl <;> simp at hs <;> exact hs.2
  | active => rcases hst with rfl | rfl <;> simpa using ha
  | idle => exact aloft_holds_eq_zero s c .idle (by decide) (by decide)
  | queued => exact aloft_holds_eq_zero s c .queued (by decide) (by decide)
  | openLoop => exact aloft_holds_eq_zero s c .openLoop (by decide) (by decide)

/-- A probe whose circuit has left its place takes off at a free point. -/
theorem Accounted.launchProbe {s u : State} (h : Accounted s) {e c n p : Nat} {x : Context}
    (hch : s.chooseEngine x.rate = some e) (hx : x.Flies) (hc : x.circuit = some c) (hn : x.farNode = some n)
    (hap : x.accessPoint = some p) (hp : p < 256) (hfree : (s.point p).owner = none) (D : Departs s u c n x.kind)
    (he : u.engines = s.engines) (hpt : u.points = s.points) (ha : u.amc = s.amc) :
    Accounted (u.launchProbe e p x) := by
  obtain ⟨hlt, hidle, hpair⟩ := chooseEngine_spec s _ e hch
  obtain ⟨hfit, L⟩ := (h.engines.of_frame he hpt ha).launchProbe hlt (by rw [engine_congr he]; exact hidle)
    (fun hw => by rw [engine_congr he]; exact hpair hw) hx hp (by rw [point_congr hpt]; exact hfree) hap
  obtain ⟨fc, fk, fs, fl, fn⟩ := launchProbe_frame u e p x
  exact accounted_of (h.tables.takeOff h.engines (L.of_engines he) hc hn D fc fk fs fl fn) hfit

/-- The state in which the probe of a class entry is launched (R109). -/
def State.leaveClass (s : State) (k c : Nat) : State :=
  let t := (s.dequeue c).setStatus c .active
  let t := t.setCls k { t.cls k with credits := (t.cls k).credits - 1 }
  let t := t.modCampaign (fun m =>
    { m with inFlight := m.inFlight + 1, summary := { m.summary with launched := satAdd summaryMax m.summary.launched 1 } })
  (t.writeTurn k).claimSlot (s.circuit c).definition.farNode

theorem launchClass_eq (s : State) (k c e : Nat) : s.launchClass k c e =
    (s.leaveClass k c).launchProbe e (s.circuit c).definition.accessPoint
      (circuitContext s c .campaign s.campaign.number none) := rfl

@[simp] theorem writeTurn_frame (s : State) (k : Nat) :
    (s.writeTurn k).circuits = s.circuits ∧ (s.writeTurn k).classes = s.classes ∧ (s.writeTurn k).spot = s.spot ∧
    (s.writeTurn k).openLoops = s.openLoops ∧ (s.writeTurn k).nodes = s.nodes ∧ (s.writeTurn k).engines = s.engines ∧
    (s.writeTurn k).points = s.points ∧ (s.writeTurn k).amc = s.amc := by
  unfold State.writeTurn; split <;> simp

@[simp] theorem leaveClass_frame (s : State) (k c : Nat) :
    (s.leaveClass k c).circuits = ((s.dequeue c).setStatus c .active).circuits ∧
    (s.leaveClass k c).spot = s.spot ∧ (s.leaveClass k c).openLoops = s.openLoops ∧
    (s.leaveClass k c).engines = s.engines ∧ (s.leaveClass k c).points = s.points ∧ (s.leaveClass k c).amc = s.amc := by
  simp [State.leaveClass, State.claimSlot]

theorem queuedCircuits_leaveClass (s : State) (k c : Nat) :
    (s.leaveClass k c).queuedCircuits = (s.dequeue c).queuedCircuits := by
  let t := (s.dequeue c).setStatus c .active
  have hcls : (s.leaveClass k c).classes = (t.setCls k { t.cls k with credits := (t.cls k).credits - 1 }).classes := by
    simp only [State.leaveClass, State.claimSlot, setNode_classes, writeTurn_frame, modCampaign_classes]; rfl
  exact (queuedCircuits_congr hcls).trans (sameAccounts_setCls t k { t.cls k with credits := (t.cls k).credits - 1 } rfl).queued

theorem occupancy_leaveClass (s : State) (k c m : Nat) (hm : m < 64) : ((s.leaveClass k c).node m).occupancy =
    (s.node m).occupancy + if (s.circuit c).definition.farNode = m then 1 else 0 := by
  rw [State.leaveClass, occupancy_claimSlot _ _ _ hm, node_congr (s := s) (by simp)]

theorem departs_leaveClass {s : State} (h : TablesFit s) {k c : Nat} (hc : c ∈ s.queuedCircuits)
    (hroom : s.aloft (fun _ => true) + s.openLoops.length < 64) :
    Departs s (s.leaveClass k c) c (s.circuit c).definition.farNode .campaign := by
  have hst := h.status_of_queued hc
  have hclt : c < 2048 := lt_of_status (by rw [hst]; decide)
  have hheld := h.held c
  rw [hst] at hheld
  obtain ⟨fc, fs, fl, -, -, -⟩ := leaveClass_frame s k c
  have hrec (j : Nat) : (s.leaveClass k c).circuit j =
      if c = j ∧ c < 2048 then { s.circuit c with status := .active } else s.circuit j :=
    (circuit_congr fc j).trans (circuit_setStatus (s.dequeue c) c j .active)
  have hself := hrec c
  simp only [hclt, and_self, if_true] at hself
  refine ⟨fun j hj => by rw [hrec]; simp [Ne.symm hj], ?_, by rw [hself]; rfl, fun j => ?_, fun j => ?_, fun j => ?_,
    hheld.aloft_zero (.inl rfl), fun m hm => ?_, fl ▸ hroom, fun o ho => fl ▸ ho, fun y hy => fs ▸ hy⟩
  · rw [hself]
    obtain ⟨hv, hcls, hpt⟩ := h.record c
    exact ⟨fun hd => absurd ((hv hd).symm.trans hst) (by decide), hcls, hpt⟩
  · rw [queuedCircuits_leaveClass]
    split
    · subst j; exact count_dequeue_self s c
    · exact count_dequeue_ne s c j ‹_›
  · rw [fs]
    split
    · subst j
      have := hheld.spot
      simp only [reduceCtorEq, if_false] at this
      omega
    · rfl
  · rw [fl]
    split
    · subst j; simpa using hheld.loop
    · rfl
  · rw [occupancy_leaveClass s k c m hm, State.openLoopsAt, State.openLoopsAt, fl]
    omega

/-- Launch of a class entry (R109). -/
theorem Accounted.launchClass {s : State} (h : Accounted s) {k c e : Nat} (hc : c ∈ (s.cls k).queue)
    (he : s.circuitEngine c = some e) : Accounted (s.launchClass k c e) := by
  obtain ⟨hfree, hroom, hch⟩ := circuitEngine_spec he
  obtain ⟨-, -, -, fe, fp, fa⟩ := leaveClass_frame s k c
  rw [launchClass_eq]
  exact h.launchProbe hch (flies_circuitContext s c (by decide) _ _) rfl rfl rfl (h.tables.record c).point hfree
    (departs_leaveClass h.tables (mem_queuedCircuits hc) hroom) fe fp fa

/-- The tables as the launch of a spot probe entry leaves them. -/
def State.leaveProbe (s : State) (c : Nat) (slot : Option Nat) : State :=
  (s.leaveSpot (.probe c slot)).claimSlot (s.circuit c).definition.farNode

theorem departs_leaveProbe {s : State} (h : TablesFit s) {c : Nat} {slot : Option Nat}
    (hx : SpotEntry.probe c slot ∈ s.spot)
    (hroom : s.aloft (fun _ => true) + s.openLoops.length < 64) :
    Departs s (s.leaveProbe c slot) c (s.circuit c).definition.farNode .spot := by
  obtain ⟨hst, hone, hnone⟩ := h.waits_spot hx
  have hheld := h.held c
  rw [hst] at hheld
  refine ⟨fun _ _ => rfl, h.record c, hst, fun j => ?_, fun j => ?_, fun j => ?_, fun st => ?_, fun m hm => ?_, hroom,
      fun _ ho => ho, fun y hy => List.mem_of_mem_erase hy⟩
  · change s.queuedCircuits.count j = _
    split
    · subst j; simpa using hheld.queued
    · rfl
  · refine (countP_leaveSpot s _ j).trans ?_
    by_cases hj : j = c
    · subst hj; simp [hx, probes_self, hone]
    · have hno : (SpotEntry.probe c slot).probes j = false := by simpa [SpotEntry.probes] using Ne.symm hj
      simp [hno, hj]
  · change s.openLoops.countP _ = _
    split
    · subst j; simpa using hheld.loop
    · rfl
  · cases st with
    | spot => exact hnone
    | active => simpa using hheld.active
    | idle => exact aloft_holds_eq_zero s c .idle (by decide) (by decide)
    | queued => exact aloft_holds_eq_zero s c .queued (by decide) (by decide)
    | openLoop => exact aloft_holds_eq_zero s c .openLoop (by decide) (by decide)
  · rw [State.leaveProbe, occupancy_claimSlot _ _ _ hm]
    change (s.node m).occupancy + _ + s.openLoopsAt m = _ + s.openLoopsAt m + _
    omega

/-- Launch of a waiting spot probe (R109). -/
theorem Accounted.launchSpotProbe {s : State} (h : Accounted s) {c e : Nat} {slot : Option Nat}
    (hx : SpotEntry.probe c slot ∈ s.spot) (he : s.circuitEngine c = some e) :
    Accounted (s.launchSpot (.probe c slot) e) := by
  obtain ⟨hfree, hroom, hch⟩ := circuitEngine_spec he
  exact h.launchProbe (u := s.leaveProbe c slot) hch (flies_circuitContext s c (by decide) _ _) rfl rfl rfl
    (h.tables.record c).point hfree (departs_leaveProbe h.tables hx hroom) rfl rfl rfl

/-! ## Leaving the open loop list (R67, R153) -/

/-- An element that alone has a property is taken out. -/
theorem countP_filter_not {α : Type} (l : List α) (p q : α → Bool) {a : α} (ha : a ∈ l) (hq : q a = true)
    (h1 : l.countP q = 1) :
    l.countP p = (l.filter (fun b => !q b)).countP p + (p a).toNat := by
  obtain ⟨b, hb⟩ := List.length_eq_one_iff.1 (List.countP_eq_length_filter.symm.trans h1)
  obtain rfl : a = b := by
    have : a ∈ l.filter q := List.mem_filter.2 ⟨ha, hq⟩
    rwa [hb, List.mem_singleton] at this
  rw [List.countP_eq_countP_filter_add l p q, hb, List.countP_singleton]
  simp only [Bool.toNat, Bool.cond_eq_ite]
  omega

/-- The entry of a standing loop is the only one of its circuit. -/
theorem TablesFit.standing {s : State} (h : TablesFit s) {c : Nat} {o : OpenLoop} (ho : s.openLoopOf c = some o) :
    o ∈ s.openLoops ∧ o.circuit = c ∧ (s.circuit c).status = .openLoop ∧
      ∀ p : OpenLoop → Bool, s.openLoops.countP p = (s.openLoops.filter (fun q => q.circuit != c)).countP p + (p o).toNat := by
  obtain ⟨hmem, hoc⟩ := openLoopOf_spec ho
  have hl := (h.held c).loop
  have hpos : 0 < s.openLoops.countP (fun q => q.circuit == c) := List.countP_pos_iff.2 ⟨o, hmem, by simp [hoc]⟩
  split at hl
  · exact ⟨hmem, hoc, ‹_›, fun p => countP_filter_not _ p (fun q => q.circuit == c) hmem (by simp [hoc]) hl⟩
  · omega

theorem countP_loops_left (s : State) (c d : Nat) :
    (s.openLoops.filter (fun q => q.circuit != c)).countP (fun o => o.circuit == d) =
      if d = c then 0 else s.openLoops.countP (fun o => o.circuit == d) := by
  rw [List.countP_filter]
  split
  · subst d
    exact List.countP_eq_zero.2 (by simp)
  · rename_i hd
    exact List.countP_congr (fun o _ => by simp only [Bool.and_eq_true, beq_iff_eq, bne_iff_ne]; omega)

/-- The tables as the launch of a release-only entry leaves them (R67). -/
def State.leaveLoop (s : State) (c : Nat) : State :=
  let t := s.leaveSpot (.releaseOnly c)
  let t : State := { t with openLoops := t.openLoops.filter (fun q => q.circuit != c) }
  (t.setStatus c .active).startRun

theorem departs_leaveLoop {s : State} (h : TablesFit s) {c : Nat} {o : OpenLoop} (ho : s.openLoopOf c = some o) :
    Departs s (s.leaveLoop c) c o.farNode .releaseOnly := by
  obtain ⟨hmem, hoc, hst, hcount⟩ := h.standing ho
  have hclt : c < 2048 := lt_of_status (by rw [hst]; decide)
  have hheld := h.held c
  rw [hst] at hheld
  have hrec (j : Nat) : (s.leaveLoop c).circuit j =
      if c = j ∧ c < 2048 then { s.circuit c with status := .active } else s.circuit j := circuit_setStatus s c j .active
  have hself := hrec c
  simp only [hclt, and_self, if_true] at hself
  refine ⟨fun j hj => by rw [hrec]; simp [Ne.symm hj], ?_, by rw [hself]; rfl, fun j => ?_, fun j => ?_,
    fun j => countP_loops_left s c j, hheld.aloft_zero (.inr rfl), fun m _ => ?_, ?_,
    fun o ho => List.mem_of_mem_filter ho, fun y hy => List.mem_of_mem_erase hy⟩
  · rw [hself]
    obtain ⟨hv, hcls, hpt⟩ := h.record c
    exact ⟨fun hd => absurd ((hv hd).symm.trans hst) (by decide), hcls, hpt⟩
  · change s.queuedCircuits.count j = _
    split
    · subst j; simpa using hheld.queued
    · rfl
  · refine (countP_leaveSpot s _ j).trans ?_
    have hno : (SpotEntry.releaseOnly c).probes j = false := rfl
    simp only [hno, Bool.false_eq_true, and_false, if_false, Nat.sub_zero]
    split
    · subst j
      have := hheld.spot
      simp only [reduceCtorEq, if_false] at this
      omega
    · rfl
  · change (s.node m).occupancy + s.openLoopsAt m =
      (s.node m).occupancy + (s.openLoops.filter (fun q => q.circuit != c)).countP (fun q => q.farNode == m) + _
    have := hcount (fun q => q.farNode == m)
    rw [State.openLoopsAt, this]
    simp only [Bool.toNat, Bool.cond_eq_ite, beq_iff_eq]
    omega
  · have := hcount (fun _ => true)
    have hr := h.room
    simp only [List.countP_true, Bool.toNat_true] at this
    change _ + (s.openLoops.filter (fun q => q.circuit != c)).length < 64
    omega

/-- Launch of a release-only entry (R67, R109). -/
theorem Accounted.launchRetry {s : State} (h : Accounted s) {c e : Nat} (he : s.retryEngine c = some e) :
    Accounted (s.launchSpot (.releaseOnly c) e) := by
  cases ho : s.openLoopOf c with
  | none => simpa only [State.launchSpot, ho] using h
  | some o =>
    obtain ⟨hfree, hch⟩ := retryEngine_spec ho he
    obtain ⟨hmem, hoc, -, -⟩ := h.tables.standing ho
    have hx : (retryContext s o).Flies := ⟨by simp [retryContext, circuitContext], by simp [retryContext, circuitContext],
      by simp [retryContext], by simp [retryContext, circuitContext], by simp [retryContext, circuitContext]⟩
    have heq : s.launchSpot (.releaseOnly c) e = (s.leaveLoop c).launchProbe e o.accessPoint (retryContext s o) := by
      simp only [State.launchSpot, ho]; rfl
    rw [heq]
    exact h.launchProbe (u := s.leaveLoop c) (x := retryContext s o) (c := c) (n := o.farNode)
      (by rw [show (retryContext s o).rate = (s.circuit c).definition.rate by
        simp [retryContext, circuitContext, hoc]]; exact hch)
      hx (by simp [retryContext, circuitContext, hoc]) rfl rfl (h.tables.loopPoint o hmem) hfree
      (departs_leaveLoop h.tables ho) rfl rfl rfl

/-- Launch of a calibration entry (R39, R40). -/
theorem Accounted.launchCalibration {s : State} (h : Accounted s) {e' slot e : Nat}
    (hx : SpotEntry.calibration e' slot ∈ s.spot)
    (hi : s.idleEngine e' = true) : Accounted (s.launchSpot (.calibration e' slot) e) := by
  have he := h.tables.pins e' slot hx
  have hidle : (s.engine e').state = .idle := by simpa [State.idleEngine] using hi
  let x := calibrationContext s slot
  let u := s.leaveSpot (.calibration e' slot)
  let r : Request := ⟨.loopPort, none, some (laneSet e' false), .engine e'⟩
  change Accounted ((u.seat e' .calibrating x).issue r)
  have k : Launches s ((u.seat e' .calibrating x).issue r) e' .calibrating x :=
    launches_seat (u := u) he hidle (fun hw => by cases hw) ⟨.inr ⟨rfl, rfl, rfl⟩⟩ rfl (by simp)
  refine accounted_of ((h.tables.leaveSpot_other (.calibration e' slot) (fun _ => rfl)).congr (circuit_congr (by simp [u]))
    (queuedCircuits_congr (by simp [u])) (by simp [u]) (by simp [u])
    (fun n => by rw [node_congr (s := s) (by simp [u])]; rfl)
    (fun d => ?_)) (h.engines.launches k (fun hk => absurd rfl hk) (fun q d hq => ?_) ?_ (r := r) rfl
      ⟨k.seated.state, k.seated.settle, k.seated.limit, k.seated.search⟩)
  · rcases k.cases d with rfl | ⟨hw, -⟩ | ⟨-, -, hsame⟩
    · change _ = (s.engine d).flight
      rw [(h.engines.atRest_of_idle he hidle).flight]
      simp [Engine.flight, k.seated.state, EngineState.inFlight]
    · cases hw
    · rw [hsame]; rfl
  · rw [point_congr (s := s) (by simp [u])]
    simp [x, calibrationContext]
  · exact (requests_issue _ r).trans (congrArg (· ++ [r]) (requests_congr (by simp [u])))

/-! ## A run (R105) -/

theorem Accounted.removeSpot {s : State} (h : Accounted s) (st : Status) {x : SpotEntry} (hx : x ∈ s.spot) :
    Accounted (s.removeSpot st x) :=
  h.of_tables (h.tables.removeSpot st hx) (by simp) (by simp) (by simp)

theorem Accounted.withdraw {s : State} (h : Accounted s) (r : NotTested) {c : Nat} (hc : c ∈ s.queuedCircuits) :
    Accounted (s.withdraw r c) :=
  h.of_tables (h.tables.withdraw r hc) (by simp) (by simp) (by simp)

theorem Accounted.launchSpot {s : State} (h : Accounted s) {x : SpotEntry} {e : Nat} (hx : x ∈ s.spot)
    (he : s.spotEngine x = some e) : Accounted (s.launchSpot x e) := by
  cases x with
  | probe c slot => exact h.launchSpotProbe hx he
  | releaseOnly c => exact h.launchRetry he
  | calibration e' slot =>
    refine h.launchCalibration hx ?_
    simp only [State.spotEngine, State.calibrationEngine] at he
    split at he
    · rename_i hc; simp only [Bool.and_eq_true] at hc; exact hc.2
    · cases he

theorem Accounted.scanSpot (fuel pos : Nat) {s : State} (h : Accounted s) :
    Accounted (State.scanSpot fuel pos s).2 := by
  induction fuel generalizing pos s with
  | zero => exact h
  | succ fuel ih =>
    unfold State.scanSpot
    split
    · exact h
    · split
      · exact h
      · rename_i x hx
        have hmem := List.mem_of_getElem? hx
        split
        · exact ih pos (h.removeSpot .pointOut hmem)
        · split
          · exact h.launchSpot hmem ‹_›
          · exact ih (pos + 1) h

theorem Accounted.scanClass (k fuel pos : Nat) {s : State} (h : Accounted s) :
    Accounted (State.scanClass k fuel pos s).2 := by
  induction fuel generalizing pos s with
  | zero => exact h
  | succ fuel ih =>
    unfold State.scanClass
    split
    · exact h
    · split
      · exact h
      · rename_i c hc
        have hmem := List.mem_of_getElem? hc
        split
        · exact ih pos (h.withdraw .blocked (mem_queuedCircuits hmem))
        · split
          · exact h.launchClass hmem ‹_›
          · exact ih (pos + 1) h

theorem Accounted.classTurn {s : State} (h : Accounted s) (k : Nat) : Accounted (s.classTurn k).2 := by
  unfold State.classTurn
  split
  · exact h.scanClass k _ _
  · exact h

theorem Accounted.serveSpot (fuel : Nat) {s : State} (h : Accounted s) : Accounted (State.serveSpot fuel s) := by
  induction fuel generalizing s with
  | zero => exact h
  | succ fuel ih =>
    have hs := h.scanSpot (s.spot.length + 1) 0
    unfold State.serveSpot
    dsimp only
    split
    · exact ih hs
    · exact hs

theorem Accounted.serveAlone (k fuel : Nat) {s : State} (h : Accounted s) : Accounted (State.serveAlone k fuel s) := by
  induction fuel generalizing s with
  | zero => exact h
  | succ fuel ih =>
    unfold State.serveAlone
    dsimp only
    split
    · exact ih (h.classTurn k)
    · exact h.classTurn k

theorem Accounted.serveBank (fuel a b : Nat) {s : State} (h : Accounted s) :
    Accounted (State.serveBank fuel a b s) := by
  induction fuel generalizing a b s with
  | zero => exact h
  | succ fuel ih =>
    unfold State.serveBank
    dsimp only
    split
    · exact ih b a (h.classTurn a)
    · exact (h.classTurn a).serveAlone b fuel

theorem Accounted.runArbiter {s : State} (h : Accounted s) : Accounted s.runArbiter := by
  have h0 : Accounted { s with runDue := false } := h.same (.of_frame rfl rfl rfl rfl rfl rfl rfl rfl)
  have h1 := h0.serveSpot runFuel
  have h2 (t : State) (ht : Accounted t) : Accounted t.servePriority := by
    unfold State.servePriority
    split
    · exact ht.serveBank _ _ _
    · exact ht.serveBank _ _ _
  have h3 (t : State) (ht : Accounted t) : Accounted t.serveStandard := by
    unfold State.serveStandard
    split
    · exact ht.serveBank _ _ _
    · exact ht.serveBank _ _ _
  exact h3 _ (h2 _ h1)

end Sys2Proof.Machine
end


section
/-! SUPPORT. Engines that leave a probe or calibration, and engines that ask for their DISCONNECT, keep the accounts (R26, R28,
R64 to R66). -/

namespace Sys2Proof.Machine

/-! ## An engine without a request changes -/

/-- An engine that no request names may change all but its place, its flight and its role. -/
theorem Accounted.modUnasked {s : State} (h : Accounted s) {e : Nat} (hun : s.Unasked e) {f : Engine → Engine}
    (hp : (f (s.engine e)).context.map Context.place = (s.engine e).context.map Context.place)
    (hst : (f (s.engine e)).state = (s.engine e).state) (hs : (s.engine e).sound → (f (s.engine e)).sound) :
    Accounted (s.modEngine e f) := by
  by_cases hlt : e < 16
  case neg =>
    exact h.same (sameAccounts_modEngine s e f (fun he => absurd he hlt))
  have hself := modEngine_self s e f hlt
  have hplace (d : Nat) : ((s.modEngine e f).engine d).context.map Context.place = (s.engine d).context.map Context.place := by
    by_cases hd : d = e
    · subst hd; rw [hself, hp]
    · rw [modEngine_ne s e d f hd]
  have hstate (d : Nat) : ((s.modEngine e f).engine d).state = (s.engine d).state := by
    by_cases hd : d = e
    · subst hd; rw [hself, hst]
    · rw [modEngine_ne s e d f hd]
  refine accounted_of (h.tables.congr (fun _ => rfl) rfl rfl rfl (fun _ => rfl)
    (fun d => flight_of_place (hplace d) (by rw [hstate]))) ⟨h.engines.locks.same (fun _ => rfl) hplace
      (fun d hd => by rw [hstate]; exact hd), h.engines.engines.same hplace (fun d => by rw [hstate]) (fun d hd => ?_),
      h.engines.requests.sublist (List.Sublist.refl _) (fun r hr d op hd ha => ?_)⟩
  · by_cases hde : d = e
    · subst hde; rw [hself]; exact hs (h.engines.engines d hd).1
    · rw [modEngine_ne s e d f hde]; exact (h.engines.engines d hd).1
  · have hde : d ≠ e := by rintro rfl; exact hun r hr hd
    rw [modEngine_ne s e d f hde]; exact ha

/-- The settle time begins to run once the CONNECT or LOOP_PORT is complete. -/
theorem Accounted.settleBegins {s : State} (h : Accounted s) {e : Nat} (hun : s.Unasked e)
    (hst : (s.engine e).state = .connecting ∨ (s.engine e).state = .calibrating) : Accounted (s.settleBegins e) := by
  refine h.modUnasked hun rfl rfl (fun hs => ?_)
  obtain ⟨h1, h2, h3, -, h5, h6, h7⟩ := hs
  exact ⟨h1, h2, h3, fun _ => hst, h5, h6, h7⟩

/-! ## An engine leaves -/

theorem engines_goOffline (s : State) (e : Nat) : (s.goOffline e).engines =
    (s.setEngine e { (s.engine e).resting .offline with disablePending := false }).engines := by
  unfold State.goOffline
  exact foldl_keeps _ _ (fun _ _ => by simp) _ _

theorem engine_engineLeaves_ne (s : State) (e d : Nat) (h : d ≠ e) : (s.engineLeaves e).engine d = s.engine d := by
  unfold State.engineLeaves
  split
  · rw [engine_congr (engines_goOffline s e), engine_setEngine_ne _ _ _ _ (Ne.symm h)]
  · exact engine_setEngine_ne s _ _ _ (Ne.symm h)

theorem engineLeaves_atRest (s : State) (e : Nat) (h : e < 16) : ((s.engineLeaves e).engine e).AtRest := by
  unfold State.engineLeaves
  split
  · rw [engine_congr (engines_goOffline s e), engine_setEngine_self _ _ _ h]
    exact ⟨rfl, .inr (.inl rfl), rfl, rfl, rfl⟩
  · rw [State.goIdle, startRun_engine, engine_setEngine_self _ _ _ h]
    exact atRest_resting _ (.inl rfl)

theorem TablesFit.removeCalibrations {s : State} (h : TablesFit s) (l : List SpotEntry) :
    TablesFit (l.foldl State.removeCalibration s) :=
  foldl_inv State.removeCalibration TablesFit (fun _ x hx => hx.removeCalibration x) l s h

theorem TablesFit.engineLeaves {s : State} {e : Nat} (h : ∀ g : Engine, g.AtRest → TablesFit (s.setEngine e g)) :
    TablesFit (s.engineLeaves e) := by
  unfold State.engineLeaves
  split
  · exact (h _ ⟨rfl, .inr (.inl rfl), rfl, rfl, rfl⟩).removeCalibrations _
  · exact (h _ (atRest_resting _ (.inl rfl))).same (sameAccounts_startRun _)

/-- An engine without a flight comes to rest. -/
theorem TablesFit.setEngine_atRest {s : State} (h : TablesFit s) {e : Nat} (hf : (s.engine e).flight = none)
    (g : Engine)
    (hg : g.AtRest) : TablesFit (s.setEngine e g) := by
  refine h.congr (fun _ => rfl) rfl rfl rfl (fun _ => rfl) (fun d => ?_)
  rw [engine_setEngine]
  split
  · rename_i hd; obtain ⟨rfl, -⟩ := hd; rw [hg.flight, hf]
  · rfl

theorem TablesFit.pairLeaves {s : State} {e : Nat} (h : ∀ g : Engine, g.AtRest → TablesFit (s.setEngine e g))
    (hfol : (s.engine e).wide = true → (s.engine (e + 1)).flight = none) : TablesFit (s.pairLeaves e) := by
  unfold State.pairLeaves
  split
  · refine TablesFit.engineLeaves (TablesFit.setEngine_atRest (TablesFit.engineLeaves h) ?_)
    rw [engine_engineLeaves_ne s e (e + 1) (by omega)]
    exact hfol ‹_›
  · exact TablesFit.engineLeaves h

theorem engine_pairLeaves (s : State) (e : Nat) (h : e < 16) (hw : (s.engine e).wide = true → e + 1 < 16) :
    ((s.pairLeaves e).engine e).AtRest ∧ ((s.engine e).wide = true → ((s.pairLeaves e).engine (e + 1)).AtRest) ∧
      ∀ d, d ≠ e → ((s.engine e).wide = true → d ≠ e + 1) → (s.pairLeaves e).engine d = s.engine d := by
  unfold State.pairLeaves
  split
  · rename_i hwide
    refine ⟨?_, fun _ => engineLeaves_atRest _ _ (hw hwide), fun d hd hf => ?_⟩
    · rw [engine_engineLeaves_ne _ _ _ (by omega)]; exact engineLeaves_atRest s e h
    · rw [engine_engineLeaves_ne _ _ _ (hf hwide), engine_engineLeaves_ne _ _ _ hd]
  · exact ⟨engineLeaves_atRest s e h, fun hwide => absurd hwide ‹_›, fun d hd _ => engine_engineLeaves_ne s e d hd⟩

theorem pairLeaves_of_not_wide {s : State} {e : Nat} (h : (s.engine e).wide = false) :
    s.pairLeaves e = s.engineLeaves e := by
  simp [State.pairLeaves, h]

theorem flight_of_following {g : Engine} (h : g.state = .following) : g.flight = none := by
  simp [Engine.flight, h, EngineState.inFlight]

/-- An engine without a request leaves, its follower with it, once its point is free and its probe has landed. -/
theorem Accounted.leaves {s X : State} (h : Accounted s) {e : Nat} (he : e < 16) (hun : s.Unasked e)
    (hlead : (s.engine e).state ≠ .following) (hw : (X.engine e).wide = (s.engine e).wide)
    (hother : ∀ d, d ≠ e → X.engine d = s.engine d) (htab : ∀ g : Engine, g.AtRest → TablesFit (X.setEngine e g))
    (hown : ∀ p d, p < 256 → ((X.point p).owner = some d ↔ (s.point p).owner = some d ∧ d ≠ e))
    (hreq : X.requests = s.requests) : Accounted (X.pairLeaves e) := by
  have hpair := h.engines.follower he
  obtain ⟨hrest, hfol, hstay⟩ := engine_pairLeaves X e he (fun hx => (hpair (hw ▸ hx)).1)
  have hpoint (p : Nat) : (X.pairLeaves e).point p = X.point p := point_congr (by simp) p
  have hamc : (X.pairLeaves e).requests = X.requests := requests_congr (by simp)
  rw [hw] at hfol hstay
  refine accounted_of (TablesFit.pairLeaves htab (fun hx => ?_)) (h.engines.rests he hun
    ⟨hlead, hrest, hfol, fun d hd hf => (hstay d hd hf).trans (hother d hd)⟩ (fun p d hp hd => ?_) (fun p hp hd => ?_)
    (fun p d hp hne hd => ?_) (hamc.trans hreq))
  · rw [hother (e + 1) (by omega)]
    exact flight_of_following (hpair (hw ▸ hx)).2
  · rw [hpoint] at hd; exact ((hown p d hp).1 hd).1
  · rw [hpoint] at hd; exact absurd rfl ((hown p e hp).1 hd).2
  · rw [hpoint]; exact (hown p d hp).2 ⟨hd, hne⟩

/-- What an engine with a probe owns. -/
theorem EnginesFit.owns {s : State} (h : EnginesFit s) {e : Nat} {x : Context} (he : e < 16)
    (hx : (s.engine e).context = some x)
    (hk : x.kind ≠ .calibration) : ∃ p, p < 256 ∧ x.accessPoint = some p ∧
      ∀ q, q < 256 → ((s.point q).owner = some e ↔ q = p) := by
  obtain ⟨p, hp, hap, hpo⟩ := h.locks.2 e x he hx hk
  refine ⟨p, hp, hap, fun q hq => ⟨fun hqo => ?_, fun heq => heq ▸ hpo⟩⟩
  obtain ⟨-, hquar | ⟨y, hy, -, hay⟩⟩ := h.locks.1 q e hq hqo
  · obtain ⟨-, -, hnq, -⟩ := (h.engines e he).1.context_some hx
    exact absurd hquar hnq
  · obtain rfl : x = y := by simpa [hx] using hy
    simpa [hap] using hay.symm

/-- An engine without a probe owns nothing, unless it is quarantined. -/
theorem EnginesFit.owns_none {s : State} (h : EnginesFit s) {e : Nat} (hq : (s.engine e).state ≠ .quarantined)
    (hk : ∀ x, (s.engine e).context = some x → x.kind = .calibration) {p : Nat} (hp : p < 256) :
    (s.point p).owner ≠ some e := by
  intro hpo
  obtain ⟨-, hquar | ⟨x, hx, hkx, -⟩⟩ := h.locks.1 p e hp hpo
  · exact hq hquar
  · exact hkx (hk x hx)

theorem flight_of_calibration {g : Engine} (h : g.sound) {x : Context} (hx : g.context = some x)
    (hk : x.kind = .calibration) :
    g.flight = none := by
  have hf : g.state.inFlight = false := by
    by_contra hf
    obtain ⟨y, hy, hfly⟩ := h.flies (by simpa using hf)
    obtain rfl : x = y := by simpa [hx] using hy
    exact hfly.kind hk
  simp [Engine.flight, hf]

theorem wide_of_calibration {g : Engine} (h : g.sound) {x : Context} (hx : g.context = some x)
    (hk : x.kind = .calibration) :
    g.wide = false := by
  obtain ⟨-, -, hrate, -⟩ := h
  simp [Engine.wide, hx, hrate x hx hk]

/-- An engine leaves its calibration (R40, R41). -/
theorem Accounted.calibrationLeaves {s : State} (h : Accounted s) {e : Nat} (he : e < 16) {x : Context}
    (hx : (s.engine e).context = some x) (hk : x.kind = .calibration) (hun : s.Unasked e) :
    Accounted (s.engineLeaves e) := by
  have hs := (h.engines.engines e he).1
  obtain ⟨-, -, hquar, hfol⟩ := hs.context_some hx
  have hnone := fun p hp => h.engines.owns_none (e := e) hquar (fun y hy => by
    obtain rfl : x = y := by simpa [hx] using hy
    exact hk) (p := p) hp
  rw [← pairLeaves_of_not_wide (wide_of_calibration hs hx hk)]
  exact h.leaves he hun hfol rfl (fun _ _ => rfl) (h.tables.setEngine_atRest (flight_of_calibration hs hx hk))
    (fun p d hp => ⟨fun hd => ⟨hd, by rintro rfl; exact hnone p hp hd⟩, fun hd => hd.1⟩) rfl

/-! ## An engine asks for its DISCONNECT -/

theorem requests_startDisconnect (s : State) (e : Nat) : ∃ r : Request,
    (s.startDisconnect e).requests = s.requests ++ [r] ∧ r.engine? = some e ∧ r.op = .disconnect := by
  refine ⟨_, (requests_issue _ _).trans (congrArg (· ++ [_]) (requests_congr (by simp))), rfl, rfl⟩

theorem sameAccount_startDisconnect_ne (s : State) (e d : Nat) (hd : d ≠ e) :
    (s.engine d).SameAccount ((s.startDisconnect e).engine d) := by
  rw [engine_congr (startDisconnect_engines s e) d, State.enterPhase, ← modEngine_ne s e d (fun g => g.enter .disconnecting) hd]
  exact sameAccount_onLanes_other _ e d (F := fun l => l.disarmed) (fun _ => rfl) (fun _ _ => rfl) hd

theorem flight_startDisconnect_self (s : State) (e : Nat) (he : e < 16) :
    ((s.startDisconnect e).engine e).flight = none := by
  rw [startDisconnect_self s e he]
  simp [Engine.flight, Engine.enter, Engine.modContext, EngineState.inFlight]

/-- `s` holds the accounts of the engine before its probe landed; `Y` is the state in which it asks. -/
theorem EnginesFit.startDisconnect {s Y : State} (h : EnginesFit s) {e : Nat} (he : e < 16) {x : Context}
    (hx : (s.engine e).context = some x) (hun : s.Unasked e)
    (hp : (Y.engine e).context.map Context.place = (s.engine e).context.map Context.place)
    (hother : ∀ d, d ≠ e → (s.engine d).SameAccount (Y.engine d)) (ho : ∀ p, (Y.point p).owner = (s.point p).owner)
    (hreq : Y.requests = s.requests) : EnginesFit (Y.startDisconnect e) := by
  obtain ⟨r, hr, hre, hop⟩ := requests_startDisconnect Y e
  have hself := startDisconnect_self Y e he
  refine h.disconnects he hx hun (by rw [hself]; rfl) ?_ (by rw [hself]; exact ⟨rfl, rfl, rfl⟩)
    (fun d hd => (hother d hd).trans (sameAccount_startDisconnect_ne Y e d hd))
    (fun p => by rw [point_congr (s := Y) (by simp), ho]) (hr.trans (by rw [hreq])) hre hop
  rw [hself, ← hp]
  exact map_place_of_kept (f := fun x => { x with phaseTimer := 0 }) (contextKept_of_eq (fun _ => rfl) (fun _ => rfl)) _

/-! ## A probe lands -/

theorem Settles.same {s Y t : State} {c n : Nat} {loop : Option OpenLoop} (S : Settles s Y c n loop)
    (k : Y.SameAccounts t) :
    Settles s t c n loop where
  record d hd := (k.circuit d).trans (S.record d hd)
  defState := by rw [k.circuit]; exact S.defState
  definition := by rw [k.circuit]; exact S.definition
  status := by rw [k.circuit]; exact S.status
  queued := k.queued.trans S.queued
  spot := k.spot.trans S.spot
  loops := k.loops.trans S.loops
  entry := S.entry
  occupancy m hm := (k.occupancy m).trans (S.occupancy m hm)

/-- The engines and their requests move, the tables stand. -/
theorem Settles.of_frame {s Y t : State} {c n : Nat} {loop : Option OpenLoop} (S : Settles s Y c n loop)
    (hc : t.circuits = Y.circuits) (hk : t.classes = Y.classes) (hs : t.spot = Y.spot) (hl : t.openLoops = Y.openLoops)
    (hn : t.nodes = Y.nodes) : Settles s t c n loop where
  record d hd := (circuit_congr hc d).trans (S.record d hd)
  defState := by rw [circuit_congr hc]; exact S.defState
  definition := by rw [circuit_congr hc]; exact S.definition
  status := by rw [circuit_congr hc]; exact S.status
  queued := (queuedCircuits_congr hk).trans S.queued
  spot := hs.trans S.spot
  loops := hl.trans S.loops
  entry := S.entry
  occupancy m hm := by rw [node_congr hn]; exact S.occupancy m hm

/-- The verdict settles the probe, once its slot is returned or has passed to a new entry. -/
theorem settles_grade {s X : State} {e c n : Nat} {x : Context} {loop : Option OpenLoop} (hclt : c < 2048)
    (hx : (X.engine e).context = some x) (hc : x.circuit = some c)
    (fc : X.circuits = s.circuits) (fk : X.classes = s.classes) (fs : X.spot = s.spot)
    (fl : X.openLoops = s.openLoops ++ loop.toList)
    (hentry : ∀ o, loop = some o → o.circuit = c ∧ o.farNode = n ∧ o.accessPoint < 256)
    (hocc : ∀ m, m < 64 → (X.node m).occupancy = (s.node m).occupancy - if loop = none ∧ n = m then 1 else 0)
    (hst : ((.blocked ∈ x.outcomes ∧ x.kind = .releaseOnly) ∨ (.blocked ∉ x.outcomes ∧ .stuckLoop ∈ x.outcomes)) ↔
      loop.isSome = true) : Settles s (X.gradeProbe e) c n loop := by
  have hrec := circuit_gradeProbe X e hx hc
  have hself := hrec c
  rw [if_pos ⟨rfl, hclt⟩] at hself
  refine ⟨fun d hd => ?_, ?_, ?_, ?_, ?_, ?_, ?_, hentry, fun m hm => ?_⟩
  · rw [hrec, if_neg (fun h => hd h.1.symm), circuit_congr fc]
  · rw [hself, circuit_congr fc]; rfl
  · rw [hself, circuit_congr fc]; rfl
  · rw [hself]
    change statusAfter x.kind (X.verdictFor e x c).grade = _
    rw [status_verdictFor]
    simp only [hst]
  · exact queuedCircuits_congr (by simp [fk])
  · simp [fs]
  · simp [fl]
  · rw [node_congr (s := X) (by simp)]; exact hocc m hm

/-- An engine with a probe in flight: its context, circuit, far node and point. -/
structure Aloft (s : State) (e : Nat) (x : Context) (c n p : Nat) : Prop where
  lt : e < 16
  inFlight : (s.engine e).state.inFlight = true
  context : (s.engine e).context = some x
  flies : x.Flies
  circuit : x.circuit = some c
  farNode : x.farNode = some n
  point : x.accessPoint = some p
  point_lt : p < 256
  owner : ∀ q, q < 256 → ((s.point q).owner = some e ↔ q = p)
  circuit_lt : c < 2048

theorem Aloft.flight {s : State} {e c n p : Nat} {x : Context} (a : Aloft s e x c n p) :
    (s.engine e).flight = some (some x.kind, some c, some n) := by
  simp [Engine.flight, a.inFlight, Engine.kind?, a.context, a.circuit, a.farNode]

theorem Accounted.aloft {s : State} (h : Accounted s) {e : Nat} (he : e < 16)
    (hf : (s.engine e).state.inFlight = true) :
    ∃ x c n p, Aloft s e x c n p := by
  obtain ⟨x, hx, hfly⟩ := (h.engines.engines e he).1.flies hf
  obtain ⟨c, hc⟩ := Option.ne_none_iff_exists'.1 hfly.circuit
  obtain ⟨n, hn⟩ := Option.ne_none_iff_exists'.1 hfly.farNode
  obtain ⟨p, hp, hap, hown⟩ := h.engines.owns he hx hfly.kind
  have hflight : (s.engine e).flight = some (some x.kind, some c, some n) := by
    simp [Engine.flight, hf, Engine.kind?, hx, hc, hn]
  have hst := (h.tables.in_flight he hflight rfl).1
  exact ⟨x, c, n, p, he, hf, hx, hfly, hc, hn, hap, hp, hown, lt_of_status (by
    rw [hst]; unfold Flight.status; split <;> decide)⟩

/-- The probe has landed and the engine asks for its DISCONNECT. -/
theorem Accounted.landsAndDisconnects {s Y : State} (h : Accounted s) {e c n p : Nat} {x : Context}
    (a : Aloft s e x c n p)
    {loop : Option OpenLoop} (hun : s.Unasked e) (S : Settles s Y c n loop)
    (hp : (Y.engine e).context.map Context.place = (s.engine e).context.map Context.place)
    (hother : ∀ d, d ≠ e → Y.engine d = s.engine d) (hpt : Y.points = s.points) (hamc : Y.amc = s.amc) :
    Accounted (Y.startDisconnect e) := by
  have hsame : ∀ d, d ≠ e → (s.engine d).SameAccount (Y.engine d) := fun d hd => by rw [hother d hd]; exact .refl _
  refine accounted_of (h.tables.land a.lt a.flight (loop := loop) ⟨S.of_frame (by simp) (by simp) (by simp) (by simp) (by simp),
    fun d hd => ?_, flight_startDisconnect_self Y e a.lt⟩)
    (h.engines.startDisconnect a.lt a.context hun hp hsame (fun q => by rw [point_congr hpt]) (requests_congr hamc))
  have k := sameAccount_startDisconnect_ne Y e d hd
  rw [flight_of_place k.place k.inFlight, hother d hd]

/-- What every end of a flight leaves alone, once the tables are settled. -/
theorem sameAccounts_testEndIf_offer (s : State) (code : Byte) (p : List Byte) (b : Bool) :
    s.SameAccounts ((s.offer code p).testEndIf b) := (sameAccounts_offer s code p).trans (sameAccounts_testEndIf _ b)

theorem occupancy_returnSlot (s : State) (n m : Nat) (hm : m < 64) :
    ((s.returnSlot n).node m).occupancy = (s.node m).occupancy - if n = m then 1 else 0 := by
  rw [State.returnSlot, startRun_node, node_setNode]
  by_cases h : n = m
  · subst h; simp [hm]
  · simp [h]

/-- The release end (R64). -/
theorem Accounted.releaseEnd {s : State} (h : Accounted s) {e : Nat} (he : e < 16) (hr : (s.engine e).Roams) :
    Accounted (s.releaseEnd e) := by
  obtain ⟨x, c, n, p, a⟩ := h.aloft he hr.inFlight
  have hun := h.engines.unasked hr.idle
  have S : Settles s ((s.returnSlot n).gradeProbe e) c n none :=
    settles_grade a.circuit_lt (by rw [engine_congr (s := s) (by simp)]; exact a.context) a.circuit (by simp) (by simp) (by simp)
      (by simp) (by simp) (fun m hm => by rw [occupancy_returnSlot s n m hm]; simp)
      (by simp [a.flies.blocked, a.flies.stuck])
  simp only [State.releaseEnd, a.context, a.farNode, Option.getD_some]
  have heng : (((s.returnSlot n).gradeProbe e).testEndIf (x.kind == .campaign)).engines = s.engines := by simp
  exact h.landsAndDisconnects a hun (S.same (sameAccounts_testEndIf _ _)) (by rw [engine_congr heng])
    (fun d _ => engine_congr heng d) (by simp) (by simp)

/-- An outcome is written and the probe graded, its slot returned or passed to a new entry. -/
theorem settles_outcome {s X : State} {e c n p : Nat} {x : Context} (a : Aloft s e x c n p) (o : ProbeOutcome)
    {loop : Option OpenLoop}
    (hX : X.engine e = { s.engine e with context := some { x with outcomes := x.outcomes ++ [o] } })
    (fc : X.circuits = s.circuits) (fk : X.classes = s.classes) (fs : X.spot = s.spot)
    (fl : X.openLoops = s.openLoops ++ loop.toList)
    (hentry : ∀ l, loop = some l → ∃ now total, l = x.openLoop now total)
    (hocc : ∀ m, m < 64 → (X.node m).occupancy = (s.node m).occupancy - if loop = none ∧ n = m then 1 else 0)
    (ho : o = .stuckLoop ∧ loop.isSome = true ∨ o = .blocked ∧ (loop.isSome = true ↔ x.kind = .releaseOnly)) :
    Settles s (X.gradeProbe e) c n loop := by
  refine settles_grade (x := { x with outcomes := x.outcomes ++ [o] }) a.circuit_lt (by rw [hX]) a.circuit fc fk fs fl
    (fun l hl => ?_) hocc ?_
  · obtain ⟨now, total, rfl⟩ := hentry l hl
    simp [Context.openLoop, a.circuit, a.farNode, a.point, a.point_lt]
  · rcases ho with ⟨rfl, hl⟩ | ⟨rfl, hl⟩
    · simp [a.flies.blocked, hl]
    · simp [hl]

/-- The release end after STUCK_LOOP (R62, R148). -/
theorem Accounted.stuckEnd {s : State} (h : Accounted s) {e : Nat} (he : e < 16) (hr : (s.engine e).Roams) :
    Accounted (s.stuckEnd e) := by
  obtain ⟨x, c, n, p, a⟩ := h.aloft he hr.inFlight
  have hun := h.engines.unasked hr.idle
  let X := (s.writeOutcome e .stuckLoop).joinOpenLoops (x.openLoop s.now x.stuckTotal)
  have hself : X.engine e = { s.engine e with context := some { x with outcomes := x.outcomes ++ [.stuckLoop] } } :=
    writeOutcome_self s e _ he x a.context
  have S : Settles s (X.gradeProbe e) c n (some (x.openLoop s.now x.stuckTotal)) :=
    settles_outcome a .stuckLoop hself (by simp [X]) (by simp [X]) (by simp [X]) (by simp [X, State.joinOpenLoops])
      (fun l hl => ⟨_, _, (Option.some.inj hl).symm⟩)
      (fun m _ => by rw [node_congr (s := s) (by simp [X])]; simp) (.inl ⟨rfl, rfl⟩)
  simp only [State.stuckEnd, a.context]
  refine h.landsAndDisconnects a hun (S.same (sameAccounts_testEndIf_offer _ _ _ _)) ?_ (fun d hd => ?_) (by simp) (by simp)
  · rw [engine_congr (s := X) (by simp [X]), hself, a.context]; rfl
  · rw [engine_congr (s := X) (by simp [X])]
    change (s.writeOutcome e .stuckLoop).engine d = s.engine d
    exact modEngine_ne s e d _ hd

theorem Accounted.releaseAttemptFailed {s : State} (h : Accounted s) {e : Nat} (he : e < 16) (hr : (s.engine e).Roams) :
    Accounted (s.releaseAttemptFailed e) := by
  unfold State.releaseAttemptFailed
  split
  · exact h
  · split
    · exact h.same (sameAccounts_startRelease s hr)
    · exact h.stuckEnd he hr

end Sys2Proof.Machine
end


section
/-! SUPPORT. Completions of matrix requests keep the accounts (R48 to R50, R65, R69, R159 to R166). -/

namespace Sys2Proof.Machine

/-! ## A failed CONNECT (R49, R50, R69) -/

@[simp] theorem slotAfterConnect_frame (s : State) (x : Context) :
    (s.slotAfterConnect x).circuits = s.circuits ∧ (s.slotAfterConnect x).classes = s.classes ∧
    (s.slotAfterConnect x).spot = s.spot ∧ (s.slotAfterConnect x).engines = s.engines ∧
    (s.slotAfterConnect x).points = s.points ∧ (s.slotAfterConnect x).amc = s.amc := by
  unfold State.slotAfterConnect; split <;> simp

@[simp] theorem connectFails_frame (s : State) (e : Nat) (x : Context) :
    (s.connectFails e x).engines = (s.writeOutcome e .blocked).engines ∧ (s.connectFails e x).points = s.points ∧
    (s.connectFails e x).amc = s.amc := by
  refine ⟨?_, by simp [State.connectFails], by simp [State.connectFails]⟩
  obtain ⟨-, -, -, fe, -⟩ := slotAfterConnect_frame s x
  simp only [State.connectFails, testEndIf_frame, gradeProbe_frame, State.writeOutcome, State.modEngine, State.setEngine]
  rw [fe, engine_congr fe]

theorem settles_connectFails {s u : State} {e c n p : Nat} {x : Context} (a : Aloft s e x c n p)
    (fc : u.circuits = s.circuits) (fk : u.classes = s.classes) (fs : u.spot = s.spot) (fl : u.openLoops = s.openLoops)
    (fn : u.nodes = s.nodes) (fe : u.engines = s.engines) : ∃ loop, Settles s (u.connectFails e x) c n loop := by
  let X := (u.slotAfterConnect x).writeOutcome e .blocked
  have hctx : ((u.slotAfterConnect x).engine e).context = some x := by
    rw [engine_congr (s := s) (by simp [fe])]; exact a.context
  have hself : X.engine e = { s.engine e with context := some { x with outcomes := x.outcomes ++ [.blocked] } } := by
    rw [show X.engine e = _ from writeOutcome_self _ e .blocked a.lt x hctx, engine_congr (s := s) (by simp [fe])]
  have fX : X.circuits = s.circuits ∧ X.classes = s.classes ∧ X.spot = s.spot := by simp [X, fc, fk, fs]
  obtain ⟨gc, gk, gs⟩ := fX
  by_cases hk : x.kind = .releaseOnly
  · refine ⟨some (x.openLoop u.now (x.releaseTotal.getD 0)), Settles.same ?_ (sameAccounts_testEndIf _ _)⟩
    exact settles_outcome a .blocked hself gc gk gs (by simp [State.slotAfterConnect, hk, State.joinOpenLoops, fl])
      (fun l hl => ⟨_, _, (Option.some.inj hl).symm⟩)
      (fun m _ => by rw [node_congr (s := s) (by simp [State.slotAfterConnect, hk, fn])]; simp)
      (.inr ⟨rfl, by simp [hk]⟩)
  · refine ⟨none, Settles.same ?_ (sameAccounts_testEndIf _ _)⟩
    refine settles_outcome a .blocked hself gc gk gs (by simp [State.slotAfterConnect, hk, fl])
      (fun l hl => nomatch hl) (fun m hm => ?_) (.inr ⟨rfl, by simp [hk]⟩)
    have hnode : X.nodes = (u.returnSlot n).nodes := by simp [X, State.slotAfterConnect, hk, a.farNode]
    rw [node_congr hnode, occupancy_returnSlot u n m hm, node_congr fn]
    simp

theorem engine_connectFails_ne (s : State) (e d : Nat) (x : Context) (h : d ≠ e) :
    (s.connectFails e x).engine d = s.engine d := by
  rw [engine_congr (connectFails_frame s e x).1]; exact modEngine_ne s e d _ h

theorem place_connectFails (s : State) (e : Nat) (x : Context) (he : e < 16) :
    ((s.connectFails e x).engine e).context.map Context.place = (s.engine e).context.map Context.place := by
  rw [engine_congr (connectFails_frame s e x).1, State.writeOutcome, modEngine_self s e _ he]
  cases hx : (s.engine e).context <;> simp [Engine.modContext, hx, Context.place]

theorem Accounted.connectTimeout {s : State} (h : Accounted s) {e c n p : Nat} {x : Context} (a : Aloft s e x c n p)
    (hun : s.Unasked e) : Accounted ((s.connectFails e x).startDisconnect e) := by
  obtain ⟨loop, S⟩ := settles_connectFails a (u := s) rfl rfl rfl rfl rfl rfl
  exact h.landsAndDisconnects a hun S (place_connectFails s e x a.lt) (fun d hd => engine_connectFails_ne s e d x hd)
    (by simp) (by simp)

@[simp] theorem pointRefused_frame (s : State) (p : Nat) :
    (s.pointRefused p).circuits = s.circuits ∧ (s.pointRefused p).classes = s.classes ∧ (s.pointRefused p).spot = s.spot ∧
    (s.pointRefused p).openLoops = s.openLoops ∧ (s.pointRefused p).nodes = s.nodes ∧
    (s.pointRefused p).engines = s.engines ∧ (s.pointRefused p).amc = s.amc := by
  simp [State.pointRefused, State.unlock]

theorem owner_unlock (s : State) (p q : Nat) (hq : q < 256) :
    ((s.unlock p).point q).owner = if p = q then none else (s.point q).owner := by
  rw [State.unlock, startRun_point, point_setPoint]
  by_cases h : p = q
  · subst h; simp [hq]
  · simp [h]

theorem owner_pointRefused (s : State) (p q : Nat) (hq : q < 256) :
    ((s.pointRefused p).point q).owner = if p = q then none else (s.point q).owner := by
  rw [State.pointRefused, owner_unlock _ _ _ hq, point_setPoint]
  by_cases h : p = q
  · simp [h]
  · simp [h]

/-- The point of the engine's probe is free, every other lock stands. -/
theorem owner_unlocked {s : State} {e p : Nat} (hp : p < 256)
    (hown : ∀ q, q < 256 → ((s.point q).owner = some e ↔ q = p))
    (q d : Nat) (hq : q < 256) :
    (if p = q then none else (s.point q).owner) = some d ↔ (s.point q).owner = some d ∧ d ≠ e := by
  by_cases hpq : p = q
  · subst hpq
    simp [(hown p hp).2 rfl, eq_comm]
  · rw [if_neg hpq]
    refine ⟨fun hd => ⟨hd, ?_⟩, fun hd => hd.1⟩
    rintro rfl
    exact hpq ((hown q hq).1 hd).symm

theorem Accounted.connectRefused {s : State} (h : Accounted s) {e c n p : Nat} {x : Context} (a : Aloft s e x c n p)
    (hun : s.Unasked e) : Accounted (((s.pointRefused p).connectFails e x).pairLeaves e) := by
  obtain ⟨fc, fk, fs, fl, fn, fe, fa⟩ := pointRefused_frame s p
  obtain ⟨loop, S⟩ := settles_connectFails a (u := s.pointRefused p) fc fk fs fl fn fe
  have hfol : (s.engine e).state ≠ .following := by intro hst; have := a.inFlight; simp [hst, EngineState.inFlight] at this
  refine h.leaves a.lt hun hfol ?_ (fun d hd => ?_) (fun g hg => ?_) (fun q d hq => ?_) (requests_congr (by simp))
  · rw [wide_of_place (place_connectFails _ e x a.lt), engine_congr fe]
  · rw [engine_connectFails_ne _ e d x hd, engine_congr fe]
  · refine h.tables.land a.lt a.flight (loop := loop) ⟨S.of_frame rfl rfl rfl rfl rfl, fun d hd => ?_, ?_⟩
    · rw [engine_setEngine_ne _ _ _ _ (Ne.symm hd), engine_connectFails_ne _ e d x hd, engine_congr fe]
    · rw [engine_setEngine_self _ _ _ a.lt]; exact hg.flight
  · rw [point_congr (s := s.pointRefused p) (by simp), owner_pointRefused s p q hq]
    exact owner_unlocked a.point_lt a.owner q d hq

theorem Accounted.connectCompleted {s : State} (h : Accounted s) {e : Nat} {x : Context} (he : e < 16)
    (hx : (s.engine e).context = some x) (hst : (s.engine e).state = .connecting) (hun : s.Unasked e) (k : Completion) :
    Accounted (s.connectCompleted e x k) := by
  obtain ⟨y, c, n, p, a⟩ := h.aloft he (by rw [hst]; rfl)
  obtain rfl : y = x := by have := a.context; simpa [hx, eq_comm] using this
  cases k with
  | done => exact h.settleBegins hun (.inl hst)
  | refused r =>
    have := h.connectRefused a hun
    simpa only [State.connectCompleted, a.point, Option.getD_some] using this
  | timeout => exact h.connectTimeout a hun

/-! ## LOOP_PORT and DISCONNECT (R40, R65, R163) -/

theorem sameAccounts_answerCalibrationOf (s : State) (e : Nat) (x : Context) (st : EngineState) :
    s.SameAccounts (s.answerCalibrationOf e x st) := by
  unfold State.answerCalibrationOf
  split
  · exact sameAccounts_answer _ _ _ _ _
  · exact .refl s

theorem answerCalibrationOf_engines_amc (s : State) (e : Nat) (x : Context) (st : EngineState) :
    (s.answerCalibrationOf e x st).engines = s.engines ∧ (s.answerCalibrationOf e x st).amc = s.amc := by
  unfold State.answerCalibrationOf; split <;> simp

theorem State.Unasked.congr {s t : State} {e : Nat} (h : s.Unasked e) (hr : t.requests = s.requests) : t.Unasked e := by
  unfold State.Unasked; rw [hr]; exact h

/-- The calibration is answered and its engine leaves. -/
theorem Accounted.calibrationAnswered {s : State} (h : Accounted s) {e : Nat} (he : e < 16) {x : Context}
    (hx : (s.engine e).context = some x) (hk : x.kind = .calibration) (hun : s.Unasked e) (st : EngineState) :
    Accounted ((s.answerCalibrationOf e x st).engineLeaves e) := by
  obtain ⟨fe, fa⟩ := answerCalibrationOf_engines_amc s e x st
  exact (h.same (sameAccounts_answerCalibrationOf s e x st)).calibrationLeaves he (by rw [engine_congr fe]; exact hx) hk
    (hun.congr (requests_congr fa))

/-- A calibration's engine asks for its DISCONNECT. -/
theorem Accounted.calibrationDisconnect {s Y : State} (h : Accounted s) {e : Nat} (he : e < 16) {x : Context}
    (hx : (s.engine e).context = some x) (hk : x.kind = .calibration) (hun : s.Unasked e)
    (hp : (Y.engine e).context.map Context.place = (s.engine e).context.map Context.place)
    (hother : ∀ d, d ≠ e → Y.engine d = s.engine d) (hY : Y = { s with engines := Y.engines }) :
    Accounted (Y.startDisconnect e) := by
  have hframe : (∀ p, Y.point p = s.point p) ∧ Y.requests = s.requests := by rw [hY]; exact ⟨fun _ => rfl, rfl⟩
  refine accounted_of (h.tables.congr (circuit_congr (by rw [hY]; simp)) (queuedCircuits_congr (by rw [hY]; simp))
    (by rw [hY]; simp) (by rw [hY]; simp) (fun n => by rw [node_congr (s := s) (by rw [hY]; simp)]) (fun d => ?_))
    (h.engines.startDisconnect he hx hun hp (fun d hd => by rw [hother d hd]; exact .refl _)
      (fun p => by rw [hframe.1]) hframe.2)
  by_cases hd : d = e
  · subst hd
    rw [flight_startDisconnect_self Y d he, flight_of_calibration (h.engines.engines d he).1 hx hk]
  · have k := sameAccount_startDisconnect_ne Y e d hd
    rw [flight_of_place k.place k.inFlight, hother d hd]

theorem Accounted.loopPortCompleted {s : State} (h : Accounted s) {e : Nat} {x : Context} (he : e < 16)
    (hx : (s.engine e).context = some x) (hst : (s.engine e).state = .calibrating) (hun : s.Unasked e)
    (k : Completion) :
    Accounted (s.loopPortCompleted e x k) := by
  have hk : x.kind = .calibration := by
    obtain ⟨-, hcal, -⟩ := (h.engines.engines e he).1
    simpa [Engine.kind?, hx] using hcal hst
  cases k with
  | done => exact h.settleBegins hun (.inr hst)
  | refused r => exact h.calibrationAnswered he hx hk hun _
  | timeout => exact h.calibrationDisconnect he hx hk hun rfl (fun _ _ => rfl) rfl

theorem flight_of_disconnecting {g : Engine} (h : g.state = .disconnecting) : g.flight = none := by
  simp [Engine.flight, h, EngineState.inFlight]

theorem Accounted.disconnected {s : State} (h : Accounted s) {e : Nat} {x : Context} (he : e < 16)
    (hx : (s.engine e).context = some x) (hst : (s.engine e).state = .disconnecting) (hun : s.Unasked e) :
    Accounted (s.disconnected e x) := by
  unfold State.disconnected
  split
  · exact h.calibrationAnswered he hx ‹_› hun _
  · obtain ⟨p, hp, hap, hown⟩ := h.engines.owns he hx ‹_›
    rw [hap, Option.getD_some]
    refine h.leaves he hun (by simp [hst]) rfl (fun _ _ => rfl) (fun g hg => ?_) (fun q d hq => ?_) rfl
    · exact (h.tables.setEngine_atRest (flight_of_disconnecting hst) g hg).congr (fun _ => rfl) rfl rfl rfl (fun _ => rfl)
        (fun _ => rfl)
    · rw [owner_unlock s p q hq]
      exact owner_unlocked hp hown q d hq

theorem engine_quarantineEngines (s : State) (e : Nat) (wide : Bool) (he : e < 16) (hw : wide = true → e + 1 < 16) :
    (s.quarantineEngines e wide).engine e = (s.engine e).resting .quarantined ∧
    (wide = true → (s.quarantineEngines e wide).engine (e + 1) = (s.engine (e + 1)).resting .quarantined) ∧
    ∀ d, d ≠ e → (wide = true → d ≠ e + 1) → (s.quarantineEngines e wide).engine d = s.engine d := by
  unfold State.quarantineEngines
  dsimp only
  cases wide with
  | false =>
    exact ⟨engine_setEngine_self _ _ _ he, nofun, fun d hd _ => engine_setEngine_ne _ _ _ _ (Ne.symm hd)⟩
  | true =>
    simp only [if_true]
    refine ⟨?_, fun _ => ?_, fun d hd hf => ?_⟩
    · rw [engine_setEngine_ne _ _ _ _ (by omega), engine_setEngine_self _ _ _ he]
    · rw [engine_setEngine_self _ _ _ (hw rfl), engine_setEngine_ne _ _ _ _ (by omega)]
    · rw [engine_setEngine_ne _ _ _ _ (Ne.symm (hf trivial)), engine_setEngine_ne _ _ _ _ (Ne.symm hd)]

@[simp] theorem quarantineEngines_frame (s : State) (e : Nat) (wide : Bool) :
    (s.quarantineEngines e wide).circuits = s.circuits ∧ (s.quarantineEngines e wide).classes = s.classes ∧
    (s.quarantineEngines e wide).spot = s.spot ∧ (s.quarantineEngines e wide).openLoops = s.openLoops ∧
    (s.quarantineEngines e wide).nodes = s.nodes ∧ (s.quarantineEngines e wide).points = s.points ∧
    (s.quarantineEngines e wide).amc = s.amc := by
  unfold State.quarantineEngines; dsimp only; split <;> simp

/-- A quarantined engine keeps the lock of its point (R163). -/
theorem Accounted.quarantineEngines {s : State} (h : Accounted s) {e : Nat} (he : e < 16)
    (hst : (s.engine e).state = .disconnecting) (hun : s.Unasked e) :
    Accounted (s.quarantineEngines e (s.engine e).wide) := by
  have hpair := h.engines.follower he
  obtain ⟨hself, hfol, hstay⟩ := engine_quarantineEngines s e (s.engine e).wide he (fun hw => (hpair hw).1)
  have hpoint (p : Nat) : (s.quarantineEngines e (s.engine e).wide).point p = s.point p := point_congr (by simp) p
  have hrest (g : Engine) : (g.resting .quarantined).AtRest := atRest_resting g (.inr (.inr rfl))
  refine accounted_of (h.tables.congr (circuit_congr (by simp)) (queuedCircuits_congr (by simp)) (by simp) (by simp)
    (fun n => by rw [node_congr (s := s) (by simp)]) (fun d => ?_))
    (h.engines.rests he hun
      ⟨by simp [hst], by rw [hself]; exact hrest _, fun hw => by rw [hfol hw]; exact hrest _, hstay⟩
      (fun p d _ hd => by rwa [hpoint] at hd) (fun p _ _ => by rw [hself]; rfl) (fun p d _ _ hd => by rwa [hpoint])
      (requests_congr (by simp)))
  by_cases hd : d = e
  · subst hd; rw [hself, (hrest _).flight, flight_of_disconnecting hst]
  · by_cases hw : (s.engine e).wide = true ∧ d = e + 1
    · obtain ⟨hw, rfl⟩ := hw
      rw [hfol hw, (hrest _).flight, flight_of_following (hpair hw).2]
    · rw [hstay d hd (fun hw' hd' => hw ⟨hw', hd'⟩)]

theorem Accounted.disconnectFails {s : State} (h : Accounted s) {e : Nat} {x : Context} (he : e < 16)
    (hx : (s.engine e).context = some x) (hst : (s.engine e).state = .disconnecting) (hun : s.Unasked e)
    (k : Completion) :
    Accounted (s.disconnectFails e x k) := by
  have hq := h.quarantineEngines he hst hun
  rw [show (s.engine e).wide = (x.rate == .wide) by simp [Engine.wide, hx]] at hq
  unfold State.disconnectFails
  dsimp only
  split
  · exact (hq.same (sameAccounts_offer _ _ _)).same (sameAccounts_answerCalibrationOf _ _ _ _)
  · exact hq.same (sameAccounts_offer _ _ _)

theorem Accounted.disconnectCompleted {s : State} (h : Accounted s) {e : Nat} {x : Context} (he : e < 16)
    (hx : (s.engine e).context = some x) (hst : (s.engine e).state = .disconnecting) (hun : s.Unasked e)
    (k : Completion) :
    Accounted (s.disconnectCompleted e x k) := by
  cases k with
  | done => exact h.disconnected he hx hst hun
  | refused r => exact h.disconnectFails he hx hst hun _
  | timeout => exact h.disconnectFails he hx hst hun _

/-! ## RESET_ALL (R161, R165) -/

theorem owner_unlockOwned (s : State) (e p : Nat) (hp : p < 256) (d : Nat) :
    ((s.unlockOwned e).point p).owner = some d ↔ (s.point p).owner = some d ∧ d ≠ e := by
  have hpts : (s.unlockOwned e).points =
      s.points.map (fun (q : Point) => if q.owner = some e then { q with owner := none } else q) := by
    simp [State.unlockOwned]
  simp only [State.point, hpts, Vector.getElem?_eq_getElem hp, Vector.getElem_map, Option.getD_some]
  by_cases ho : s.points[p].owner = some e
  · simp [ho, eq_comm]
  · rw [if_neg ho]
    refine ⟨fun hd => ⟨hd, ?_⟩, fun hd => hd.1⟩
    rintro rfl
    exact ho hd

theorem Accounted.endQuarantine {s : State} (h : Accounted s) {e : Nat} (he : e < 16) :
    Accounted (s.endQuarantine e) := by
  unfold State.endQuarantine
  split
  · rename_i hst
    have hrest : (s.engine e).AtRest := atRest_of_sound (h.engines.engines e he).1 (.inr (.inr hst))
    have fe : (s.unlockOwned e).engines = s.engines := by simp [State.unlockOwned]
    have hwide : ((s.unlockOwned e).engine e).wide = (s.engine e).wide := by rw [engine_congr fe]
    have hnot : ((s.unlockOwned e).engine e).wide = false := hwide.trans (wide_of_context_none hrest.context)
    rw [← pairLeaves_of_not_wide hnot]
    refine h.leaves he (h.engines.unasked_of_state (by simp [hst]) (by simp [hst]) (by simp [hst])) (by simp [hst]) hwide
      (fun d _ => engine_congr fe d) (fun g hg => ?_) (fun p d hp => owner_unlockOwned s e p hp d)
      (requests_congr (by simp [State.unlockOwned]))
    refine (h.tables.setEngine_atRest hrest.flight g hg).congr (circuit_congr (by simp [State.unlockOwned]))
      (queuedCircuits_congr (by simp [State.unlockOwned])) (by simp [State.unlockOwned]) (by simp [State.unlockOwned])
      (fun n => by rw [node_congr (s := s) (by simp [State.unlockOwned])]; rfl) (fun d => ?_)
    rw [engine_congr (s := s.setEngine e g) (by simp [State.unlockOwned, State.setEngine])]
  · exact h

theorem Accounted.endQuarantines {s : State} (h : Accounted s) : Accounted s.endQuarantines := by
  have hfold (l : List Nat) (hl : ∀ e ∈ l, e < 16) (t : State) (ht : Accounted t) :
      Accounted (l.foldl State.endQuarantine t) := by
    induction l generalizing t with
    | nil => exact ht
    | cons e rest ih =>
      obtain ⟨he, hrest⟩ := List.forall_mem_cons.1 hl
      exact ih hrest _ (ht.endQuarantine he)
  exact hfold _ (fun e he => List.mem_range.1 he) s h

theorem Accounted.resetAllCompleted {s : State} (h : Accounted s) (r : Requester) (k : Completion) :
    Accounted (s.resetAllCompleted r k) := by
  have hheard : Accounted (match r with
      | .resync i => s.resyncAnswer i k
      | .reset => s.startupCompletes
      | .engine _ => s) := by
    cases r with
    | resync i => cases k <;> exact h.same (sameAccounts_answer _ _ _ _ _)
    | reset => exact h.same (sameAccounts_mli s _)
    | engine e => exact h
  unfold State.resetAllCompleted
  dsimp only
  split
  · exact hheard.endQuarantines
  · exact hheard

/-! ## The current request completes (R159) -/

theorem requests_closeRequest (s : State) (q : CurrentRequest) (k : Completion) :
    (s.closeRequest q k).requests = s.amc.fifo := by
  unfold State.closeRequest
  rw [requests_congr (s := State.pump { s with amc := { s.amc with current := none, link := linkAfter s.amc q.request k } })
    (by simp), requests_pump]
  rfl

@[simp] theorem closeRequest_frame (s : State) (q : CurrentRequest) (k : Completion) :
    (s.closeRequest q k).circuits = s.circuits ∧ (s.closeRequest q k).classes = s.classes ∧
    (s.closeRequest q k).spot = s.spot ∧ (s.closeRequest q k).openLoops = s.openLoops ∧
    (s.closeRequest q k).nodes = s.nodes ∧ (s.closeRequest q k).points = s.points ∧
    (s.closeRequest q k).engines = s.engines := by
  simp [State.closeRequest]

theorem Accounted.closeRequest {s : State} (h : Accounted s) {q : CurrentRequest} (hq : s.amc.current = some q)
    (k : Completion) :
    Accounted (s.closeRequest q k) ∧ ∀ e, q.request.engine? = some e →
      (s.closeRequest q k).Unasked e ∧ e < 16 ∧ (s.engine e).awaits q.request.op := by
  have hreqs : s.requests = q.request :: s.amc.fifo := by simp [State.requests, hq]
  have hnew := requests_closeRequest s q k
  have heng (d : Nat) : (s.closeRequest q k).engine d = s.engine d := engine_congr (by simp) d
  have hpt (p : Nat) : (s.closeRequest q k).point p = s.point p := point_congr (by simp) p
  obtain ⟨hnodup, hwait⟩ := h.engines.requests
  refine ⟨accounted_of (h.tables.congr (circuit_congr (by simp)) (queuedCircuits_congr (by simp)) (by simp) (by simp)
    (fun n => by rw [node_congr (s := s) (by simp)]) (fun d => by rw [heng]))
    ⟨h.engines.locks.same (fun p => by rw [hpt]) (fun d => by rw [heng]) (fun d hd => by rw [heng]; exact hd),
      h.engines.engines.same (fun d => by rw [heng]) (fun d => by rw [heng])
        (fun d hd => by rw [heng]; exact (h.engines.engines d hd).1),
      h.engines.requests.sublist (by rw [hnew, hreqs]; exact List.sublist_cons_self _ _)
        (fun r _ d op _ ha => by rw [heng]; exact ha)⟩, fun e he => ⟨fun r hr hre => ?_, ?_⟩⟩
  · rw [hnew] at hr
    rw [hreqs, List.filterMap_cons, he] at hnodup
    exact (List.nodup_cons.1 hnodup).1 (List.mem_filterMap.2 ⟨r, hr, hre⟩)
  · exact hwait q.request (by rw [hreqs]; exact List.mem_cons_self) e he

theorem sameAccounts_faultNotice (s : State) (q : CurrentRequest) (k : Completion) :
    s.SameAccounts (s.faultNotice q k) := by
  unfold State.faultNotice
  split
  · exact .refl s
  · exact sameAccounts_offer _ _ _

theorem faultNotice_engines_amc (s : State) (q : CurrentRequest) (k : Completion) :
    (s.faultNotice q k).engines = s.engines ∧ (s.faultNotice q k).amc = s.amc := by
  unfold State.faultNotice; split <;> simp

theorem Accounted.complete {s : State} (h : Accounted s) {q : CurrentRequest} (hq : s.amc.current = some q)
    (k : Completion) :
    Accounted (s.complete q k) := by
  obtain ⟨hclosed, hengine⟩ := h.closeRequest hq k
  have ht := hclosed.same (sameAccounts_faultNotice _ q k)
  obtain ⟨fe, fa⟩ := faultNotice_engines_amc (s.closeRequest q k) q k
  unfold State.complete State.requesterActs
  split
  · rename_i e hr
    obtain ⟨hun, he, haw⟩ := hengine e (by simp [Request.engine?, hr])
    have hun := hun.congr (requests_congr fa)
    have heng : ((s.closeRequest q k).faultNotice q k).engine e = s.engine e := engine_congr (fe.trans (by simp)) e
    split
    · exact ht
    · rename_i x hx
      have haw' : (((s.closeRequest q k).faultNotice q k).engine e).awaits q.request.op := by rw [heng]; exact haw
      split
      · rename_i hop
        rw [hop] at haw'
        exact ht.connectCompleted he hx haw'.1 hun k
      · rename_i hop
        rw [hop] at haw'
        exact ht.loopPortCompleted he hx haw'.1 hun k
      · rename_i hop
        rw [hop] at haw'
        exact ht.disconnectCompleted he hx haw' hun k
      · exact ht
  · exact ht.resetAllCompleted _ k
  · exact ht.resetAllCompleted _ k

/-! ## The answer receiver and the timeout (R159, R183) -/

/-- The matrix link moves, its requests stand. -/
theorem sameAccounts_amc (s : State) (a : Amc)
    (h : (a.current.map CurrentRequest.request).toList ++ a.fifo = s.requests) :
    s.SameAccounts { s with amc := a } := .of_frame rfl rfl rfl rfl rfl rfl h rfl

theorem sameAccounts_countLate (s : State) : s.SameAccounts s.countLate := sameAccounts_amc s _ rfl

theorem sameAccounts_setAnswerRx (s : State) (l : List Byte) :
    s.SameAccounts (s.setAnswerRx l) := sameAccounts_amc s _ rfl

theorem sameAccounts_dropAnswer (s : State) : s.SameAccounts s.dropAnswer := sameAccounts_amc s _ rfl

theorem sameAccounts_noteSent (s : State) : s.SameAccounts s.noteSent :=
  sameAccounts_amc s _ (by cases h : s.amc.current <;> simp [State.requests, h])

theorem Accounted.takeAnswer {s : State} (h : Accounted s) (a : Answer) : Accounted (s.takeAnswer a) := by
  unfold State.takeAnswer
  split
  · exact h.same (sameAccounts_countLate s)
  · rename_i q hq
    split
    · exact h.same (sameAccounts_countLate s)
    · split
      · exact h
      · exact h.complete hq _

theorem Accounted.takeAnswerByte {s : State} (h : Accounted s) (b : Byte) : Accounted (s.takeAnswerByte b) := by
  unfold State.takeAnswerByte
  split
  · split
    · exact h.same (sameAccounts_setAnswerRx s _)
    · exact h
  · dsimp only
    split
    · exact h.same (sameAccounts_setAnswerRx s _)
    · split
      · exact (h.same (sameAccounts_setAnswerRx s _)).takeAnswer _
      · exact h.same (sameAccounts_setAnswerRx s _)

theorem Accounted.answerByte {s : State} (h : Accounted s) (b : Byte) : Accounted (s.answerByte b) := by
  unfold State.answerByte
  split
  · exact (h.same (sameAccounts_dropAnswer s)).takeAnswerByte b
  · exact h.takeAnswerByte b

theorem Accounted.timeOut {s : State} (h : Accounted s) : Accounted s.timeOut := by
  unfold State.timeOut
  split
  · exact h.complete ‹_› _
  · exact h

end Sys2Proof.Machine
end


section
/-! SUPPORT. The events of time and of the lanes keep the accounts (chapters 2 and 3). -/

namespace Sys2Proof.Machine

/-! ## The lanes send and hear -/

/-- The lanes move their generators, detectors and records; the engines stand. -/
theorem sameAccounts_lanes {s t : State} (ht : t = { s with laneTime := t.laneTime, engines := t.engines })
    (he : ∀ d, d < 16 → (s.engine d).SameAccount (t.engine d)) : s.SameAccounts t := by
  refine sameAccounts_engines (by rw [ht]) (by rw [ht]) (by rw [ht]) (by rw [ht]) (by rw [ht]) (by rw [ht]) (by rw [ht])
    (fun d => ?_)
  by_cases hd : d < 16
  · exact he d hd
  · have hout (u : State) : u.engine d = Engine.reset := by simp [State.engine, hd]
    rw [hout, hout]
    exact .refl _

theorem sameAccount_sends (g : Engine) (src : Source) (n : Nat) : g.SameAccount (g.sends src n) :=
  sameAccount_lane g (F := fun l => { l with gen := l.gen.run src n }) (fun _ h => h)

theorem sameAccount_of_listens {g h : Engine} (k : g.Listens h) : g.SameAccount h := by
  obtain ⟨h1, h2, -, -, h5, -, h7, h8, -, -, -, -, -, h14⟩ := k
  exact sameAccount_of_eq h1 h2 h8 h5 h7 (fun ha => h14.trans (search_of_awaits ha))

theorem sameAccounts_moveTo (s : State) (m : Nat) : s.SameAccounts (s.moveTo m) :=
  sameAccounts_lanes (moveTo_eta s m) (fun d hd => by
    rw [moveTo_engine s m d hd]; exact sameAccount_sends (s.engine d) _ _)

theorem sameAccounts_hear (s : State) (e : Nat) (rx : List Bool) (m : Nat) : s.SameAccounts (s.hear e rx m) :=
  (sameAccounts_moveTo s m).trans (sameAccounts_modEngine (s.moveTo m) e (fun g => g.receive rx)
    (fun _ => sameAccount_of_listens (receive_listens rx _)))

theorem sameAccount_sampleLevel (g : Engine) (level : Int) : g.SameAccount (g.sampleLevel level) := by
  rw [sampleLevel_eq]
  exact sameAccount_of_eq rfl rfl rfl rfl rfl search_of_awaits

/-- The tick counts the phase timer and judges the window (R1, R45). -/
theorem sameAccount_tick (g : Engine) (src : Source) (rest : Nat) (inp : LaneInput) :
    g.SameAccount (g.tick src rest inp) :=
  (((sameAccount_sends g src rest).trans (sameAccount_of_listens (receive_listens inp.rx _))).trans
    ((sameAccount_lane _ (F := Lane.judgeWindow) (fun _ h => h)).trans (sameAccount_sampleLevel _ inp.level))).trans
    (sameAccount_modContext _ (contextKept_of_eq (fun _ => rfl) (fun _ => rfl)))

theorem queuedCircuits_tick (s : State) (lanes : Vector LaneInput 16) :
    (s.tick lanes).queuedCircuits = s.queuedCircuits := by
  by_cases hr : s.campaign.state = .running
  · have hq := queuedCircuits_map s PacingClass.tick (fun _ => rfl)
    simpa only [State.tick, State.queuedCircuits, hr, if_true] using hq
  · simp only [State.tick, State.queuedCircuits, hr, if_false]

theorem sameAccounts_tick (s : State) (lanes : Vector LaneInput 16) : s.SameAccounts (s.tick lanes) where
  circuit _ := rfl
  queued := queuedCircuits_tick s lanes
  spot := rfl
  loops := rfl
  occupancy _ := rfl
  owner _ := rfl
  requests := rfl
  engine d := by
    by_cases hd : d < 16
    · rw [tick_engine s lanes ⟨d, hd⟩]; exact sameAccount_tick _ _ _ _
    · have hout (u : State) : u.engine d = Engine.reset := by simp [State.engine, hd]
      rw [hout, hout]; exact .refl _

end Sys2Proof.Machine
end


section
/-! SUPPORT. The moments that move a probe or a calibration from phase to phase keep the accounts (chapters 2 and 3). -/

namespace Sys2Proof.Machine

/-! ## What a step answers -/

/-- The step answers a state whose tables agree. -/
def AnswersAccounted (r : Result) : Prop := ∀ t, r = .next t → Accounted t

theorem answersAccounted_next {t : State} (h : Accounted t) : AnswersAccounted (.next t) := fun _ hu => by
  cases hu; exact h

theorem answersAccounted_event {b : Bool} {s : State} {f : State → State} (h : Accounted s)
    (hf : b = true → Accounted (f s)) :
    AnswersAccounted (event b s f) := by
  refine answersAccounted_next ?_
  split
  · exact hf ‹_›
  · exact h

/-! ## Reading an engine's phase -/

theorem not_awaits_of_limit {g : Engine} (hst : g.state = .calibrating) (h : g.limitUntil ≠ none) (op : MatrixOp) :
    ¬g.awaits op := by
  intro ha
  cases op with
  | connect => have := ha.1; rw [hst] at this; cases this
  | loopPort => obtain ⟨-, -, hl, -⟩ := ha; exact h hl
  | disconnect => have : g.state = .disconnecting := ha; rw [hst] at this; cases this
  | resetAll => exact ha

theorem not_awaits_of_search {g : Engine} (hst : g.state = .calibrating) (h : g.lane.wordDet.search ≠ none)
    (op : MatrixOp) :
    ¬g.awaits op := by
  intro ha
  cases op with
  | connect => have := ha.1; rw [hst] at this; cases this
  | loopPort => obtain ⟨-, -, -, hs⟩ := ha; exact h hs
  | disconnect => have : g.state = .disconnecting := ha; rw [hst] at this; cases this
  | resetAll => exact ha

theorem not_awaits_of_settle {g : Engine} (hst : g.state = .calibrating) (h : g.settleUntil ≠ none) (op : MatrixOp) :
    ¬g.awaits op := by
  intro ha
  cases op with
  | connect => have := ha.1; rw [hst] at this; cases this
  | loopPort => obtain ⟨-, hs, -⟩ := ha; exact h hs
  | disconnect => have : g.state = .disconnecting := ha; rw [hst] at this; cases this
  | resetAll => exact ha

theorem reached_some {t : Option Nat} {now : Nat} (h : reached t now = true) : t ≠ none := by
  rintro rfl; cases h

theorem state_of_phaseDue {g : Engine} {st : EngineState} {due : Context → Nat} (h : g.phaseDue st due = true) :
    g.state = st := by
  simp only [Engine.phaseDue, Bool.and_eq_true, beq_iff_eq] at h
  exact h.1

/-- A calibrating engine has a context of its kind. -/
theorem Accounted.calibration {s : State} (h : Accounted s) {e : Nat} (he : e < 16)
    (hst : (s.engine e).state = .calibrating) :
    ∃ x, (s.engine e).context = some x ∧ x.kind = .calibration := by
  obtain ⟨-, hcal, -⟩ := (h.engines.engines e he).1
  simpa [Engine.kind?, Option.map_eq_some_iff] using hcal hst

theorem partner_lt {e : Nat} (h : e < 16) : partner e < 16 := by unfold partner; split <;> omega

theorem leadOf_lt (s : State) {e : Nat} (h : e < 16) : s.leadOf e < 16 := by
  unfold State.leadOf
  split
  · exact partner_lt h
  · exact h

/-- An outcome is written while the probe flies on. -/
theorem Accounted.writeOutcome {s : State} (h : Accounted s) (e : Nat) {o : ProbeOutcome} (hb : o ≠ .blocked)
    (hs : o ≠ .stuckLoop) :
    Accounted (s.writeOutcome e o) := h.same (sameAccounts_writeOutcome s e o hb hs)

theorem roams_writeOutcome {s : State} {e : Nat} (he : e < 16) (o : ProbeOutcome) (h : (s.engine e).Roams) :
    ((s.writeOutcome e o).engine e).Roams := by
  rw [State.writeOutcome, modEngine_self s e _ he]
  exact ⟨h.inFlight, fun op ha => h.idle op (by cases op <;> exact ha)⟩

/-! ## Settle end (R48, R40, R67) -/

theorem Accounted.startMeasurement {s : State} (h : Accounted s) {e : Nat} (hst : (s.engine e).state = .calibrating)
    (hset : (s.engine e).settleUntil ≠ none) : Accounted (s.startMeasurement e) := by
  refine h.modUnasked (h.engines.unasked (not_awaits_of_settle hst hset)) rfl rfl (fun hs => ?_)
  obtain ⟨h1, h2, h3, -, h5, -, h7⟩ := hs
  exact ⟨h1, h2, h3, fun hn => absurd rfl hn, h5, fun _ => hst, h7⟩

theorem Accounted.settleEnds {s : State} (h : Accounted s) {e : Nat} (he : e < 16)
    (hset : (s.engine e).settleUntil ≠ none) :
    Accounted (s.settleEnds e) := by
  obtain ⟨-, -, -, hstate, -⟩ := (h.engines.engines e he).1
  unfold State.settleEnds
  split
  · exact h
  · rename_i x hx
    rcases hstate hset with hst | hst
    · have hr := roams_of_settled hst hset
      obtain ⟨y, c, n, p, a⟩ := h.aloft he hr.inFlight
      obtain rfl : y = x := by have := a.context; simpa [hx, eq_comm] using this
      split
      · exact absurd ‹_› a.flies.kind
      · exact h.same (sameAccounts_startRelease s hr)
      · split
        · exact h.same (sameAccounts_startCourtesy s hr)
        · exact h.same (sameAccounts_startLoopUp s hr)
      · exact h.same (sameAccounts_startLoopUp s hr)
    · obtain ⟨y, hy, hk⟩ := h.calibration he hst
      obtain rfl : x = y := by simpa [hx] using hy
      rw [hk]
      exact h.startMeasurement hst hset

/-! ## Loop-up, AIS and soak (R52 to R58) -/

theorem Accounted.reportConfirmed {s : State} (h : Accounted s) (n : Nat) : Accounted (s.reportConfirmed n) :=
  h.same (sameAccounts_setNode s n _ (by unfold Node.confirmed; split <;> rfl))

theorem occupancy_noLoop (x : Node) (now : Nat) : (x.noLoop now).occupancy = x.occupancy := by
  unfold Node.noLoop Node.waits
  split_ifs <;> rfl

theorem Accounted.reportNoLoop {s : State} (h : Accounted s) (n : Nat) : Accounted (s.reportNoLoop n) := by
  have hn : Accounted (s.setNode n ((s.node n).noLoop s.now)) :=
    h.same (sameAccounts_setNode s n _ (occupancy_noLoop _ _))
  unfold State.reportNoLoop
  dsimp only
  split
  · exact hn.holdNode n .auto
  · exact hn

theorem Accounted.loopUpExpires {s : State} (h : Accounted s) {e : Nat} (he : e < 16) (hr : (s.engine e).Roams) :
    Accounted (s.loopUpExpires e) := by
  unfold State.loopUpExpires
  split
  · exact h.same (sameAccounts_startRetryWait s hr)
  · refine ((h.writeOutcome e (by decide) (by decide)).reportNoLoop _).same (sameAccounts_startCourtesy _ ?_)
    rw [engine_congr (s := s.writeOutcome e .noLoop) (by simp)]
    exact roams_writeOutcome he _ hr

theorem Accounted.aisEnds {s : State} (h : Accounted s) {l : Nat} (hl : l < 16) (hr : (s.engine l).Roams) :
    Accounted (s.aisEnds l) := by
  have hw := h.writeOutcome l (o := .aisReceived) (by decide) (by decide)
  have hr' := roams_writeOutcome hl .aisReceived hr
  unfold State.aisEnds
  split
  · exact hw.same (sameAccounts_startRelease _ hr')
  · exact hw.same (sameAccounts_startCourtesy _ hr')

theorem roams_of_hearsAis {g : Engine} (h : g.state.hearsAis = true) : g.Roams := by
  unfold EngineState.hearsAis at h
  split at h
  · exact roams_of_state (.inl ‹_›)
  · exact roams_of_state (.inr (.inl ‹_›))
  · exact roams_of_state (.inr (.inr (.inl ‹_›)))
  · cases h

theorem sameAccounts_placeMarker (s : State) (e : Nat) : s.SameAccounts (s.placeMarker e) :=
  (sameAccounts_modEngine s e _ (fun _ => sameAccount_of_eq rfl rfl rfl rfl rfl search_of_awaits)).trans
    (sameAccounts_onLanes _ e (F := fun l => { l with gen := { l.gen with markersDue := l.gen.markersDue + 1 } })
      (fun _ => rfl) (fun _ hl => hl))

/-! ## Sync gain (R31, R38, R61) -/

theorem sameAccounts_takeGain (s : State) (e : Nat) : s.SameAccounts (s.takeGain e) :=
  sameAccounts_modEngine s e _ (fun _ => sameAccount_lane _
    (F := fun l => { l with checker := { l.checker with gain := false } })
    (fun _ hl => hl))

theorem sameAccounts_accumulate (s : State) (e : Nat) : s.SameAccounts (s.accumulate e) :=
  sameAccounts_onLanes s e (F := fun l => { l with meter := { l.meter with accumulating := true } })
    (fun _ => rfl) (fun _ hl => hl)

/-- The search for the delay word begins; the engine waits for no answer. -/
theorem sameAccounts_sendWord (s : State) {e : Nat} (hun : ¬(s.engine e).awaits .loopPort) :
    s.SameAccounts (s.sendWord e) :=
  sameAccounts_modEngine s e _ (fun _ => sameAccount_of_eq rfl rfl rfl rfl rfl (fun k => absurd k hun))

theorem Accounted.syncGained {s : State} (h : Accounted s) (e : Nat) {l : Nat} (hl : l < 16) :
    Accounted (s.syncGained e l) := by
  unfold State.syncGained
  split
  · rename_i hst
    split
    · refine (h.same (sameAccounts_sendWord s (fun k => ?_))).same (sameAccounts_accumulate _ l)
      have := k.1; rw [hst] at this; cases this
    · exact h
  · rename_i hst
    split
    · exact h.releaseAttemptFailed hl (roams_of_state (by simp [hst]))
    · exact h
  · rename_i hst
    split
    · rename_i hlim
      have hno := not_awaits_of_limit hst (Option.isSome_iff_ne_none.1 hlim)
      refine (h.same (sameAccounts_sendWord s (hno _))).same (sameAccounts_modEngine _ l _ (fun _ => ?_))
      rw [State.sendWord, modEngine_self s l _ hl]
      refine ⟨rfl, rfl, Iff.rfl, Iff.rfl, fun hs => ?_, fun op ha => ?_⟩
      · obtain ⟨h1, h2, h3, h4, h5, -, h7⟩ := hs
        exact ⟨h1, h2, h3, h4, h5, fun hn => absurd rfl hn, h7⟩
      · refine absurd ha (not_awaits_of_search ?_ ?_ op)
        · exact hst
        · exact Option.some_ne_none _
    · exact h
  · exact h

/-! ## The delay word (R38, R40) -/

theorem Accounted.wordFound {s : State} (h : Accounted s) {e : Nat} (he : e < 16) : Accounted (s.wordFound e) := by
  unfold State.wordFound
  split
  · exact h
  · rename_i d hd
    dsimp only
    split
    · rename_i hst
      obtain ⟨x, hx, hk⟩ := h.calibration he hst
      refine h.calibrationDisconnect he hx hk (h.engines.unasked (not_awaits_of_search hst (by rw [hd]; simp))) ?_
        (fun j hj => ?_) rfl
      · rw [modEngine_self _ _ _ he, State.measureDelay, modEngine_self s e _ he]
        simp [Engine.modContext, Engine.stopSearch, hx, Context.place]
      · rw [modEngine_ne _ _ _ _ hj]; exact modEngine_ne s e j _ hj
    · rename_i hst
      exact h.same (sameAccounts_modEngine s e _ (fun _ => sameAccount_of_eq rfl rfl rfl rfl rfl (fun k => absurd k.1 hst)))

theorem Accounted.wordLost {s : State} (h : Accounted s) {e : Nat} (he : e < 16)
    (hd : (s.engine e).lane.wordDet.search ≠ none) :
    Accounted (s.wordLost e) := by
  unfold State.wordLost
  dsimp only
  split
  · rename_i hst
    obtain ⟨x, hx, hk⟩ := h.calibration he hst
    exact h.calibrationDisconnect he hx hk (h.engines.unasked (not_awaits_of_search hst hd))
      (by rw [modEngine_self s e _ he]; rfl) (fun j hj => modEngine_ne s e j _ hj) rfl
  · rename_i hst
    exact h.same (sameAccounts_modEngine s e _ (fun _ => sameAccount_of_eq rfl rfl rfl rfl rfl (fun k => absurd k.1 hst)))

theorem Accounted.calibrationLimit {s : State} (h : Accounted s) {e : Nat} (he : e < 16)
    (hl : (s.engine e).limitUntil ≠ none) :
    Accounted (s.startDisconnect e) := by
  obtain ⟨-, -, -, -, -, hlim, -⟩ := (h.engines.engines e he).1
  obtain ⟨x, hx, hk⟩ := h.calibration he (hlim hl)
  exact h.calibrationDisconnect he hx hk (h.engines.unasked (not_awaits_of_limit (hlim hl) hl)) rfl (fun _ _ => rfl) rfl

/-! ## Release (R60 to R63) -/

theorem Accounted.releaseProven {s : State} (h : Accounted s) {e : Nat} (he : e < 16) (hr : (s.engine e).Roams) :
    Accounted (s.releaseProven e) := by
  unfold State.releaseProven
  split
  · exact (h.writeOutcome e (by decide) (by decide)).releaseEnd he (roams_writeOutcome he _ hr)
  · exact h.releaseEnd he hr

/-! ## The steps -/

section
variable {s : State} (h : Accounted s)
include h

theorem settleEnd_accounted (ev : LaneEvent) : AnswersAccounted (execSettleEnd ev s) :=
  answersAccounted_event h (fun hb => by
    simp only [Bool.and_eq_true] at hb
    have hm := sameAccounts_moveTo s ev.moment
    refine (h.same hm).settleEnds ev.engine.isLt ?_
    rw [moveTo_engine s _ _ ev.engine.isLt]
    exact reached_some hb.2)

theorem loopConfirmed_accounted (e : Fin 16) : AnswersAccounted (execLoopConfirmed e s) :=
  answersAccounted_event h (fun hb => by
    have hst : (s.engine e.val).state = .loopUp := by
      simp only [Engine.confirmDue, Bool.and_eq_true, beq_iff_eq] at hb; exact hb.1
    exact (h.reportConfirmed _).same (sameAccounts_startSoak _ (by
      rw [engine_congr (s := s) (by simp)]; exact roams_of_state (.inl hst))))

theorem loopUpTimeout_accounted (e : Fin 16) : AnswersAccounted (execLoopUpTimeout e s) :=
  answersAccounted_event h (fun hb => h.loopUpExpires e.isLt (roams_of_state (.inl (state_of_phaseDue hb))))

theorem retrySpacingEnd_accounted (e : Fin 16) : AnswersAccounted (execRetrySpacingEnd e s) :=
  answersAccounted_event h (fun hb =>
    h.same (sameAccounts_startLoopUp s (roams_of_state (.inr (.inl (state_of_phaseDue hb))))))

theorem aisRaised_accounted (e : Fin 16) : AnswersAccounted (execAisRaised e s) :=
  answersAccounted_event h (fun hb => by
    simp only [State.aisDue, Bool.and_eq_true] at hb
    exact h.aisEnds (leadOf_lt s e.isLt) (roams_of_hearsAis hb.2))

theorem signalDropout_accounted (e : Fin 16) : AnswersAccounted (execSignalDropout e s) :=
  answersAccounted_event h (fun hb => by
    simp only [State.dropoutDue, Bool.and_eq_true, beq_iff_eq] at hb
    have hr : (s.engine (s.leadOf e.val)).Roams := roams_of_state (.inr (.inr (.inl hb.2)))
    exact (h.writeOutcome _ (by decide) (by decide)).same
      (sameAccounts_startRelease _ (roams_writeOutcome (leadOf_lt s e.isLt) _ hr)))

theorem marker_accounted (e : Fin 16) : AnswersAccounted (execMarker e s) :=
  answersAccounted_event h (fun _ => h.same (sameAccounts_placeMarker s e.val))

theorem soakTimeEnd_accounted (e : Fin 16) : AnswersAccounted (execSoakTimeEnd e s) :=
  answersAccounted_event h (fun hb =>
    h.same (sameAccounts_startRelease s (roams_of_state (.inr (.inr (.inl (state_of_phaseDue hb)))))))

theorem checkerSyncGain_accounted (e : Fin 16) (rx : List Bool) (m : Nat) :
    AnswersAccounted (execCheckerSyncGain e rx m s) :=
  answersAccounted_event h (fun _ =>
    ((h.same (sameAccounts_hear s e.val rx m)).same (sameAccounts_takeGain _ e.val)).syncGained e.val (leadOf_lt s e.isLt))

theorem syncLoss_accounted (ev : LaneEvent) (rx : List Bool) : AnswersAccounted (execSyncLoss ev rx s) :=
  answersAccounted_event h (fun _ => h.same (sameAccounts_hear s _ rx _))

theorem delayWordFound_accounted (e : Fin 16) (rx : List Bool) (m : Nat) :
    AnswersAccounted (execDelayWordFound e rx m s) :=
  answersAccounted_event h (fun _ => (h.same (sameAccounts_hear s e.val rx m)).wordFound e.isLt)

theorem delayWordTimeout_accounted (ev : LaneEvent) : AnswersAccounted (execDelayWordTimeout ev s) :=
  answersAccounted_event h (fun hb => by
    simp only [Bool.and_eq_true] at hb
    refine (h.same (sameAccounts_moveTo s ev.moment)).wordLost ev.engine.isLt (fun hnone => ?_)
    have hover := hb.2
    rw [State.wordOverdue, hnone] at hover
    cases hover)

theorem calibrationLimit_accounted (e : Fin 16) : AnswersAccounted (execCalibrationLimit e s) :=
  answersAccounted_event h (fun hb => h.calibrationLimit e.isLt (reached_some hb))

theorem releaseHoldEnd_accounted (e : Fin 16) : AnswersAccounted (execReleaseHoldEnd e s) :=
  answersAccounted_event h (fun hb => by
    simp only [Bool.and_eq_true] at hb
    exact h.same (sameAccounts_startCheck s (state_of_phaseDue hb.2)))

theorem releaseCheckEnd_accounted (e : Fin 16) : AnswersAccounted (execReleaseCheckEnd e s) :=
  answersAccounted_event h (fun hb => by
    have hchk : (s.engine e.val).checkFrom ≠ none := fun hnone => by simp [Engine.checkDue, hnone] at hb
    obtain ⟨-, -, -, -, hstate, -⟩ := (h.engines.engines e.val e.isLt).1
    exact h.releaseProven e.isLt (roams_of_state (by simp [hstate hchk])))

theorem courtesyHoldEnd_accounted (e : Fin 16) : AnswersAccounted (execCourtesyHoldEnd e s) :=
  answersAccounted_event h (fun hb => h.releaseEnd e.isLt (roams_of_state (by simp [state_of_phaseDue hb])))

end

end Sys2Proof.Machine
end


section
/-! SUPPORT. The management link and the commands on the circuit table keep the accounts (R11 to R20, R168 to R178). -/

namespace Sys2Proof.Machine

/-! ## Steps of the link -/

theorem sameAccounts_frameError (s : State) : s.SameAccounts s.frameError := sameAccounts_mli s _

theorem sameAccounts_setReceiver (s : State) (r : Receiver) : s.SameAccounts (s.setReceiver r) := sameAccounts_mli s _

theorem sameAccounts_frameArrived (s : State) (f : Frame) : s.SameAccounts (s.frameArrived f) := by
  unfold State.frameArrived
  split <;> exact sameAccounts_mli s _

theorem sameAccounts_judgeFrame (s : State) (len : Nat) (body got : List Byte) :
    s.SameAccounts (s.judgeFrame len body got) := by
  unfold State.judgeFrame
  dsimp only
  split
  · exact (sameAccounts_setReceiver s _).trans (sameAccounts_frameArrived _ _)
  · exact (sameAccounts_setReceiver s _).trans (sameAccounts_frameError _)

theorem sameAccounts_linkByte (s : State) (b : Byte) : s.SameAccounts (s.linkByte b) := by
  unfold State.linkByte
  split
  · split
    · exact sameAccounts_setReceiver s _
    · exact .refl s
  · split
    · exact sameAccounts_setReceiver s _
    · split
      · exact sameAccounts_setReceiver s _
      · exact (sameAccounts_setReceiver s _).trans (sameAccounts_frameError _)
  · split <;> exact sameAccounts_setReceiver s _
  · split
    · exact sameAccounts_setReceiver s _
    · exact sameAccounts_judgeFrame s _ _ _

theorem sameAccounts_discardFrame (s : State) : s.SameAccounts s.discardFrame :=
  (sameAccounts_mli s _).trans (sameAccounts_frameError _)

theorem sameAccounts_recordLeaves (s : State) : s.SameAccounts s.recordLeaves := by
  unfold State.recordLeaves
  split
  · exact .refl s
  · dsimp only
    split
    · exact (sameAccounts_mli s _).trans (sameAccounts_setSlot _ _ _)
    · exact sameAccounts_mli s _

theorem sameAccounts_placeReady (s : State) : s.SameAccounts s.placeReady := by
  unfold State.placeReady
  split
  · exact .refl s
  · split
    · exact .refl s
    · exact (sameAccounts_mli s _).trans (sameAccounts_place _ _)

section
variable {s : State} (h : Accounted s)
include h

/-- An event that the accounts do not see. -/
theorem answersAccounted_same {b : Bool} {f : State → State} (hf : s.SameAccounts (f s)) :
    AnswersAccounted (event b s f) :=
  answersAccounted_event h (fun _ => h.same hf)

theorem frameReceived_accounted (bytes : List Byte) : AnswersAccounted (execFrameReceived bytes s) :=
  answersAccounted_event h (fun _ =>
    foldl_inv State.linkByte Accounted (fun t b ht => ht.same (sameAccounts_linkByte t b)) bytes s h)

/-! ## A command that is taken (R171, R181) -/

theorem hostCommand_accounted {code : Byte} {tag : Tag} {p : List Byte} {body : Cmd → State → State}
    (hb : ∀ c t, Accounted t → Accounted (body c t)) : AnswersAccounted (hostCommand code tag p s body) := by
  rcases hostCommand_next code tag p s body with heq | ⟨t, ht, heq⟩
  · rw [heq]; exact answersAccounted_next h
  · rw [heq]
    obtain ⟨-, -, -, rfl⟩ := takeFrame_some s t _ ht
    exact answersAccounted_next (hb _ _ (h.same (sameAccounts_mli s _)))

theorem Accounted.reply (c : Cmd) (st : Status) (p : List Byte) (b : Bool) : Accounted (s.reply c st p b) :=
  h.same (sameAccounts_reply s c st p b)

theorem Accounted.refuse (c : Cmd) (st : Status) : Accounted (s.refuse c st) := h.reply c st [] false

theorem Accounted.fixedLength {n : Nat} {p : List Byte} {c : Cmd} {body : State → State} (hb : Accounted (body s)) :
    Accounted (fixedLength n p c body s) := by
  unfold Machine.fixedLength
  split
  · exact hb
  · exact h.refuse c _

theorem unknownCommand_accounted (kind code : Byte) (tag : Tag) (p : List Byte) :
    AnswersAccounted (execUnknownCommand kind code tag p s) := by
  unfold execUnknownCommand
  split
  · exact answersAccounted_next h
  · rename_i t ht
    obtain ⟨-, -, -, rfl⟩ := takeFrame_some s t _ ht
    have ht := h.same (sameAccounts_mli s { s.mli with rxBuffer := s.mli.rxBuffer.tail })
    split
    · exact answersAccounted_next (ht.same (sameAccounts_frameError _))
    · split
      · exact answersAccounted_next h
      · exact answersAccounted_next (ht.refuse _ _)

/-! ## A range of circuits (R11) -/

omit h in
theorem check_of_firstFailure_none {check : Nat → Option Status} {l : List Nat} (hl : firstFailure check l = none) :
    ∀ k ∈ l, check k = none := by
  induction l with
  | nil => exact fun k hk => nomatch hk
  | cons a rest ih =>
    unfold firstFailure at hl
    split at hl
    · cases hl
    · exact List.forall_mem_cons.2 ⟨‹_›, ih hl⟩

theorem Accounted.rangeCommand {first count : Nat} {c : Cmd} {check : State → Nat → Option Status}
    {carryOut : State → State}
    (hb : (∀ k, k < count → check s k = none) → Accounted (carryOut s)) :
    Accounted (rangeCommand first count c check carryOut s) := by
  unfold Machine.rangeCommand
  split
  · exact h.reply _ _ _ _
  · split
    · exact h.reply _ _ _ _
    · rename_i hnone
      exact hb (fun k hk => check_of_firstFailure_none hnone k (List.mem_range.2 hk))

theorem Accounted.rangeBody {p : List Byte} {c : Cmd} {check : State → Nat → Option Status}
    {carryOut : Nat → Nat → State → State}
    (hb : (∀ k, k < rd8 p 2 → check s (rd16 p 0 + k) = none) → Accounted (carryOut (rd16 p 0) (rd8 p 2) s)) :
    Accounted (rangeBody p c check carryOut s) :=
  h.fixedLength (h.rangeCommand hb)

/-- A fold that touches one record after the other: each one is still as it was when its turn comes. -/
theorem Accounted.eachRecord (f : State → Nat → State) (first n : Nat)
    (hne : ∀ t k c, c ≠ first + k → (f t k).circuit c = t.circuit c)
    (hf : ∀ t k, k < n → Accounted t → t.circuit (first + k) = s.circuit (first + k) → Accounted (f t k)) :
    Accounted ((List.range n).foldl f s) := by
  refine (foldl_range_inv f (fun m t => Accounted t ∧ ∀ c, first + m ≤ c → t.circuit c = s.circuit c) n s
    ⟨h, fun _ _ => rfl⟩ ?_).1
  rintro k t hk ⟨ht, hrest⟩
  exact ⟨hf t k hk ht (hrest _ (Nat.le_refl _)), fun c hc => (hne t k c (by omega)).trans (hrest c (by omega))⟩

theorem Accounted.eachCircuit (f : State → Nat → State) (first n : Nat)
    (hne : ∀ t c d, d ≠ c → (f t c).circuit d = t.circuit d)
    (hf : ∀ t k, k < n → Accounted t → t.circuit (first + k) = s.circuit (first + k) → Accounted (f t (first + k))) :
    Accounted ((rangeOf first n).foldl f s) := by
  rw [foldl_rangeOf]
  exact h.eachRecord _ first n (fun t k => hne t (first + k)) hf

/-! ## The records themselves -/

/-- A record is rewritten with the probe status that it had. -/
theorem Accounted.setCircuit (c : Nat) (x : Circuit) (hx : x.Fits) (hst : x.status = (s.circuit c).status) :
    Accounted (s.setCircuit c x) :=
  h.of_tables (h.tables.setCircuit c x hx hst) rfl rfl rfl

omit h in
theorem fits_vacant : Circuit.vacant.Fits := ⟨fun _ => rfl, by decide, by decide⟩

theorem Accounted.withdraw_queued (r : NotTested) {c : Nat} (hq : (s.circuit c).status = .queued) :
    Accounted (s.withdraw r c) :=
  h.withdraw r (h.tables.mem_of_status hq)

omit h in
theorem status_withdraw {r : NotTested} {c : Nat} (hq : (s.circuit c).status = .queued) :
    ((s.withdraw r c).circuit c).status = .idle := by
  have hlt : c < 2048 := lt_of_status (by rw [hq]; decide)
  rw [circuit_withdraw, if_pos ⟨rfl, hlt⟩]

omit h in
theorem idle_or_queued_of_retireCheck {c : Nat} (hc : retireCheck s c = none) :
    (s.circuit c).status = .idle ∨ (s.circuit c).status = .queued := by
  by_contra hno
  rw [not_or] at hno
  rw [retireCheck_busy hno.1 hno.2] at hc
  cases hc

theorem Accounted.retireOne {c : Nat} (hc : retireCheck s c = none) : Accounted (s.retireOne c) := by
  unfold State.retireOne
  split
  · rename_i hq
    exact (h.withdraw_queued .withdrawn hq).setCircuit c _ fits_vacant (status_withdraw hq).symm
  · rename_i hq
    exact h.setCircuit c _ fits_vacant ((idle_or_queued_of_retireCheck hc).resolve_right hq).symm

theorem Accounted.suspendOne (c : Nat) : Accounted (s.suspendOne c) := by
  obtain ⟨-, hcls, hpt⟩ := h.tables.record c
  have ht := h.setCircuit c { s.circuit c with defState := .suspended } ⟨nofun, hcls, hpt⟩ rfl
  unfold State.suspendOne
  dsimp only
  split
  · rename_i hq
    refine ht.withdraw_queued .withdrawn ?_
    rw [circuit_setCircuit_self _ _ _ (lt_of_status (by rw [hq]; decide))]
    exact hq
  · exact ht

theorem Accounted.resumeOne (c : Nat) : Accounted (s.resumeOne c) := by
  obtain ⟨-, hcls, hpt⟩ := h.tables.record c
  exact h.setCircuit c _ ⟨nofun, hcls, hpt⟩ rfl

theorem Accounted.clearBaselines (c : Nat) : Accounted (s.clearBaselines c) := by
  obtain ⟨hv, hcls, hpt⟩ := h.tables.record c
  exact h.setCircuit c _ ⟨hv, hcls, hpt⟩ rfl

/-- A QUEUED circuit after its redefinition (R15). -/
theorem Accounted.requeue {c : Nat} (old : Nat) (hq : (s.circuit c).status = .queued) :
    Accounted (s.requeue c old) := by
  have hmem := h.tables.mem_of_status hq
  unfold State.requeue
  dsimp only
  split
  · exact h.withdraw .held hmem
  · split
    · exact h
    · have ht := sameHeld_requeue h.tables hmem (h.tables.record c).cls
      exact (h.of_tables (t := (s.dequeue c).enqueue _ c) ht rfl rfl rfl).same (sameAccounts_startRun _)

omit h in
theorem redefined_status {r : Circuit} (hr : r.Fits) (d : Definition) : (r.redefined d).status = r.status := by
  unfold Circuit.redefined
  split
  · exact (hr.vacant ‹_›).symm
  · rfl

omit h in
theorem redefined_defState (r : Circuit) (d : Definition) : (r.redefined d).defState ≠ .vacant := by
  unfold Circuit.redefined
  split
  · exact nofun
  · assumption

theorem Accounted.defineOne (c : Nat) {d : Definition} (hcls : d.pacingClass < 4) (hpt : d.accessPoint < 256) :
    Accounted (s.defineOne c d) := by
  have hst := redefined_status (h.tables.record c) d
  have hdef := redefined_definition (s.circuit c) d
  have ht := h.setCircuit c ((s.circuit c).redefined d)
    ⟨fun hv => absurd hv (redefined_defState _ _), by rw [hdef]; exact hcls, by rw [hdef]; exact hpt⟩ hst
  unfold State.defineOne
  dsimp only
  split
  · rename_i hq
    refine ht.requeue _ ?_
    rw [circuit_setCircuit_self _ _ _ (lt_of_status (by rw [hq]; decide)), hst]
    exact hq
  · exact ht

/-! ## The commands (R12 to R20) -/

theorem Accounted.carryRetire (c : Cmd) {first count : Nat} (hc : ∀ k, k < count → retireCheck s (first + k) = none) :
    Accounted (carryRetire c first count s) := by
  refine (h.reply c .ok _ false).eachCircuit _ first count retireOne_withdraws.ne (fun t k hk ht heq => ht.retireOne ?_)
  have hsame : t.circuit (first + k) = s.circuit (first + k) := heq.trans (circuit_congr (by simp) _)
  rw [retireCheck, hsame]
  exact hc k hk

omit h in
theorem sound_of_defineCheck {d : CarriedDef} {st : ProbeStatus} (hc : defineCheck d st = none) : d.sound = true := by
  by_contra hs
  rw [Bool.not_eq_true] at hs
  simp [defineCheck, hs] at hc

theorem Accounted.carryDefine (p : List Byte) (c : Cmd)
    (hc : ∀ k, k < rd8 p 2 → defineCheck (defAt p k) (s.circuit (rd16 p 0 + k)).status = none) :
    Accounted (carryDefine p c s) := by
  refine (h.reply c .ok _ _).eachRecord _ (rd16 p 0) (rd8 p 2) (fun t k d hd => defineOne_ne _ _ _ _ hd) (fun t k hk ht _ =>
    ht.defineOne _ (pacingClass_of_sound (sound_of_defineCheck (hc k hk))) (BitVec.isLt _))

theorem circuitDefine_accounted (tag : Tag) (p : List Byte) : AnswersAccounted (execCircuitDefine tag p s) :=
  hostCommand_accounted h (fun c t ht => by
    unfold circuitDefineBody
    split
    · exact ht.rangeCommand (ht.carryDefine p c)
    · exact ht.refuse c _)

theorem circuitReport_accounted (tag : Tag) (p : List Byte) : AnswersAccounted (execCircuitReport tag p s) :=
  hostCommand_accounted h (fun _ _ ht => ht.rangeBody (fun _ => ht.reply _ _ _ _))

theorem circuitRetire_accounted (tag : Tag) (p : List Byte) : AnswersAccounted (execCircuitRetire tag p s) :=
  hostCommand_accounted h (fun c _ ht => ht.rangeBody (ht.carryRetire c))

theorem circuitSuspend_accounted (tag : Tag) (p : List Byte) : AnswersAccounted (execCircuitSuspend tag p s) :=
  hostCommand_accounted h (fun c _ ht => ht.rangeBody (fun _ =>
    foldl_inv State.suspendOne Accounted (fun _ k hu => hu.suspendOne k) _ _ (ht.reply c _ _ _)))

theorem circuitResume_accounted (tag : Tag) (p : List Byte) : AnswersAccounted (execCircuitResume tag p s) :=
  hostCommand_accounted h (fun c _ ht => ht.rangeBody (fun _ =>
    foldl_inv State.resumeOne Accounted (fun _ k hu => hu.resumeOne k) _ _ (ht.reply c _ _ _)))

theorem circuitBaselineClear_accounted (tag : Tag) (p : List Byte) :
    AnswersAccounted (execCircuitBaselineClear tag p s) :=
  hostCommand_accounted h (fun c _ ht => ht.rangeBody (fun _ =>
    foldl_inv State.clearBaselines Accounted (fun _ k hu => hu.clearBaselines k) _ _ (ht.reply c _ _ _)))

end

end Sys2Proof.Machine
end


section
/-! SUPPORT. The commands on engines, points, nodes, open loops and the matrix keep the accounts (R27 to R42, R96 to R101,
R142, R143, R150 to R154, R162, R165). -/

namespace Sys2Proof.Machine

section
variable {s : State} (h : Accounted s)
include h

/-! ## The engine commands -/

omit h in
/-- An indication that a disable waits is no account. -/
theorem sameAccounts_setDisable (s : State) (e : Nat) (b : Bool) :
    s.SameAccounts (s.setEngine e { s.engine e with disablePending := b }) :=
  sameAccounts_modEngine s e (fun g => { g with disablePending := b }) (fun _ =>
    sameAccount_of_eq rfl rfl rfl rfl rfl search_of_awaits)

/-- An engine without work takes another resting state. -/
theorem Accounted.setEngine_atRest {e : Nat} (he : e < 16)
    (hst : (s.engine e).state = .idle ∨ (s.engine e).state = .offline)
    {g : Engine} (hg : g.AtRest) (hq : g.state ≠ .quarantined) : Accounted (s.setEngine e g) := by
  have hrest := atRest_of_sound (h.engines.engines e he).1 (hst.imp_right .inl)
  refine h.same (sameAccounts_modEngine s e (fun _ => g) (fun _ => sameAccount_of_atRest hrest hg (iff_of_false hq ?_)))
  rcases hst with hst | hst <;> simp [hst]

theorem Accounted.removeCalibration (x : SpotEntry) : Accounted (s.removeCalibration x) :=
  h.of_tables (h.tables.removeCalibration x) (by simp) (by simp) (by simp)

theorem Accounted.enable {e : Nat} (he : e < 16) : Accounted (s.enable e) := by
  unfold State.enable
  split
  · exact (h.setEngine_atRest he (.inr ‹_›) (atRest_resting _ (.inl rfl)) nofun).same (sameAccounts_startRun _)
  · exact h.same (sameAccounts_setDisable s e false)

theorem Accounted.disable {e : Nat} (he : e < 16) : Accounted (s.disable e) := by
  unfold State.disable
  split
  · have ht := h.setEngine_atRest he (.inl ‹_›) (g := { (s.engine e).resting .offline with disablePending := false })
      ⟨rfl, .inr (.inl rfl), rfl, rfl, rfl⟩ nofun
    exact foldl_inv State.removeCalibration Accounted (fun _ x hu => hu.removeCalibration x) _ _ ht
  · exact h
  · exact h.same (sameAccounts_setDisable s e true)

/-- An entry that is no probe of a circuit joins the spot queue. -/
theorem Accounted.joinSpot_other (x : SpotEntry) (hx : ∀ c, x.probes c = false)
    (hpin : ∀ e i, x = .calibration e i → e < 16) :
    Accounted (s.joinSpot x) :=
  h.of_tables (h.tables.joinSpot_other x hx hpin) (by simp) (by simp) (by simp)

theorem Accounted.queueCalibration (c : Cmd) {e : Nat} (he : e < 16) : Accounted (s.queueCalibration c e) := by
  unfold State.queueCalibration
  split
  · exact (h.same (sameAccounts_takeSlot s _ _ _)).joinSpot_other _ (fun _ => rfl) (fun _ _ heq => by cases heq; exact he)
  · exact h

theorem Accounted.engineCommand {p : List Byte} {c : Cmd} {body : Nat → State → State}
    (hb : ∀ e, e < 16 → Accounted (body e s)) : Accounted (engineCommand p c body s) := by
  refine h.fixedLength ?_
  split
  · exact hb _ (by omega)
  · exact h.refuse c _

theorem engineEnable_accounted (tag : Tag) (p : List Byte) : AnswersAccounted (execEngineEnable tag p s) :=
  hostCommand_accounted h (fun c _ ht => ht.engineCommand (fun _ he => (ht.reply c _ _ _).enable he))

theorem engineDisable_accounted (tag : Tag) (p : List Byte) : AnswersAccounted (execEngineDisable tag p s) :=
  hostCommand_accounted h (fun c _ ht => ht.engineCommand (fun _ he => (ht.reply c _ _ _).disable he))

theorem engineCalibrate_accounted (tag : Tag) (p : List Byte) : AnswersAccounted (execEngineCalibrate tag p s) :=
  hostCommand_accounted h (fun c _ ht => ht.engineCommand (fun _ he => by
    unfold engineCalibrateBody
    split
    · exact ht.refuse c _
    · exact ht.queueCalibration c he))

theorem engineReport_accounted (tag : Tag) (p : List Byte) : AnswersAccounted (execEngineReport tag p s) :=
  hostCommand_accounted h (fun c _ ht => ht.engineCommand (fun _ _ => ht.reply c _ _ _))

/-! ## A command that answers with a report -/

theorem report_accounted {code : Byte} {tag : Tag} {p : List Byte} (report : State → List Byte) :
    AnswersAccounted (hostCommand code tag p s (fun c => fixedLength 0 p c (fun t => t.reply c .ok (report t) false))) :=
  hostCommand_accounted h (fun c _ ht => ht.fixedLength (ht.reply c _ _ _))

/-! ## Points and nodes -/

omit h in
theorem sameAccounts_setService (s : State) (p : Nat) (v : Service) : s.SameAccounts (s.setService p v) :=
  (sameAccounts_setPoint s p { s.point p with service := v } rfl).trans (sameAccounts_startRunIf _ _)

theorem pointSet_accounted (tag : Tag) (p : List Byte) : AnswersAccounted (execPointSet tag p s) :=
  hostCommand_accounted h (fun c t ht => ht.fixedLength (by
    unfold pointSetBody
    split
    · exact (ht.reply c _ _ _).same (sameAccounts_setService _ _ _)
    · exact ht.refuse c _))

theorem nodeSet_accounted (tag : Tag) (p : List Byte) : AnswersAccounted (execNodeSet tag p s) :=
  hostCommand_accounted h (fun c t ht => ht.fixedLength (by
    unfold nodeSetBody
    dsimp only
    split
    · exact ht.refuse c _
    · refine Accounted.same ?_ (sameAccounts_startRun _)
      exact (ht.reply c _ _ _).same (sameAccounts_setNode _ _ _ rfl)))

theorem Accounted.nodeCommand {p : List Byte} {c : Cmd} {body : Nat → State → State} (hb : ∀ n, Accounted (body n s)) :
    Accounted (nodeCommand p c body s) := by
  refine h.fixedLength ?_
  split
  · exact hb _
  · exact h.refuse c _

theorem nodeHold_accounted (tag : Tag) (p : List Byte) : AnswersAccounted (execNodeHold tag p s) :=
  hostCommand_accounted h (fun c t ht => ht.nodeCommand (fun n => by
    unfold nodeHoldBody
    split
    · exact ht.reply c _ _ _
    · exact (ht.reply c _ _ _).holdNode n _))

theorem nodeRelease_accounted (tag : Tag) (p : List Byte) : AnswersAccounted (execNodeRelease tag p s) :=
  hostCommand_accounted h (fun c t ht => ht.nodeCommand (fun n =>
    ((ht.reply c _ _ _).same (sameAccounts_setNode _ n (t.node n).released rfl)).same (sameAccounts_startRun _)))

/-! ## Open loops -/

theorem releaseRetry_accounted (tag : Tag) (p : List Byte) : AnswersAccounted (execReleaseRetry tag p s) :=
  hostCommand_accounted h (fun c t ht => ht.fixedLength (by
    unfold releaseRetryBody
    split
    · exact ht.refuse c _
    · exact (ht.reply c _ _ _).joinSpot_other _ (fun _ => rfl) nofun))

omit h in
theorem circuit_clearLoop (s : State) (c d : Nat) (o : OpenLoop) : (s.clearLoop c o).circuit d =
    if c = d ∧ c < 2048 then { s.circuit c with status := .idle, last := some manualVerdict } else s.circuit d :=
  circuit_setCircuit _ c d _

omit h in
theorem TablesFit.clearLoop (h : TablesFit s) {c : Nat} {o : OpenLoop} (ho : s.openLoopOf c = some o) :
    TablesFit (s.clearLoop c o) := by
  obtain ⟨-, -, hst, hcount⟩ := h.standing ho
  have hlt : c < 2048 := lt_of_status (by rw [hst]; decide)
  have hself := circuit_clearLoop s c c o
  simp only [hlt, and_self, if_true] at hself
  have hrec (d : Nat) (hd : d ≠ c) : (s.clearLoop c o).circuit d = s.circuit d := by
    rw [circuit_clearLoop, if_neg (fun hc => hd hc.1.symm)]
  have hspot (d : Nat) : (s.clearLoop c o).spot.countP (fun y => y.probes d) = s.spot.countP (fun y => y.probes d) :=
    (countP_leaveSpot s (.releaseOnly c) d).trans (by simp [SpotEntry.probes])
  have hloops : (s.clearLoop c o).openLoops = s.openLoops.filter (fun q => q.circuit != c) := rfl
  have hheld := h.held c
  rw [hst] at hheld
  refine ⟨fun d => ?_, fun d => ?_, fun m hm => ?_, ?_, fun q hq => h.loopPoint q (List.mem_of_mem_filter hq),
    fun e i hi => h.pins e i (List.mem_of_mem_erase hi)⟩
  · by_cases hd : d = c
    · subst hd
      rw [hself]
      exact ⟨hheld.queued, by rw [hspot]; exact hheld.spot, hheld.active, by rw [hloops, countP_loops_left, if_pos rfl]; rfl⟩
    · rw [hrec d hd]
      exact (h.held d).congr rfl (hspot d) (fun _ => rfl) (by rw [hloops, countP_loops_left, if_neg hd])
  · by_cases hd : d = c
    · subst hd
      obtain ⟨-, hcls, hpt⟩ := h.record d
      rw [hself]; exact ⟨fun _ => rfl, hcls, hpt⟩
    · rw [hrec d hd]; exact h.record d
  · have hocc : ((s.clearLoop c o).node m).occupancy = (s.node m).occupancy - if o.farNode = m then 1 else 0 :=
      occupancy_returnSlot { s.leaveSpot (.releaseOnly c) with openLoops := s.openLoops.filter (fun q => q.circuit != c) }
        o.farNode m hm
    have hat := hcount (fun q => q.farNode == m)
    rw [hocc, h.occupancy m hm, State.openLoopsAt, State.openLoopsAt, hloops, hat]
    change _ = s.aloft _ + _
    simp only [Bool.toNat, Bool.cond_eq_ite, beq_iff_eq]
    omega
  · have hroom := h.room
    have hle := List.length_filter_le (fun q : OpenLoop => q.circuit != c) s.openLoops
    rw [hloops]
    change s.aloft _ + _ ≤ 64
    omega

theorem openLoopClear_accounted (tag : Tag) (p : List Byte) : AnswersAccounted (execOpenLoopClear tag p s) :=
  hostCommand_accounted h (fun c t ht => ht.fixedLength (by
    unfold openLoopClearBody
    split
    · exact ht.refuse c _
    · split
      · exact ht
      · rename_i o ho
        have hr := ht.reply c .ok (o.block (t.retryWaits (rd16 p 0)) (timeField o.timeEntered)) false
        have hcleared := hr.of_tables (hr.tables.clearLoop (c := rd16 p 0) ho) rfl rfl rfl
        exact hcleared.same (sameAccounts_offer _ _ _)))

/-! ## The matrix -/

theorem matrixSet_accounted (tag : Tag) (p : List Byte) : AnswersAccounted (execMatrixSet tag p s) :=
  hostCommand_accounted h (fun c _ ht => ht.fixedLength ((ht.reply c _ _ _).same (sameAccounts_amc _ _ rfl)))

/-- A request that no engine waits for. -/
theorem Accounted.issueAlone {r : Request} (hr : r.engine? = none) : Accounted (s.issue r) := by
  have hreq := requests_issue s r
  have heng : ∀ e, (s.issue r).engine e = s.engine e := engine_congr (by simp)
  have hcirc : ∀ c, (s.issue r).circuit c = s.circuit c := circuit_congr (by simp)
  have hnode : ∀ n, (s.issue r).node n = s.node n := node_congr (by simp)
  have hpoint : ∀ p, (s.issue r).point p = s.point p := point_congr (by simp)
  refine accounted_of (h.tables.congr hcirc (queuedCircuits_congr (by simp)) (by simp) (by simp) (fun n => by rw [hnode])
    (fun e => by rw [heng])) ⟨?_, ?_, ?_⟩
  · exact h.engines.locks.same (fun p => by rw [hpoint]) (fun e => by rw [heng]) (fun e he => by rw [heng]; exact he)
  · exact h.engines.engines.same (fun e => by rw [heng]) (fun e => by rw [heng])
      (fun e he => by rw [heng]; exact (h.engines.engines e he).1)
  · obtain ⟨hn, ha⟩ := h.engines.requests
    refine ⟨by rw [hreq]; simpa [hr] using hn, fun q hq e he => ?_⟩
    rw [hreq, List.mem_append, List.mem_singleton] at hq
    rw [heng]
    rcases hq with hq | rfl
    · exact ha q hq e he
    · rw [hr] at he; cases he

theorem matrixResync_accounted (tag : Tag) (p : List Byte) : AnswersAccounted (execMatrixResync tag p s) :=
  hostCommand_accounted h (fun c t ht => ht.fixedLength (by
    unfold matrixResyncBody
    split
    · exact ht.refuse c _
    · split
      · exact ht.refuse c _
      · exact (ht.same (sameAccounts_takeSlot t _ _ _)).issueAlone rfl))

theorem matrixAnswer_accounted (bytes : List Byte) : AnswersAccounted (execMatrixAnswer bytes s) :=
  answersAccounted_next (foldl_inv State.answerByte Accounted (fun _ b ht => ht.answerByte b) bytes s h)

end

end Sys2Proof.Machine
end


section
/-! SUPPORT. A soft reset leaves tables that name nothing (R177, R44, R21, R98, R134, R157). -/

namespace Sys2Proof.Machine

/-- Every block as the soft reset leaves it, before the RESET_ALL is issued. -/
def State.emptied (s : State) (loops : Nat) : State :=
  { s with
    circuits := s.circuits.map Circuit.softReset
    engines := s.engines.map Engine.softReset
    priorityTurn := 1
    standardTurn := 3
    points := s.points.map Point.softReset
    nodes := s.nodes.map Node.softReset
    runDue := true
    campaign := s.campaign.softReset
    classes := s.classes.map PacingClass.softReset
    spot := []
    openLoops := []
    amc := s.amc.softReset
    mli := s.mli.softReset loops }

theorem softReset_eq (s : State) (loops : Nat) : s.softReset loops = (s.emptied loops).issue Request.ofReset := rfl

theorem circuit_emptied (s : State) (loops c : Nat) : (s.emptied loops).circuit c = (s.circuit c).softReset := by
  by_cases hc : c < 2048
  · simp [State.circuit, State.emptied, hc]
  · simp [State.circuit, State.emptied, hc, Circuit.softReset, Circuit.vacant]

theorem engine_emptied (s : State) (loops : Nat) {e : Nat} (he : e < 16) :
    (s.emptied loops).engine e = (s.engine e).softReset := by
  simp [State.engine, State.emptied, he]

theorem occupancy_emptied (s : State) (loops n : Nat) : ((s.emptied loops).node n).occupancy = 0 := by
  by_cases hn : n < 64
  · simp [State.node, State.emptied, hn, Node.softReset, Node.reset]
  · simp [State.node, hn, Node.reset]

theorem owner_emptied (s : State) (loops p : Nat) : ((s.emptied loops).point p).owner = none := by
  by_cases hp : p < 256
  · simp [State.point, State.emptied, hp, Point.softReset]
  · simp [State.point, hp, Point.reset]

theorem queuedCircuits_emptied (s : State) (loops : Nat) : (s.emptied loops).queuedCircuits = [] := by
  simp [State.queuedCircuits, State.emptied, PacingClass.softReset]

theorem atRest_softReset (g : Engine) : g.softReset.AtRest := by
  refine ⟨rfl, ?_, rfl, rfl, rfl⟩
  change g.stateAfterReset = _ ∨ g.stateAfterReset = _ ∨ _
  unfold Engine.stateAfterReset
  split
  · exact .inr (.inl rfl)
  · exact .inl rfl

theorem aloft_emptied (s : State) (loops : Nat) (P : Flight → Bool) : (s.emptied loops).aloft P = 0 := by
  refine List.countP_eq_zero.2 (fun e he => ?_)
  rw [engine_emptied s loops (List.mem_range.1 he), (atRest_softReset _).flight]
  simp

theorem Accounted.emptied {s : State} (h : Accounted s) (loops : Nat) : Accounted (s.emptied loops) := by
  have hlow {e : Nat} (he : e < 16) := engine_emptied s loops he
  have hrest {e : Nat} (he : e < 16) : ((s.emptied loops).engine e).AtRest := by rw [hlow he]; exact atRest_softReset _
  refine accounted_of ⟨fun c => ?_, fun c => ?_, fun n _ => ?_, ?_, nofun, nofun⟩
    ⟨⟨fun p e _ hp => ?_, fun e x he hx _ => ?_⟩, fun e he => ⟨(hrest he).sound, fun hw => ?_, fun hf => ?_⟩, ?_, nofun⟩
  · rw [circuit_emptied]
    exact ⟨by rw [queuedCircuits_emptied]; rfl, by rw [aloft_emptied]; rfl, by rw [aloft_emptied]; rfl, rfl⟩
  · rw [circuit_emptied]
    obtain ⟨-, hcls, hpt⟩ := h.tables.record c
    exact ⟨fun _ => rfl, hcls, hpt⟩
  · rw [occupancy_emptied, aloft_emptied]; rfl
  · rw [aloft_emptied]; exact Nat.zero_le _
  · rw [owner_emptied] at hp; cases hp
  · rw [(hrest he).context] at hx; cases hx
  · rw [wide_of_context_none (hrest he).context] at hw; cases hw
  · exact absurd hf (hrest he).not_following
  · exact List.nodup_nil

theorem sameAccounts_abandon (s : State) (d : DeferredSlot) (i : Nat) : s.SameAccounts (s.abandon d i) := by
  unfold State.abandon
  split <;> exact sameAccounts_answer s i _ _ _

theorem Accounted.abandonAll {s : State} (h : Accounted s) : Accounted s.abandonAll := by
  unfold State.abandonAll
  exact foldl_inv _ Accounted (fun u q hu => hu.same (sameAccounts_abandon u q.1 q.2)) _ s h

theorem deviceReset_accounted {s : State} (h : Accounted s) (tag : Tag) (p : List Byte) :
    AnswersAccounted (execDeviceReset tag p s) :=
  hostCommand_accounted h (fun c t ht => ht.fixedLength (by
    unfold deviceResetBody
    split
    · exact ht.refuse c _
    · rw [softReset_eq]
      exact ((ht.reply c _ _ _).abandonAll.emptied _).issueAlone rfl))

end Sys2Proof.Machine
end


section
/-! SUPPORT. The campaign's commands and clocks keep the accounts (R115 to R132, R139, R71). -/

namespace Sys2Proof.Machine

/-! ## The picked circuits (R116) -/

theorem nodup_filtered (s : State) (x : Selection) : (s.filtered x).Nodup := by
  have hall : (s.circuits.toList.zipIdx.map Prod.snd).Nodup := by
    rw [List.zipIdx_map_snd]; exact List.nodup_range'
  exact hall.sublist (List.filter_sublist.map _)

theorem defined_of_filtered {s : State} {x : Selection} {c : Nat} (h : c ∈ s.filtered x) :
    c < 2048 ∧ (s.circuit c).defState = .defined := by
  obtain ⟨⟨r, d⟩, hp, rfl⟩ := List.mem_map.1 h
  obtain ⟨hmem, hpass⟩ := List.mem_filter.1 hp
  have hget := List.mem_zipIdx' hmem
  obtain ⟨hlt, hr⟩ := hget
  have hlt : d < 2048 := by simpa using hlt
  simp only [Bool.and_eq_true, beq_iff_eq] at hpass
  refine ⟨hlt, ?_⟩
  rw [State.circuit]
  simpa [hlt, hr] using hpass.1

theorem nodup_toQueue (s : State) (x : Selection) : (s.toQueue x).Nodup := ((nodup_filtered s x).filter _).filter _

/-- What a circuit is that joins a class queue. -/
def State.queueable (s : State) (c : Nat) : Prop :=
  c < 2048 ∧ (s.circuit c).defState = .defined ∧ (s.circuit c).status = .idle

theorem queueable_of_toQueue {s : State} {x : Selection} {c : Nat} (h : c ∈ s.toQueue x) : s.queueable c := by
  obtain ⟨hpicked, -⟩ := List.mem_filter.1 h
  obtain ⟨hfil, hidle⟩ := List.mem_filter.1 hpicked
  obtain ⟨hlt, hdef⟩ := defined_of_filtered hfil
  exact ⟨hlt, hdef, by simpa using hidle⟩

theorem circuit_queueCircuit_ne (s : State) {c d : Nat} (h : d ≠ c) : (s.queueCircuit c).circuit d = s.circuit d := by
  refine (circuit_setStatus s c d .queued).trans (if_neg ?_)
  exact fun hc => h hc.1.symm

section
variable {s : State} (h : Accounted s)
include h

theorem Accounted.queueCircuit {c : Nat} (hc : s.queueable c) : Accounted (s.queueCircuit c) := by
  obtain ⟨hlt, hdef, hidle⟩ := hc
  exact h.of_tables (h.tables.queueCircuit hlt hidle (by simp [hdef])) rfl rfl rfl

omit h in
theorem Accounted.queueAll {l : List Nat} (hn : l.Nodup) {s : State} (h : Accounted s) (hl : ∀ c ∈ l, s.queueable c) :
    Accounted (l.foldl State.queueCircuit s) := by
  induction l generalizing s with
  | nil => exact h
  | cons c rest ih =>
    obtain ⟨hc, hrest⟩ := List.nodup_cons.1 hn
    refine ih hrest (h.queueCircuit (hl c (by simp))) (fun d hd => ?_)
    have hne : d ≠ c := by rintro rfl; exact hc hd
    rw [State.queueable, circuit_queueCircuit_ne s hne]
    exact hl d (by simp [hd])

/-! ## CAMPAIGN_START and CAMPAIGN_ADD -/

omit h in
theorem sameAccounts_fillCredits (s : State) :
    s.SameAccounts s.fillCredits := sameAccounts_mapClasses s _ (fun _ => rfl)

theorem Accounted.carryStart (c : Cmd) (kind : CampaignKind) (carried : Params) (x : Selection) :
    Accounted (carryStart c kind carried x s) := by
  have hsame (p : List Byte) (b : Bool) (f : Campaign → Campaign) : s.SameAccounts ((s.reply c .ok p b).modCampaign f) :=
    (sameAccounts_reply s c .ok p b).trans (sameAccounts_modCampaign _ f)
  have hfilled (p : List Byte) (b : Bool) (f g : Campaign → Campaign) : Accounted
      ((((s.toQueue x).foldl State.queueCircuit ((s.reply c .ok p b).modCampaign f)).fillCredits).modCampaign g) := by
    have hq := Accounted.queueAll (nodup_toQueue s x) (h.same (hsame p b f)) (fun d hd => by
      rw [State.queueable, (hsame p b f).circuit]; exact queueable_of_toQueue hd)
    exact (hq.same (sameAccounts_fillCredits _)).same (sameAccounts_modCampaign _ _)
  unfold Machine.carryStart
  dsimp only
  refine Accounted.same ?_ (sameAccounts_startRun _)
  split
  · exact (hfilled _ _ _ _).same (sameAccounts_endCampaign _)
  · exact hfilled _ _ _ _

theorem campaignStart_accounted (tag : Tag) (p : List Byte) : AnswersAccounted (execCampaignStart tag p s) :=
  hostCommand_accounted h (fun c t ht => by
    unfold campaignStartBody
    split
    · exact ht.refuse c _
    · split
      · exact ht.refuse c _
      · split
        · exact ht.carryStart c _ _ _
        · exact ht)

omit h in
theorem queueable_of_appended {c : Nat} (hlt : c < 2048) (hc : s.disposition c = .appended) : s.queueable c := by
  unfold State.disposition at hc
  split at hc
  case h_7 hdef hidle => exact ⟨hlt, hdef, hidle⟩
  all_goals cases hc

theorem Accounted.addOne {c : Nat} (hlt : c < 2048) : Accounted (s.addOne c) := by
  have ht := h.same (sameAccounts_modCampaign s _ : s.SameAccounts (s.modSummary (fun m => m.countAdd (s.disposition c))))
  unfold State.addOne
  dsimp only
  split
  · rename_i hc
    exact (ht.queueCircuit (queueable_of_appended hlt hc)).same (sameAccounts_startRun _)
  · exact ht

theorem campaignAdd_accounted (tag : Tag) (p : List Byte) : AnswersAccounted (execCampaignAdd tag p s) :=
  hostCommand_accounted h (fun c t ht => by
    unfold campaignAddBody
    split
    · exact ht.refuse c _
    · split
      · exact ht.refuse c _
      · rename_i hfields
        split
        · exact ht.refuse c _
        · refine List.foldlRecOn (motive := Accounted) _ _ (ht.reply c _ _ _) (fun u hu n hn => hu.addOne ?_)
          simp only [not_or, List.any_eq_true, decide_eq_true_eq, not_exists, not_and] at hfields
          have := hfields.2.2 n hn
          omega)

/-! ## Pause, resume, cancel, deadline -/

theorem Accounted.campaignCommand {p : List Byte} {c : Cmd} {body : State → State} (hb : Accounted (body s)) :
    Accounted (campaignCommand p c body s) := by
  refine h.fixedLength ?_
  split
  · exact h.refuse c _
  · exact hb

theorem campaignPause_accounted (tag : Tag) (p : List Byte) : AnswersAccounted (execCampaignPause tag p s) :=
  hostCommand_accounted h (fun c _ ht => ht.campaignCommand ((ht.reply c _ _ _).same (sameAccounts_modCampaign _ _)))

theorem campaignResume_accounted (tag : Tag) (p : List Byte) : AnswersAccounted (execCampaignResume tag p s) :=
  hostCommand_accounted h (fun c t ht => ht.campaignCommand (by
    have hr := ht.reply c .ok (be8 t.afterResume.byte) false
    unfold campaignResumeBody
    dsimp only
    split
    · exact ((hr.same (sameAccounts_modCampaign _ _)).same (sameAccounts_testEnd _)).same (sameAccounts_startRun _)
    · exact hr.same (sameAccounts_startRun _)))

/-- CANCEL, ABORT and the deadline empty the queues and test the end. -/
theorem Accounted.drained (r : NotTested) (cause : EndCause) : Accounted (s.drain r cause).testEnd :=
  (h.of_tables (h.tables.drain r cause) (by simp) (by simp) (by simp)).same (sameAccounts_testEnd _)

theorem campaignCancel_accounted (tag : Tag) (p : List Byte) : AnswersAccounted (execCampaignCancel tag p s) :=
  hostCommand_accounted h (fun c t ht => ht.campaignCommand (by
    unfold campaignCancelBody
    split
    · exact ht.reply c _ _ _
    · exact (ht.reply c _ _ _).drained _ _))

theorem deadlineExpiry_accounted : AnswersAccounted (execDeadlineExpiry s) :=
  answersAccounted_event h (fun _ => h.drained _ _)

/-! ## CAMPAIGN_ABORT (R71) -/

omit h in
theorem state_markAborted {e : Nat} (he : e < 16) : ((s.markAborted e).engine e).state = (s.engine e).state := by
  rw [State.markAborted, modEngine_self _ _ _ he]
  rfl

theorem Accounted.abortEngine {e : Nat} (he : e < 16) : Accounted (s.abortEngine e) := by
  have hm := h.same (sameAccounts_markAborted s e)
  have hst := state_markAborted (s := s) he
  unfold State.abortEngine
  split
  · split
    · exact hm.same (sameAccounts_startCourtesy _ (roams_of_state (by simp_all)))
    · exact hm.same (sameAccounts_startCourtesy _ (roams_of_state (by simp_all)))
    · exact (hm.writeOutcome e (by decide) (by decide)).same
        (sameAccounts_startRelease _ (roams_writeOutcome he _ (roams_of_state (by simp_all))))
    · exact hm
  · exact h

theorem Accounted.abortQueues : Accounted s.abortQueues := by
  unfold State.abortQueues
  split
  · exact h.same (sameAccounts_modCampaign _ _)
  · exact h.drained _ _

theorem Accounted.abortProbes : Accounted s.abortProbes :=
  List.foldlRecOn (motive := Accounted) _ _ h (fun _ hu _ he => hu.abortEngine (List.mem_range.1 he))

theorem campaignAbort_accounted (tag : Tag) (p : List Byte) : AnswersAccounted (execCampaignAbort tag p s) :=
  hostCommand_accounted h (fun c _ ht => ht.campaignCommand (ht.reply c _ _ _).abortQueues.abortProbes)

/-! ## Classes, clocks and PROBE_CIRCUIT -/

theorem classSet_accounted (tag : Tag) (p : List Byte) : AnswersAccounted (execClassSet tag p s) :=
  hostCommand_accounted h (fun c t ht => ht.fixedLength (by
    unfold classSetBody
    dsimp only
    split
    · exact ht.refuse c _
    · refine Accounted.same ?_ (sameAccounts_startRun _)
      exact (ht.reply c _ _ _).same (sameAccounts_setCls _ _ _ rfl)))

theorem creditAccrual_accounted (k : Fin 4) : AnswersAccounted (execCreditAccrual k s) :=
  answersAccounted_same h (.trans (sameAccounts_setCls s k.val _ (by rfl)) (sameAccounts_startRunIf _ _))

theorem nextEligibleReached_accounted (n : Fin 64) : AnswersAccounted (execNextEligibleReached n s) :=
  answersAccounted_same h (.trans (sameAccounts_setNode s n.val _ (by rfl)) (sameAccounts_startRun _))

omit h in
theorem queueable_of_probeCheck {c mode : Nat} (hc : probeCheck s c mode = none) : s.queueable c := by
  unfold probeCheck at hc
  split at hc
  · cases hc
  · rename_i hlt
    split at hc
    · cases hc
    · split at hc
      · cases hc
      · rename_i hdef
        split at hc
        · cases hc
        · exact ⟨by omega, not_not.1 hdef, not_not.1 ‹_›⟩

theorem Accounted.joinProbe {c : Nat} (hc : s.queueable c) (slot : Option Nat) :
    Accounted ((s.setStatus c .spot).joinSpot (.probe c slot)) := by
  obtain ⟨hlt, hdef, hidle⟩ := hc
  exact h.of_tables (h.tables.joinProbe slot hlt hidle (by simp [hdef])) rfl rfl rfl

theorem Accounted.queueProbe (cmd : Cmd) {c : Nat} (mode : Nat) (hc : s.queueable c) :
    Accounted (s.queueProbe cmd c mode) := by
  unfold State.queueProbe
  split
  · split
    · exact (h.same (sameAccounts_takeSlot s _ _ _)).joinProbe hc _
    · exact h
  · exact (h.reply cmd _ _ _).joinProbe hc _

theorem probeCircuit_accounted (tag : Tag) (p : List Byte) : AnswersAccounted (execProbeCircuit tag p s) :=
  hostCommand_accounted h (fun c t ht => ht.fixedLength (by
    unfold probeCircuitBody
    split
    · exact ht.refuse c _
    · exact ht.queueProbe c _ (queueable_of_probeCheck ‹_›)))

/-! ## Every instruction -/

theorem exec_accounted (i : Instr) : AnswersAccounted (exec i s) := by
  cases i with
  | circuitDefine tag p => exact circuitDefine_accounted h tag p
  | circuitReport tag p => exact circuitReport_accounted h tag p
  | circuitRetire tag p => exact circuitRetire_accounted h tag p
  | circuitSuspend tag p => exact circuitSuspend_accounted h tag p
  | circuitResume tag p => exact circuitResume_accounted h tag p
  | circuitBaselineClear tag p => exact circuitBaselineClear_accounted h tag p
  | engineEnable tag p => exact engineEnable_accounted h tag p
  | engineDisable tag p => exact engineDisable_accounted h tag p
  | engineCalibrate tag p => exact engineCalibrate_accounted h tag p
  | engineReport tag p => exact engineReport_accounted h tag p
  | campaignStart tag p => exact campaignStart_accounted h tag p
  | campaignAdd tag p => exact campaignAdd_accounted h tag p
  | campaignPause tag p => exact campaignPause_accounted h tag p
  | campaignResume tag p => exact campaignResume_accounted h tag p
  | campaignCancel tag p => exact campaignCancel_accounted h tag p
  | campaignAbort tag p => exact campaignAbort_accounted h tag p
  | campaignReport tag p => exact report_accounted h State.campaignReport
  | classSet tag p => exact classSet_accounted h tag p
  | probeCircuit tag p => exact probeCircuit_accounted h tag p
  | pointSet tag p => exact pointSet_accounted h tag p
  | pointReport tag p => exact report_accounted h State.pointReport
  | nodeSet tag p => exact nodeSet_accounted h tag p
  | nodeReport tag p => exact report_accounted h State.nodeReport
  | nodeHold tag p => exact nodeHold_accounted h tag p
  | nodeRelease tag p => exact nodeRelease_accounted h tag p
  | releaseRetry tag p => exact releaseRetry_accounted h tag p
  | openLoopClear tag p => exact openLoopClear_accounted h tag p
  | openLoopReport tag p => exact report_accounted h State.openLoopReport
  | matrixSet tag p => exact matrixSet_accounted h tag p
  | matrixResync tag p => exact matrixResync_accounted h tag p
  | deviceStatus tag p => exact report_accounted h State.deviceStatus
  | deviceReset tag p => exact deviceReset_accounted h tag p
  | unknownCommand kind code tag p => exact unknownCommand_accounted h kind code tag p
  | coldReset a b => exact answersAccounted_next (accounted_coldFrom a b s)
  | frameReceived bytes => exact frameReceived_accounted h bytes
  | lineError => exact answersAccounted_same h (sameAccounts_discardFrame s)
  | frameGap => exact answersAccounted_same h (sameAccounts_discardFrame s)
  | recordSent => exact answersAccounted_same h (sameAccounts_recordLeaves s)
  | ready => exact answersAccounted_same h (sameAccounts_placeReady s)
  | timeBaseTick lanes => exact answersAccounted_next (h.same (sameAccounts_tick s lanes))
  | arbiterRun => exact answersAccounted_event h (fun _ => h.runArbiter)
  | requestSent => exact answersAccounted_same h (sameAccounts_noteSent s)
  | matrixAnswer bytes => exact matrixAnswer_accounted h bytes
  | matrixAnswerGap => exact answersAccounted_same h (sameAccounts_dropAnswer s)
  | matrixTimeout => exact answersAccounted_event h (fun _ => h.timeOut)
  | settleEnd ev => exact settleEnd_accounted h ev
  | loopConfirmed e => exact loopConfirmed_accounted h e
  | loopUpTimeout e => exact loopUpTimeout_accounted h e
  | retrySpacingEnd e => exact retrySpacingEnd_accounted h e
  | aisRaised e => exact aisRaised_accounted h e
  | signalDropout e => exact signalDropout_accounted h e
  | checkerSyncGain e rx m => exact checkerSyncGain_accounted h e rx m
  | syncLoss ev rx => exact syncLoss_accounted h ev rx
  | marker e => exact marker_accounted h e
  | delayWordFound e rx m => exact delayWordFound_accounted h e rx m
  | delayWordTimeout ev => exact delayWordTimeout_accounted h ev
  | calibrationLimit e => exact calibrationLimit_accounted h e
  | soakTimeEnd e => exact soakTimeEnd_accounted h e
  | releaseHoldEnd e => exact releaseHoldEnd_accounted h e
  | releaseCheckEnd e => exact releaseCheckEnd_accounted h e
  | courtesyHoldEnd e => exact courtesyHoldEnd_accounted h e
  | creditAccrual k => exact creditAccrual_accounted h k
  | deadlineExpiry => exact deadlineExpiry_accounted h
  | nextEligibleReached n => exact nextEligibleReached_accounted h n

end

/-- Settles O10: every instruction keeps the accounts, and the queue of pending steps is none of them. -/
theorem tablesStayAccounted : Obligations.TablesStayAccounted := by
  intro s t h hst
  unfold step at hst
  split at hst
  · exact answersAccounted_next h t hst
  · rename_i c rest _
    have hrest : Accounted { s with pending := rest } := h.same (.of_frame rfl rfl rfl rfl rfl rfl rfl rfl)
    exact exec_accounted hrest c t hst

end Sys2Proof.Machine
end


section
/-! SUPPORT. ENGINE_ENABLE, ENGINE_DISABLE and ENGINE_CALIBRATE (R27, R28, R39), and what the calibration entries removed as an
engine goes OFFLINE leave behind (R28, R41). -/

namespace Sys2Proof.Machine

/-! ## The engine number of a command -/

/-- An engine command that is taken acts on its engine, or is refused for its number. -/
theorem engineCommand_takes {s : State} {code : Byte} {tag : Tag} {e : Byte} {rest : List Frame}
    (h : s.Takes code tag [e] rest) (body : Cmd → Nat → State → State) :
    (15 < e.toNat → hostCommand code tag [e] s (fun c => engineCommand [e] c (body c)) =
      .next (s.answered rest (replyTo code tag .badField false []))) ∧
    (e.toNat ≤ 15 → hostCommand code tag [e] s (fun c => engineCommand [e] c (body c)) =
      .next (body ⟨code, tag⟩ e.toNat (s.taken rest))) := by
  rw [hostCommand_takes h]
  exact ⟨fun hout => by rw [engineCommand_outside (payload := [e]) rfl hout, State.refuse, taken_reply], fun hin => by
    rw [engineCommand_inside (payload := [e]) rfl hin]; rfl⟩

/-! ## ENGINE_ENABLE (R27) -/

theorem enable_of_offline {s : State} {e : Nat} (h : (s.engine e).state = .offline) : s.enable e = s.goIdle e := if_pos h

theorem enable_of_not_offline {s : State} {e : Nat} (h : (s.engine e).state ≠ .offline) :
    s.enable e = s.setEngine e { s.engine e with disablePending := false } := if_neg h

/-- Settles O22: the engine is OFFLINE and comes to rest in IDLE, or only loses its indication. -/
theorem enableReturnsTheEngine : Obligations.EnableReturnsTheEngine := by
  intro tag e rest s htake
  obtain ⟨hout, hin⟩ := engineCommand_takes htake (fun c e t => (t.reply c .ok [] false).enable e)
  have hlt : e.toNat ≤ 15 → e.toNat < 16 := Nat.lt_succ_of_le
  refine ⟨hout, fun hle hst => ?_, fun hle hst => ⟨_, hin hle, ?_⟩⟩
  · refine (hin hle).trans (congrArg _ ?_)
    rw [taken_reply]
    exact enable_of_not_offline hst
  · rw [taken_reply, enable_of_offline (s := s.answered rest _) hst, State.goIdle]
    simp only [startRun_engine, engine_setEngine_self _ _ _ (hlt hle)]
    exact ⟨rfl, rfl, rfl, fun d hd => engine_setEngine_ne _ _ _ _ (Ne.symm hd), rfl⟩

/-! ## Calibration entries that leave the spot queue (R28) -/

/-- The entry is a calibration pinned to the engine. -/
def SpotEntry.pins (e : Nat) : SpotEntry → Bool
  | .calibration e' _ => e' == e
  | .probe _ _ => false
  | .releaseOnly _ => false

theorem pinnedTo_eq (s : State) (e : Nat) : s.pinnedTo e = s.spot.filter (SpotEntry.pins e) :=
  List.filter_congr (fun x _ => by cases x <;> rfl)

theorem pins_iff (e : Nat) (x : SpotEntry) : x.pins e = true ↔ ∃ i, x = .calibration e i := by
  cases x <;> simp [SpotEntry.pins]

theorem erase_append_cons {done rest : List SpotEntry} {x : SpotEntry} (h : x ∉ done) :
    (done ++ x :: rest).erase x = done ++ rest := by
  rw [List.erase_append_right _ h, List.erase_cons_head]

/-- The pinned entries of `todo` leave the spot queue, behind entries that stay. -/
theorem spot_removeCalibrations (e : Nat) (todo : List SpotEntry) :
    ∀ (s : State) (done : List SpotEntry), s.spot = done ++ todo → (∀ x ∈ done, x.pins e = false) →
      ((todo.filter (SpotEntry.pins e)).foldl State.removeCalibration s).spot =
        done ++ todo.filter (fun x => !x.pins e) := by
  induction todo with
  | nil => intro s done hs _; simpa using hs
  | cons x rest ih =>
    intro s done hs hdone
    cases hx : x.pins e with
    | true =>
      obtain ⟨i, rfl⟩ := (pins_iff e x).1 hx
      have hnot : SpotEntry.calibration e i ∉ done := fun hmem => by simp [hdone _ hmem] at hx
      have hs' : (s.removeCalibration (.calibration e i)).spot = done ++ rest := by
        simp [State.removeCalibration, State.leaveSpot, hs, erase_append_cons hnot]
      simpa [hx] using ih _ done hs' hdone
    | false =>
      have hdone' : ∀ y ∈ done ++ [x], y.pins e = false := by
        intro y hy
        rcases List.mem_append.1 hy with hy | hy
        · exact hdone y hy
        · rwa [List.mem_singleton.1 hy]
      simpa [hx] using ih s (done ++ [x]) (by simp [hs]) hdone'

/-- A deferred reply joins the tail, or nothing does. -/
theorem answer_tx_prefix (s : State) (i : Nat) (st : Status) (b : Bool) (p : List Byte) :
    s.mli.tx <+: (s.answer i st b p).mli.tx := by
  unfold State.answer
  split
  · split
    · exact List.prefix_rfl
    · exact List.prefix_append _ _
  · exact List.prefix_rfl

@[simp] theorem answer_rxBuffer (s : State) (i : Nat) (st : Status) (b : Bool) (p : List Byte) :
    (s.answer i st b p).mli.rxBuffer = s.mli.rxBuffer := by
  unfold State.answer; split <;> [split; skip] <;> simp

theorem slot_answer_ne (s : State) {i j : Nat} (st : Status) (b : Bool) (p : List Byte) (h : i ≠ j) :
    (s.answer i st b p).slot j = s.slot j := by
  unfold State.answer; split <;> [split; skip] <;> simp [h]

theorem removeCalibration_mli (s : State) (x : SpotEntry) :
    s.mli.tx <+: (s.removeCalibration x).mli.tx ∧ (s.removeCalibration x).mli.rxBuffer = s.mli.rxBuffer := by
  cases x with
  | calibration e i => exact ⟨answer_tx_prefix (s.leaveSpot (.calibration e i)) i _ _ _, by simp [State.removeCalibration]⟩
  | probe _ _ => exact ⟨List.prefix_rfl, rfl⟩
  | releaseOnly _ => exact ⟨List.prefix_rfl, rfl⟩

theorem tx_prefix_removeCalibrations (l : List SpotEntry) (s : State) :
    s.mli.tx <+: (l.foldl State.removeCalibration s).mli.tx :=
  foldl_inv State.removeCalibration (fun t => s.mli.tx <+: t.mli.tx)
    (fun t x h => h.trans (removeCalibration_mli t x).1) l s List.prefix_rfl

theorem runDue_removeCalibrations (e : Nat) (l : List SpotEntry) (hl : ∀ x ∈ l, x.pins e = true) (s : State) :
    (l.foldl State.removeCalibration s).runDue = (s.runDue || !l.isEmpty) := by
  induction l generalizing s with
  | nil => simp
  | cons x rest ih =>
    obtain ⟨i, rfl⟩ := (pins_iff e x).1 (hl x List.mem_cons_self)
    rw [List.foldl_cons, ih (fun y hy => hl y (List.mem_cons_of_mem _ hy))]
    simp [State.removeCalibration]

/-- The answer to a removed calibration entry reads the slot and the offset alone. -/
theorem removedAnswer_congr {s t : State} {e i : Nat} (st : Status) (hslot : t.slot i = s.slot i)
    (hoff : (t.engine e).localOffset = (s.engine e).localOffset) :
    removedAnswer t st (.calibration e i) = removedAnswer s st (.calibration e i) := by
  simp only [removedAnswer, hslot, hoff]

theorem calibrationPayload_none (e offset : Nat) (st : EngineState) :
    calibrationPayload e none offset st = be8 e ++ [0, 0, 0, 0] ++ be16 offset ++ be8 st.byte := rfl

theorem tx_removeCalibration {s : State} {e i : Nat} {d : DeferredSlot} (hd : s.slot i = some d) (hp : d.placed = false) :
    (s.removeCalibration (.calibration e i)).mli.tx =
      s.mli.tx ++ removedAnswer s .calFailed (.calibration e i) := by
  have htx := answer_tx_held (s.leaveSpot (.calibration e i)) i .calFailed false
    (calibrationPayload e none (s.engine e).localOffset .offline) d hd hp
  simpa [State.removeCalibration, removedAnswer, hd, calibrationPayload_none] using htx

/-- Where each removed entry has a waiting slot of its own, the answers stand in the order of the entries (log 15). -/
theorem tx_removeCalibrations (e : Nat) (l : List SpotEntry) (hl : ∀ x ∈ l, x.pins e = true) (s : State)
    (hn : (l.filterMap entrySlot).Nodup)
    (hw : ∀ i ∈ l.filterMap entrySlot, ∃ d, s.slot i = some d ∧ d.placed = false) :
    (l.foldl State.removeCalibration s).mli.tx = s.mli.tx ++ l.flatMap (removedAnswer s .calFailed) := by
  induction l generalizing s with
  | nil => simp
  | cons x rest ih =>
    obtain ⟨i, rfl⟩ := (pins_iff e x).1 (hl x List.mem_cons_self)
    have hrest : ∀ y ∈ rest, y.pins e = true := fun y hy => hl y (List.mem_cons_of_mem _ hy)
    simp only [List.filterMap_cons, entrySlot, List.nodup_cons] at hn
    simp only [List.filterMap_cons, entrySlot, List.forall_mem_cons] at hw
    obtain ⟨hi, hn⟩ := hn
    obtain ⟨⟨d, hd, hp⟩, hw⟩ := hw
    have hslot : ∀ j ∈ rest.filterMap entrySlot, (s.removeCalibration (.calibration e i)).slot j = s.slot j :=
      fun j hj => slot_answer_ne _ _ _ _ (fun hij => hi (hij ▸ hj))
    have hsame : rest.flatMap (removedAnswer (s.removeCalibration (.calibration e i)) .calFailed) =
        rest.flatMap (removedAnswer s .calFailed) := by
      refine List.flatMap_congr (fun y hy => ?_)
      obtain ⟨j, rfl⟩ := (pins_iff e y).1 (hrest y hy)
      exact removedAnswer_congr _ (hslot j (List.mem_filterMap.2 ⟨_, hy, rfl⟩))
        (by rw [engine_congr (s := s) (by simp)])
    rw [List.foldl_cons, ih hrest _ hn (fun j hj => by rw [hslot j hj]; exact hw j hj), tx_removeCalibration hd hp, hsame,
      List.flatMap_cons, List.append_assoc]

/-! ## An engine goes OFFLINE (R28) -/

/-- An engine that has gone OFFLINE. -/
def Engine.retired (g : Engine) : Engine := { g.resting .offline with disablePending := false }

theorem goOffline_eq (s : State) (e : Nat) : s.goOffline e = (s.spot.filter (SpotEntry.pins e)).foldl State.removeCalibration
    (s.setEngine e (s.engine e).retired) := by
  unfold State.goOffline
  dsimp only
  rw [pinnedTo_eq]
  rfl

theorem engine_goOffline_self (s : State) {e : Nat} (he : e < 16) : (s.goOffline e).engine e = (s.engine e).retired := by
  rw [engine_congr (engines_goOffline s e), engine_setEngine_self _ _ _ he, Engine.retired]

theorem engine_goOffline_ne (s : State) {e d : Nat} (hd : d ≠ e) : (s.goOffline e).engine d = s.engine d := by
  rw [engine_congr (engines_goOffline s e), engine_setEngine_ne _ _ _ _ (Ne.symm hd)]

theorem spot_goOffline (s : State) (e : Nat) : (s.goOffline e).spot = s.spot.filter (fun x => !x.pins e) := by
  rw [goOffline_eq]
  exact spot_removeCalibrations e s.spot _ [] rfl (by simp)

theorem tx_prefix_goOffline (s : State) (e : Nat) : s.mli.tx <+: (s.goOffline e).mli.tx := by
  rw [goOffline_eq]
  exact tx_prefix_removeCalibrations _ (s.setEngine e (s.engine e).retired)

theorem rxBuffer_goOffline (s : State) (e : Nat) : (s.goOffline e).mli.rxBuffer = s.mli.rxBuffer := by
  rw [goOffline_eq]
  exact foldl_keeps _ (fun t => t.mli.rxBuffer) (fun t x => (removeCalibration_mli t x).2) _ _

theorem runDue_goOffline (s : State) (e : Nat) : (s.goOffline e).runDue = (s.runDue || s.spot.any (SpotEntry.pins e)) := by
  rw [goOffline_eq, runDue_removeCalibrations e _ (fun x hx => (List.mem_filter.1 hx).2)]
  congr 1
  rw [Bool.eq_iff_iff]
  simp

theorem tx_goOffline {s : State} (h : RepliesWait s) {e : Nat} (he : e < 16) : (s.goOffline e).mli.tx =
    s.mli.tx ++ (s.spot.filter (SpotEntry.pins e)).flatMap (removedAnswer s .calFailed) := by
  obtain ⟨hn, hw⟩ := h
  have hsub : ((s.spot.filter (SpotEntry.pins e)).filterMap entrySlot).Sublist (s.spot.filterMap entrySlot) :=
    List.filter_sublist.filterMap entrySlot
  have hpins : ∀ x ∈ s.spot.filter (SpotEntry.pins e), x.pins e = true := fun x hx => (List.mem_filter.1 hx).2
  rw [goOffline_eq, tx_removeCalibrations e _ hpins (s.setEngine e (s.engine e).retired) (hsub.nodup hn)
    (fun i hi => hw i (hsub.subset hi))]
  refine congrArg _ (List.flatMap_congr (fun x hx => ?_))
  obtain ⟨i, rfl⟩ := (pins_iff e x).1 (hpins x hx)
  exact removedAnswer_congr _ rfl (by rw [engine_setEngine_self _ _ _ he]; rfl)

/-! ## ENGINE_DISABLE (R28) -/

theorem disable_of_offline {s : State} {e : Nat} (h : (s.engine e).state = .offline) : s.disable e = s := by
  simp [State.disable, h]

theorem disable_of_idle {s : State} {e : Nat} (h : (s.engine e).state = .idle) : s.disable e = s.goOffline e := by
  simp [State.disable, h]

/-- An active or QUARANTINED engine takes a pending disable. -/
theorem disable_of_neither {s : State} {e : Nat} (hoff : (s.engine e).state ≠ .offline) (hidle : (s.engine e).state ≠ .idle) :
    s.disable e = s.setEngine e { s.engine e with disablePending := true } := by
  unfold State.disable
  split
  · exact absurd ‹_› hidle
  · exact absurd ‹_› hoff
  · rfl

/-- Settles O23: what an engine that goes OFFLINE does to the spot queue, on the state with the reply placed. -/
theorem disableTakesTheEngineOffline : Obligations.DisableTakesTheEngineOffline := by
  intro tag e rest s htake pinned
  obtain ⟨hout, hin⟩ := engineCommand_takes htake (fun c e t => (t.reply c .ok [] false).disable e)
  have hpins : pinned = SpotEntry.pins e.toNat := by funext x; cases x <;> rfl
  rw [hpins]
  let t := s.answered rest (replyTo 0x21 tag .ok false [])
  refine ⟨hout, fun hle hst => (hin hle).trans (congrArg _ ?_), fun hle hoff hidle => (hin hle).trans (congrArg _ ?_),
    fun hle hst => ⟨t.goOffline e.toNat, (hin hle).trans (congrArg _ ?_), ?_⟩⟩
  · exact disable_of_offline (s := t) hst
  · exact disable_of_neither (s := t) hoff hidle
  · exact disable_of_idle (s := t) hst
  have hlt : e.toNat < 16 := Nat.lt_succ_of_le hle
  have hself : (t.goOffline e.toNat).engine e.toNat = (s.engine e.toNat).retired := engine_goOffline_self t hlt
  have hreply : t.mli.tx = s.mli.tx ++ [replyTo 0x21 tag .ok false []] := rfl
  refine ⟨by rw [hself]; rfl, by rw [hself]; rfl, by rw [hself]; rfl, fun d hd => engine_goOffline_ne t hd,
    spot_goOffline t _, ?_, fun hwait => ?_, ?_, rxBuffer_goOffline t _, ?_⟩
  · obtain ⟨more, hmore⟩ := tx_prefix_goOffline t e.toNat
    exact ⟨more, by rw [← hmore, hreply, List.append_assoc]; rfl⟩
  · rw [tx_goOffline (s := t) hwait hlt, hreply, List.append_assoc]
    rfl
  · rw [runDue_goOffline]
    change (s.runDue || s.spot.any (SpotEntry.pins e.toNat)) = _
    cases s.spot.any (SpotEntry.pins e.toNat) <;> simp
  · simp only [goOffline_frame]
    exact ⟨rfl, rfl, rfl, rfl, rfl, rfl, rfl⟩

/-! ## ENGINE_CALIBRATE (R39) -/

theorem engineCalibrateBody_refused {s : State} {e : Nat} {st : Status} (h : calibrateCheck s e = some st) (c : Cmd) :
    engineCalibrateBody c e s = s.reply c st [] false := by
  simp [engineCalibrateBody, h, State.refuse]

/-- A command that passes the checks takes the free slot and joins the spot queue. -/
theorem engineCalibrateBody_accepted {s : State} {e i : Nat} (h : calibrateCheck s e = none) (hi : s.freeSlot = some i)
    (c : Cmd) : engineCalibrateBody c e s = (s.takeSlot i c (.calibration e)).joinSpot (.calibration e i) := by
  simp [engineCalibrateBody, State.queueCalibration, h, hi]

/-- Settles O24: each clause evaluates the checks of R39 in order. -/
theorem calibrateQueuesTheEntry : Obligations.CalibrateQueuesTheEntry := by
  intro tag e rest s htake refused g
  obtain ⟨hout, hin⟩ := engineCommand_takes htake engineCalibrateBody
  have hrefuse : e.toNat ≤ 15 → ∀ st, calibrateCheck (s.taken rest) e.toNat = some st → refused st := fun hle st hst =>
    (hin hle).trans (congrArg _ ((engineCalibrateBody_refused hst _).trans (taken_reply s rest _ _ _ _ _)))
  have hfree : (s.taken rest).freeSlot = s.freeSlot := rfl
  have hcheck : g.state ≠ .offline → g.disablePending = false → calibrateCheck (s.taken rest) e.toNat =
      if s.amc.link ≠ .synced then some .matrixUnsynced
      else if s.freeSlot = none then some .queueFull
      else if 8 ≤ s.spot.length then some .queueFull else none := fun hoff hdis =>
    if_neg (by rintro (h | h); exacts [hoff h, absurd (h.symm.trans hdis) (by decide)])
  refine ⟨hout, fun hle hor => hrefuse hle _ (if_pos hor), fun hle hoff hdis hlink => hrefuse hle _ ?_,
    fun hle hoff hdis hlink hfull => hrefuse hle _ ?_, fun i hle hoff hdis hlink hi hnone hlow => ⟨fun h8 => hrefuse hle _ ?_,
      fun h8 => (hin hle).trans (congrArg _ ?_)⟩⟩
  · simp [hcheck hoff hdis, hlink]
  · simp [hcheck hoff hdis, hlink, freeSlot_none s hfull]
  · simp [hcheck hoff hdis, hlink, freeSlot_spec s i hi hnone hlow, h8]
  · have hslot := freeSlot_spec s i hi hnone hlow
    have hpass : calibrateCheck (s.taken rest) e.toNat = none := by
      simp [hcheck hoff hdis, hlink, hslot, Nat.not_le.mpr h8]
    exact engineCalibrateBody_accepted hpass (hfree.trans hslot) _

end Sys2Proof.Machine
end


section
/-! SUPPORT. The measurement of a lane: the bits that generator and checker handle one by one, the events of the checker and of
the delay word (R30 to R34, R38, R40). -/

namespace Sys2Proof.Machine

/-! ## One engine written twice -/

theorem setEngine_setEngine (s : State) (e : Nat) (g h : Engine) : (s.setEngine e g).setEngine e h = s.setEngine e h := by
  simp [State.setEngine]

theorem modEngine_setEngine (s : State) {e : Nat} (he : e < 16) (g : Engine) (f : Engine → Engine) :
    (s.setEngine e g).modEngine e f = s.setEngine e (f g) := by
  rw [State.modEngine, engine_setEngine_self _ _ _ he, setEngine_setEngine]

theorem OnlyEngine_setEngine (s : State) (e : Nat) (g : Engine) : s.OnlyEngine (s.setEngine e g) e :=
  OnlyEngine_modEngine s e (fun _ => g)

theorem onLanes_eta (s : State) (e : Nat) (f : Engine → Engine) :
    s.onLanes e f = { s with engines := (s.onLanes e f).engines } := by
  unfold State.onLanes
  split <;> rfl

theorem wide_of_context {g : Engine} {x : Context} (h : g.context = some x) : g.wide = (x.rate == .wide) := by
  simp [Engine.wide, h]

theorem wide_congr {g h : Engine} (hc : h.context = g.context) : h.wide = g.wide := by
  simp [Engine.wide, hc]

/-! ## A bit leaves (R30, R33, R38) -/

theorem run_one (g : Generator) : g.run .test 1 = g.next := rfl

theorem next_plain {g : Generator} (hw : g.wordLeft = 0) (hm : g.markersDue = 0) :
    g.next = { g with reg := sequenceNext g.reg, sent := g.sent + 1 } := by
  simp [Generator.next, hw, hm]

/-- A waiting marker leaves in place of the next bit of the sequence (R33). -/
theorem next_marker {g : Generator} (hw : g.wordLeft = 0) (hm : 1 ≤ g.markersDue) :
    g.next = { g with
      reg := sequenceNext g.reg, sent := g.sent + 1, markersDue := g.markersDue - 1
      placed := g.placed ++ [⟨g.reg, g.sent, .marker⟩] } := by
  have hpos : 0 < g.markersDue := hm
  simp [Generator.next, Generator.place, hw, hpos]

/-- A bit of the delay word leaves in place of the next bit of the sequence (R38). -/
theorem next_word {g : Generator} {i : Nat} (hi : i < 64) (hw : g.wordLeft = 64 - i) :
    g.next = { g with
      reg := sequenceNext g.reg, sent := g.sent + 1, wordLeft := 63 - i
      placed := g.placed ++ [⟨g.reg, g.sent, .word i⟩] } := by
  have hpos : 0 < 64 - i := by omega
  have hback : 64 - (64 - i) = i := by omega
  have hdown : 64 - i - 1 = 63 - i := by omega
  simp [Generator.next, Generator.place, hw, hpos, hback, hdown]

theorem output_word {g : Generator} {i : Nat} (hi : i < 64) (hw : g.wordLeft = 64 - i) (w : BitVec 64) :
    g.output .test w = some (w.getMsbD i) := by
  have hpos : 0 < 64 - i := by omega
  have hback : 64 - (64 - i) = i := by omega
  simp [Generator.output, hw, hpos, hback, wordBit]

theorem output_marker {g : Generator} (hw : g.wordLeft = 0) (hm : 1 ≤ g.markersDue) (w : BitVec 64) :
    g.output .test w = some !g.reg.getLsbD 30 := by
  have hpos : 0 < g.markersDue := hm
  simp [Generator.output, hw, hpos]

theorem output_plain {g : Generator} (hw : g.wordLeft = 0) (hm : g.markersDue = 0) (w : BitVec 64) :
    g.output .test w = some (g.reg.getLsbD 30) := by
  simp [Generator.output, hw, hm]

/-! ## A hunting checker takes a bit (R31) -/

theorem hunt_loading {k : Checker} (h : k.loaded < 31) (v : Bool) :
    k.hunt v = { k with reg := shiftIn k.reg v, loaded := k.loaded + 1, run := 0 } := if_pos h

theorem hunt_missed {k : Checker} (h : 31 ≤ k.loaded) {v : Bool} (hv : v ≠ feedback k.reg ∨ k.reg = 0) :
    k.hunt v = { k with reg := shiftIn k.reg v, run := 0 } := by
  have hmiss : ¬(v = feedback k.reg ∧ k.reg ≠ 0) := by tauto
  simp only [Checker.hunt, if_neg (Nat.not_lt.mpr h), if_neg hmiss]
  rfl

/-- The run that predictions extend is sync at 1,024. -/
theorem hunt_hit {k : Checker} (h : 31 ≤ k.loaded) {v : Bool} (hv : v = feedback k.reg) (h0 : k.reg ≠ 0) :
    (k.run ≠ 1023 → k.hunt v = { k with reg := shiftIn k.reg v, run := k.run + 1 }) ∧
    (k.run = 1023 → k.hunt v = { k with
      reg := shiftIn k.reg v, run := 1024, inSync := true, blockBits := 0, blockErrors := 0, gain := true }) := by
  have hhit : v = feedback k.reg ∧ k.reg ≠ 0 := ⟨hv, h0⟩
  simp only [Checker.hunt, if_neg (Nat.not_lt.mpr h), if_pos hhit]
  exact ⟨fun hrun => if_neg (by omega), fun hrun => by rw [hrun]; rfl⟩

/-- A hunting checker takes a bit, or stands unarmed; nothing is counted. -/
theorem checkBit_hunting {g : Engine} (h : g.lane.checker.inSync = false) (v : Bool) :
    (g.checkBit v).meas = g.meas ∧
      (g.lane.checker.arm ≠ .unarmed → (g.checkBit v).lane.checker = g.lane.checker.hunt v) := by
  by_cases harm : g.lane.checker.arm = .unarmed
  · simp [Engine.checkBit, harm]
  · simp [Engine.checkBit, harm, h]

/-! ## A checker in sync takes a bit (R31, R32, R34) -/

theorem checkBit_inSync {g : Engine} (harm : g.lane.checker.arm ≠ .unarmed) (h : g.lane.checker.inSync = true) (v : Bool) :
    g.checkBit v = g.checkInSync v := by
  simp [Engine.checkBit, harm, h]

theorem oneIf_bne (v w : Bool) : oneIf (v != w) = if v = w then 0 else 1 := by
  cases v <;> cases w <;> rfl

theorem blockLost_iff (bits errors : Nat) : Checker.blockLost bits errors = true ↔ bits = 1024 ∧ 128 ≤ errors := by
  simp [Checker.blockLost]

/-- A block of 1,024 bits with 128 errors or more ends sync at its end. -/
theorem check_cases (k : Checker) (err : Bool) :
    let bits := k.blockBits + 1
    let errors := k.blockErrors + oneIf err
    (bits = 1024 → 128 ≤ errors →
      k.check err = { k with reg := 0, inSync := false, loaded := 0, run := 0, blockBits := 0, blockErrors := 0 }) ∧
    (bits = 1024 → errors < 128 → k.check err = { k with reg := sequenceNext k.reg, blockBits := 0, blockErrors := 0 }) ∧
    (bits ≠ 1024 → k.check err = { k with reg := sequenceNext k.reg, blockBits := bits, blockErrors := errors }) := by
  intro bits errors
  refine ⟨fun hb he => if_pos ((blockLost_iff _ _).2 ⟨hb, he⟩), fun hb he => ?_, fun hb => ?_⟩
  · exact (if_neg (fun h => absurd ((blockLost_iff _ _).1 h).2 (Nat.not_le.2 he))).trans (if_pos hb)
  · exact (if_neg (fun h => hb ((blockLost_iff _ _).1 h).1)).trans (if_neg hb)

theorem check_inSync (k : Checker) (err : Bool) :
    (k.check err).inSync = (k.inSync && !Checker.blockLost (k.blockBits + 1) (k.blockErrors + oneIf err)) := by
  simp only [Checker.check, oneIf]
  split_ifs <;> simp_all

/-- What a bit does to a lane in sync, `what` being the alteration that arrives with it. -/
theorem takeBit_inSync {g : Engine} (harm : g.lane.checker.arm ≠ .unarmed) (hin : g.lane.checker.inSync = true) (v : Bool) :
    let k := g.lane.checker
    let what := g.lane.arriving.map Placed.what
    let err := v != k.expects g.delayWord what
    (g.takeBit v).lane.gen = g.lane.gen.taken g.lane.arriving ∧ (g.takeBit v).lane.checker = k.check err ∧
      (g.takeBit v).meas = if k.arm = .soak then
        g.meas.count (what == some .marker) err (Checker.blockLost (k.blockBits + 1) (k.blockErrors + oneIf err))
      else g.meas := by
  have hcheck : g.checkBit v = g.checkInSync v := checkBit_inSync harm hin v
  refine ⟨?_, ?_, ?_⟩
  · exact congrArg (fun h : Engine => h.lane.gen) hcheck
  · exact congrArg (fun h : Engine => h.lane.checker) hcheck
  · exact congrArg (fun h : Engine => h.meas) hcheck

/-- What a soak counts of a checked bit (R32, R34): `wanted` is the bit the checker expects, the inverse of a marker's. -/
theorem count_effect (m : Measurement) (what : Option Alteration) (v wanted : Bool) (lost : Bool) :
    let n := m.count (what == some .marker) (v != wanted) lost
    n.bitsB = min (m.bitsB + 1) 281474976710655 ∧
      n.errorsE = min (m.errorsE + (if v = wanted then 0 else 1)) 4294967295 ∧
      n.expectedX = m.expectedX + (if what = some .marker then 1 else 0) ∧
      n.hitsH = m.hitsH + (if what = some .marker ∧ v ≠ wanted then 1 else 0) ∧
      n.lossesK = min (m.lossesK + oneIf lost) 255 := by
  refine ⟨rfl, ?_, ?_, ?_, rfl⟩
  · simp [Measurement.count, oneIf_bne, satAdd, errorsMax]
  · simp [Measurement.count, oneIf]
  · simp [Measurement.count, oneIf]

/-- The bit that a bad block ends with is counted, and the loss with it (R32). -/
theorem takeBit_loses_sync {g : Engine} (harm : g.lane.checker.arm = .soak) (h : g.lane.checker.inSync = true) {v : Bool}
    (hl : (g.takeBit v).lane.checker.inSync = false) :
    (g.takeBit v).meas.lossesK = min (g.meas.lossesK + 1) 255 ∧
      (g.takeBit v).meas.bitsB = min (g.meas.bitsB + 1) 281474976710655 := by
  obtain ⟨-, hchecker, hmeas⟩ := takeBit_inSync (by simp [harm]) h v
  rw [hchecker, check_inSync, h, Bool.true_and, Bool.not_eq_false'] at hl
  rw [hmeas, if_pos harm, hl]
  exact ⟨rfl, rfl⟩

/-- Nothing altered arrives where nothing is on its way; the one place that is the checker's next within a period does. -/
theorem arriving_nil {l : Lane} (h : l.gen.placed = []) : l.arriving = none := by
  simp [Lane.arriving, h]

theorem arriving_singleton {l : Lane} {p : Placed} (h : l.gen.placed = [p]) (hreg : p.reg = l.checker.nextPlace)
    (hsent : l.gen.sent < p.index + sequencePeriod) : l.arriving = some p := by
  simp [Lane.arriving, h, hreg, hsent]

theorem taken_nil {g : Generator} (h : g.placed = []) : g.taken none = { g with placed := [] } := by
  rw [← h]; rfl

theorem taken_singleton {g : Generator} {p : Placed} (h : g.placed = [p]) : g.taken (some p) = { g with placed := [] } := by
  simp [Generator.taken, h]

/-! ## The word detector takes a bit (R38) -/

theorem takeBit_wordDet (g : Engine) (v : Bool) : (g.takeBit v).lane.wordDet = g.lane.wordDet.take g.delayWord v := by
  obtain ⟨-, -, -, hword, -⟩ := checkBit_window g v
  obtain ⟨-, -, -, -, -, hdelay, -⟩ := checkBit_listens g v
  simp only [Engine.takeBit, hword, hdelay]

/-- While it searches, the detector keeps the last 64 bits and compares them with the word. -/
theorem take_searching {d : WordDetector} (h : d.search ≠ none) (w : BitVec 64) (v : Bool) :
    let last := (d.hist.setWidth 63).concat v
    let count := min (d.histBits + 1) 64
    d.take w v = { d with hist := last, histBits := count, seen := d.seen || decide (count = 64 ∧ last = w) } := by
  obtain ⟨n, hn⟩ := Option.ne_none_iff_exists'.1 h
  simp [WordDetector.take, hn, Bool.decide_and, beq_eq_decide]

/-! ## A lane at a moment (log 6) -/

theorem ahead_of {s : State} {m : Nat} (h : s.laneTime ≤ m) (hm : m < 1250000) : s.ahead m = true := by
  simp [State.ahead, h, Config.windowBits, hm]

/-- What an engine keeps as its lane sends up to a moment and takes the bits received. -/
theorem moveTo_receive_frame (s : State) {e : Nat} (he : e < 16) (rx : List Bool) (m : Nat) :
    let r := ((s.moveTo m).engine e).receive rx
    r.state = (s.engine e).state ∧ r.context = (s.engine e).context ∧ r.localOffset = (s.engine e).localOffset ∧
      r.limitUntil = (s.engine e).limitUntil ∧ r.lane.checker.arm = (s.engine e).lane.checker.arm := by
  obtain ⟨hst, hctx, hoff, -, -, -, hlim, -, -, -, -, -, harm, -⟩ := receive_listens rx ((s.moveTo m).engine e)
  rw [moveTo_engine s m e he] at hst hctx hoff hlim harm ⊢
  simp_all

theorem moveTo_context (s : State) {e : Nat} (he : e < 16) (m : Nat) :
    ((s.moveTo m).engine e).context = (s.engine e).context := by
  simp [moveTo_engine s m e he]

theorem hear_eq (s : State) (e : Nat) (rx : List Bool) (m : Nat) :
    s.hear e rx m = (s.moveTo m).setEngine e (((s.moveTo m).engine e).receive rx) := rfl

/-! ## The checker's events (R31, R38, R40) -/

/-- The sync gain reported is taken. -/
def Engine.gainTaken (g : Engine) : Engine :=
  { g with lane := { g.lane with checker := { g.lane.checker with gain := false } } }

/-- The delay word leaves and the search for it begins, `counter` being read (R38). -/
def Engine.wordSent (g : Engine) (counter : Nat) : Engine :=
  { g with lane := { g.lane with
      gen := { g.lane.gen with wordLeft := 64 }, wordDet := ⟨some counter, 0, 0, false⟩, firstGain := true } }

/-- The level meter accumulates from the next tick on (R37). -/
def Engine.accumulates (g : Engine) : Engine :=
  { g with lane := { g.lane with meter := { g.lane.meter with accumulating := true } } }

theorem sendWord_eq (s : State) (e : Nat) : s.sendWord e = s.modEngine e (fun g => g.wordSent s.counterNow) := rfl

theorem accumulate_eq (s : State) (e : Nat) : s.accumulate e = s.onLanes e Engine.accumulates := rfl

theorem syncGained_first {s : State} {e : Nat} (hst : (s.engine e).state = .soak) (hf : (s.engine e).lane.firstGain = false) :
    s.syncGained e e = (s.sendWord e).accumulate e := by
  simp [State.syncGained, hst, hf]

theorem syncGained_later {s : State} {e l : Nat} (hst : (s.engine l).state = .soak)
    (h : e ≠ l ∨ (s.engine l).lane.firstGain = true) : s.syncGained e l = s := by
  have hnot : ¬(e = l ∧ (!(s.engine l).lane.firstGain) = true) := by
    rintro ⟨heq, hf⟩
    rcases h with h | h
    · exact h heq
    · simp [h] at hf
  simp only [State.syncGained, hst, if_neg hnot]

theorem syncGained_calibrating {s : State} {e l : Nat} (hst : (s.engine l).state = .calibrating) :
    ((s.engine l).limitUntil ≠ none →
      s.syncGained e l = (s.sendWord l).modEngine l (fun g => { g with limitUntil := none })) ∧
    ((s.engine l).limitUntil = none → s.syncGained e l = s) := by
  refine ⟨fun hl => ?_, fun hl => ?_⟩
  · simp [State.syncGained, hst, Option.isSome_iff_ne_none.2 hl]
  · simp [State.syncGained, hst, hl]

theorem leadOf_self {s : State} {e : Nat} (h : (s.engine e).state ≠ .following) : s.leadOf e = e := if_neg h

/-- CHECKER_SYNC_GAIN: the bits up to the gain are received, the gain is taken, and the lead acts on it. -/
theorem exec_checkerSyncGain {s : State} {e : Fin 16} {rx : List Bool} {m : Nat} (hm : s.laneTime ≤ m) (hlt : m < 1250000)
    (hg : (((s.moveTo m).engine e.val).receive rx).lane.checker.gain = true) :
    exec (.checkerSyncGain e rx m) s = .next
      (((s.moveTo m).setEngine e.val (((s.moveTo m).engine e.val).receive rx).gainTaken).syncGained e.val
        (s.leadOf e.val)) := by
  have hself : (s.hear e.val rx m).engine e.val = ((s.moveTo m).engine e.val).receive rx := engine_setEngine_self _ _ _ e.isLt
  have hdue : (s.ahead m && ((s.hear e.val rx m).engine e.val).lane.checker.gain) = true := by
    rw [ahead_of hm hlt, hself, hg]; rfl
  refine (event_true _ s (fun t => ((t.hear e.val rx m).takeGain e.val).syncGained e.val (s.leadOf e.val)) hdue).trans
    (congrArg _ ?_)
  exact congrArg (fun t : State => t.syncGained e.val (s.leadOf e.val)) (modEngine_setEngine _ e.isLt _ _)

/-- The first gain of a soak, on the lead's lane (R37, R38). -/
theorem firstGain_effect {b : State} {e : Nat} (he : e < 16) {g : Engine} (hctx : g.context = (b.engine e).context) :
    let t := ((b.setEngine e g).sendWord e).accumulate e
    t.engine e = (g.wordSent b.counterNow).accumulates ∧ b.OnlyEngine t e ∧ t = { b with engines := t.engines } ∧
      ((b.engine e).wide = true → e + 1 < 16 → t.engine (e + 1) = (b.engine (e + 1)).accumulates) := by
  intro t
  let u := (b.setEngine e g).sendWord e
  have hu : u = b.setEngine e (g.wordSent b.counterNow) := modEngine_setEngine b he g _
  have ht : t = (b.setEngine e (g.wordSent b.counterNow)).onLanes e Engine.accumulates := by rw [← hu]; rfl
  have hself : (b.setEngine e (g.wordSent b.counterNow)).engine e = g.wordSent b.counterNow := engine_setEngine_self _ _ _ he
  have hwide : ((b.setEngine e (g.wordSent b.counterNow)).engine e).wide = (b.engine e).wide := by
    rw [hself]; exact wide_congr hctx
  rw [ht]
  refine ⟨by rw [onLanes_self _ _ _ he, hself], ?_, onLanes_eta _ _ _, fun hw h16 => ?_⟩
  · exact OnlyEngine_trans hwide (OnlyEngine_setEngine b e _) (OnlyEngine_onLanes _ e _ (fun _ => ⟨rfl, rfl, rfl, rfl, rfl⟩))
  · rw [onLanes_follower _ _ _ (hwide.trans hw) h16, engine_setEngine_ne _ _ _ _ (by omega)]

/-! ## Soak (R31 to R34) -/

/-- SYNC_LOSS: the bits up to the end of the bad block are received. -/
theorem exec_syncLoss {s : State} {e : Fin 16} {rx : List Bool} {v : Bool} {m : Nat} (hm : s.laneTime ≤ m) (hlt : m < 1250000)
    (hin : (((s.moveTo m).engine e.val).receive rx).lane.checker.inSync = true)
    (hout : (((s.moveTo m).engine e.val).receive (rx ++ [v])).lane.checker.inSync = false) :
    exec (.syncLoss ⟨e, m⟩ (rx ++ [v])) s = .next (s.hear e.val (rx ++ [v]) m) := by
  have hself : ∀ l, (s.hear e.val l m).engine e.val = ((s.moveTo m).engine e.val).receive l :=
    fun l => engine_setEngine_self _ _ _ e.isLt
  have hdue : (s.ahead m && s.losesSync e.val (rx ++ [v]) m) = true := by
    simp [ahead_of hm hlt, State.losesSync, hself, hin, hout]
  exact event_true _ s (fun t => t.hear e.val (rx ++ [v]) m) hdue

/-- A marker placed waits for the next bit of the sequence (R33). -/
def Engine.markerWaits (g : Engine) : Engine :=
  { g with lane := { g.lane with gen := { g.lane.gen with markersDue := g.lane.gen.markersDue + 1 } } }

theorem placeMarker_eq (s : State) (e : Nat) :
    s.placeMarker e = (s.modEngine e (fun g => { g with markersSent := g.markersSent + 1 })).onLanes e Engine.markerWaits := rfl

/-- A marker on each lane of a probe. -/
theorem placeMarker_effect (s : State) {e : Nat} (he : e < 16) :
    (s.placeMarker e).engine e = { s.engine e with markersSent := (s.engine e).markersSent + 1 }.markerWaits ∧
      ((s.engine e).wide = true → e + 1 < 16 → (s.placeMarker e).engine (e + 1) = (s.engine (e + 1)).markerWaits) ∧
      s.OnlyEngine (s.placeMarker e) e ∧ s.placeMarker e = { s with engines := (s.placeMarker e).engines } := by
  rw [placeMarker_eq]
  have hself := modEngine_self s e (fun g => { g with markersSent := g.markersSent + 1 }) he
  have hwide : ((s.modEngine e (fun g => { g with markersSent := g.markersSent + 1 })).engine e).wide = (s.engine e).wide := by
    rw [hself]; rfl
  refine ⟨by rw [onLanes_self _ _ _ he, hself], fun hw h16 => ?_, ?_, onLanes_eta _ _ _⟩
  · rw [onLanes_follower _ _ _ (hwide.trans hw) h16, modEngine_ne _ _ _ _ (by omega)]
  · exact OnlyEngine_trans hwide (OnlyEngine_modEngine s e _) (OnlyEngine_onLanes _ e _ (fun _ => ⟨rfl, rfl, rfl, rfl, rfl⟩))

/-! ## O56 -/

section
variable {e : Fin 16} {s : State} {x : Context}

/-- The first sync gain of a soak sends the delay word; a later one is taken. -/
theorem exec_soakGain {rx : List Bool} {m : Nat} (hst : (s.engine e.val).state = .soak) (hm : s.laneTime ≤ m)
    (hlt : m < 1250000)
    (hg : (((s.moveTo m).engine e.val).receive rx).lane.checker.gain = true) :
    let b := s.moveTo m
    let r := (b.engine e.val).receive rx
    (r.lane.firstGain = false → exec (.checkerSyncGain e rx m) s =
      .next (((b.setEngine e.val r.gainTaken).sendWord e.val).accumulate e.val)) ∧
    (r.lane.firstGain = true → exec (.checkerSyncGain e rx m) s = .next (b.setEngine e.val r.gainTaken)) := by
  intro b r
  obtain ⟨hrst, -⟩ := moveTo_receive_frame s e.isLt rx m
  have hself : (b.setEngine e.val r.gainTaken).engine e.val = r.gainTaken := engine_setEngine_self _ _ _ e.isLt
  have hsoak : ((b.setEngine e.val r.gainTaken).engine e.val).state = .soak := by rw [hself]; exact hrst.trans hst
  have hexec := exec_checkerSyncGain hm hlt hg
  rw [leadOf_self (by simp [hst])] at hexec
  refine ⟨fun hf => hexec.trans (congrArg _ (syncGained_first hsoak ?_)),
    fun hf => hexec.trans (congrArg _ (syncGained_later hsoak (.inr ?_)))⟩
  · rw [hself]; exact hf
  · rw [hself]; exact hf

end

/-- Settles O56: the events of a soak, then the generator and the checker bit by bit. -/
theorem soakMeasures : Obligations.SoakMeasures := by
  refine ⟨fun e s x hst hx => ⟨fun rx m hm hlt => ?gain, fun rx v m hm hlt harm => ?loss, fun hleft hdue => ?marker⟩,
    fun e s rx m hst hlead hm hlt => ?follower, fun g rx v => ⟨rfl, receive_append g rx v⟩,
    fun g v harm => receive_unarmed g [v] harm, fun g w => ?generator, fun g v hin => ?hunting,
    fun g v harm hin => ?inSync⟩
  case gain =>
    intro b r hg
    obtain ⟨hfirst, hlater⟩ := exec_soakGain hst hm hlt hg
    obtain ⟨hrst, hrctx, -⟩ := moveTo_receive_frame s e.isLt rx m
    have hbctx := moveTo_context s e.isLt m
    have hwide : x.rate = .wide → (b.engine e.val).wide = true := fun hr => by
      rw [wide_of_context (hbctx.trans hx), hr]; rfl
    by_cases hf : r.lane.firstGain = true
    · have hself : (b.setEngine e.val r.gainTaken).engine e.val = r.gainTaken := engine_setEngine_self _ _ _ e.isLt
      refine ⟨_, hlater hf, by rw [hself]; rfl, fun h => absurd (hf.symm.trans h) (by decide),
        fun _ => by rw [hself]; exact ⟨rfl, rfl⟩, fun _ _ => ?_, by rw [hself]; rfl,
        by rw [hself]; exact hrst.trans hst, by rw [hself]; exact hrctx.trans hx,
        OnlyEngine_setEngine b _ _, rfl⟩
      rw [engine_setEngine_ne _ _ _ _ (by omega)]
      exact (if_pos hf).symm
    · obtain ⟨hself, honly, heta, hfollow⟩ := firstGain_effect (b := b) e.isLt (g := r.gainTaken) (hrctx.trans hbctx.symm)
      refine ⟨_, hfirst (by simpa using hf), by rw [hself]; rfl, fun _ => by rw [hself]; exact ⟨rfl, rfl, rfl, rfl⟩,
        fun h => absurd h hf, fun hr h16 => ?_, by rw [hself]; rfl, by rw [hself]; exact hrst.trans hst,
        by rw [hself]; exact hrctx.trans hx, honly, heta⟩
      exact (hfollow (hwide hr) h16).trans (if_neg hf).symm
  case loss =>
    intro b r r' hin hout
    obtain ⟨-, -, -, -, hrarm⟩ := moveTo_receive_frame s e.isLt rx m
    have hlast : r' = r.takeBit v := receive_append _ rx v
    exact ⟨exec_syncLoss hm hlt hin hout, hlast ▸ takeBit_loses_sync (hrarm.trans harm) hin (hlast ▸ hout)⟩
  case marker =>
    obtain ⟨hself, hfollow, honly, heta⟩ := placeMarker_effect s e.isLt
    have hmarker : (s.engine e.val).markerDue = true := by
      simp [Engine.markerDue, hst, hx, markerTime, Nat.lt_of_succ_le hleft, hdue]
    refine ⟨_, event_true _ s (fun t => t.placeMarker e.val) hmarker, by rw [hself]; rfl, by rw [hself]; rfl,
      fun hr h16 => ?_, by rw [hself]; exact hst, by rw [hself]; exact hx, by rw [hself]; rfl, honly, heta⟩
    rw [hfollow (by rw [wide_of_context hx, hr]; rfl) h16]
    rfl
  case follower =>
    intro b r hg
    have hexec := exec_checkerSyncGain hm hlt hg
    have hne : partner e.val ≠ e.val := by unfold partner; split <;> omega
    rw [show s.leadOf e.val = partner e.val from if_pos hst] at hexec
    refine hexec.trans (congrArg _ (syncGained_later ?_ (.inl (Ne.symm hne))))
    rw [engine_setEngine_ne _ _ _ _ (Ne.symm hne), moveTo_engine s m _ (partner_lt e.isLt)]
    simpa using hlead
  case generator =>
    exact ⟨fun hw hm => ⟨output_plain hw hm w, next_plain hw hm⟩,
      fun hw hm => ⟨output_marker hw hm w, next_marker hw hm⟩,
      fun i hi hw => ⟨output_word hi hw w, next_word hi hw⟩⟩
  case hunting =>
    obtain ⟨hmeas, hhunt⟩ := checkBit_hunting hin v
    exact ⟨hmeas, fun harm hload => (hhunt harm).trans (hunt_loading hload v),
      fun harm hload hmiss => (hhunt harm).trans (hunt_missed hload hmiss),
      fun harm hload hv h0 hrun => (hhunt harm).trans ((hunt_hit hload hv h0).1 hrun),
      fun harm hload hv h0 hrun => (hhunt harm).trans ((hunt_hit hload hv h0).2 hrun)⟩
  case inSync =>
    intro step own takes
    have key : ∀ what, g.lane.arriving.map Placed.what = what →
        g.lane.gen.taken g.lane.arriving = { g.lane.gen with placed := [] } → takes what := by
      intro what harr htaken
      obtain ⟨hgen, hchecker, hmeas⟩ := takeBit_inSync harm hin v
      rw [harr] at hchecker hmeas
      unfold takes
      intro wanted h
      have hwanted : g.lane.checker.expects g.delayWord what = wanted := by
        rcases what with _ | _ | i <;> rfl
      have hown : what = some .marker → wanted = own := by rintro rfl; rfl
      rw [hwanted] at hchecker hmeas
      have hmeas : h.meas = _ := hmeas
      have hchecker : h.lane.checker = _ := hchecker
      obtain ⟨hB, hE, hX, hH, hK⟩ := count_effect g.meas what v wanted
        (Checker.blockLost (g.lane.checker.blockBits + 1) (g.lane.checker.blockErrors + oneIf (v != wanted)))
      refine ⟨hgen.trans htaken, fun harm' => hmeas.trans (if_neg harm'), fun harm' => ?_, ?_⟩
      · rw [hmeas, if_pos harm']
        refine ⟨hB, hE, hX, hH.trans ?_, rfl⟩
        by_cases hw : what = some .marker
        · rw [hown hw]
        · simp [hw]
      · intro k bits errors onward
        obtain ⟨hbad, hgood, hmid⟩ := check_cases k (v != wanted)
        rw [oneIf_bne] at hbad hgood hmid hK hmeas
        refine ⟨fun hb he => ⟨fun harm' => ?_, hchecker.trans (hbad hb he)⟩, fun hb he => hchecker.trans (hgood hb he),
          fun hb => hchecker.trans (hmid hb), fun harm' hkept => ?_⟩
        · rw [hmeas, if_pos harm', hK, (blockLost_iff _ _).2 ⟨hb, he⟩]
          rfl
        · have hnot : Checker.blockLost bits errors = false := by
            rw [Bool.eq_false_iff, ne_eq, blockLost_iff]
            rintro ⟨hb, he⟩
            exact hkept.elim (fun h1 => h1 hb) (fun h2 => absurd he (Nat.not_le.2 h2))
          rw [hmeas, if_pos harm', hK, hnot]
          rfl
    refine ⟨fun h0 => key none ?_ ?_, fun p hp hreg hsent => key (some p.what) ?_ ?_⟩
    · rw [arriving_nil h0]; rfl
    · rw [arriving_nil h0]; exact taken_nil h0
    · rw [arriving_singleton hp hreg hsent]; rfl
    · rw [arriving_singleton hp hreg hsent]; exact taken_singleton hp

end Sys2Proof.Machine
end


section
/-! SUPPORT. The delay word: found, lost or out of time, and the calibration that ends with it (R38, R40). -/

namespace Sys2Proof.Machine

/-! ## A request of an engine -/

theorem State.Asks.of_amc {s b t : State} {r : Request} (h : b.Asks t r) (ha : b.amc = s.amc) : s.Asks t r := by
  simpa only [State.Asks, ha] using h

/-- An engine asks for its DISCONNECT, on a state `u` that differs from `b` in its engines alone. -/
theorem startDisconnect_effect {b u : State} {e : Nat} (he : e < 16) (hu : u = { b with engines := u.engines })
    (honly : b.OnlyEngine u e)
    (hap : (u.engine e).context.bind Context.accessPoint = (b.engine e).context.bind Context.accessPoint)
    (hwide : (u.engine e).wide = (b.engine e).wide) :
    let t := u.startDisconnect e
    (t.engine e).state = .disconnecting ∧
      b.Asks t ⟨.disconnect, (b.engine e).context.bind Context.accessPoint, some (laneSet e (b.engine e).wide), .engine e⟩ ∧
      b.OnlyEngine t e ∧ t = { b with engines := t.engines, amc := t.amc } := by
  intro t
  have hamc : u.amc = b.amc := by rw [hu]
  refine ⟨by rw [startDisconnect_self u e he]; rfl, ?_, OnlyEngine_trans hwide honly (startDisconnect_only u e he), ?_⟩
  · rw [← hap, ← hwide]
    exact (startDisconnect_asks u e).of_amc hamc
  · rw [show t = { u with engines := t.engines, amc := t.amc } from startDisconnect_eta u e, hu]

/-! ## The word is found (R38) -/

/-- The delay measured (R38). -/
def Engine.measured (g : Engine) (ticks : Nat) : Engine := { g.stopSearch with meas := { g.meas with ticksT := some ticks } }

/-- A calibration stores its delay (R40). -/
def Engine.calibratedBy (g : Engine) (ticks : Nat) : Engine :=
  { g.modContext (fun x => { x with calDelay := some (delayUnits ticks) }) with localOffset := min (delayUnits ticks) 2000 }

theorem wordTicks_moveTo (s : State) (m d : Nat) :
    (s.moveTo m).wordTicks d = ((s.freeCounter : Int) + ((m : Int) - 64) / 10 - (d : Int)).toNat := by
  simp [State.wordTicks, State.counterAtWord, State.moveTo, wordBits, Config.bitsPerCount]

theorem wordFound_eq {s : State} {e d ticks : Nat} (hd : (s.engine e).lane.wordDet.search = some d)
    (ht : s.wordTicks d = ticks) :
    ((s.engine e).state = .calibrating → s.wordFound e = (s.measureDelay e ticks).calibrated e ticks) ∧
    ((s.engine e).state ≠ .calibrating → s.wordFound e = s.measureDelay e ticks) := by
  subst ht
  refine ⟨fun h => ?_, fun h => ?_⟩ <;> simp only [State.wordFound, hd]
  · exact if_pos h
  · exact if_neg h

theorem wordTicks_setEngine (s : State) (e : Nat) (g : Engine) (d : Nat) : (s.setEngine e g).wordTicks d = s.wordTicks d := rfl

theorem wordDue_of {s : State} {e d ticks : Nat} (hd : (s.engine e).lane.wordDet.search = some d)
    (hseen : (s.engine e).lane.wordDet.seen = true) (ht : s.wordTicks d = ticks) (hle : ticks ≤ wordLimit) :
    s.wordDue e = true := by
  rw [State.wordDue, hd, hseen, Option.any_some, Bool.true_and, ht]
  exact decide_eq_true hle

theorem wordOverdue_of {s : State} {e d : Nat} (hd : (s.engine e).lane.wordDet.search = some d)
    (hle : d + wordLimit ≤ s.counterNow) : s.wordOverdue e = true := by
  rw [State.wordOverdue, hd, Option.any_some]
  exact decide_eq_true hle

theorem counterNow_moveTo (s : State) (m : Nat) : (s.moveTo m).counterNow = s.freeCounter + m / 10 := by
  simp only [State.counterNow, State.moveTo, Config.bitsPerCount]

/-- DELAY_WORD_FOUND acts on a lane that has heard the word within 20 ms of its departure. -/
theorem exec_delayWordFound {s : State} {e : Fin 16} {rx : List Bool} {m d ticks : Nat} (hm : s.laneTime ≤ m)
    (hlt : m < 1250000) (hd : (((s.moveTo m).engine e.val).receive rx).lane.wordDet.search = some d)
    (hseen : (((s.moveTo m).engine e.val).receive rx).lane.wordDet.seen = true)
    (hticks : (s.moveTo m).wordTicks d = ticks) (hle : ticks ≤ wordLimit) :
    let r := ((s.moveTo m).engine e.val).receive rx
    let u := (s.moveTo m).setEngine e.val (r.measured ticks)
    (r.state = .calibrating → exec (.delayWordFound e rx m) s = .next (u.calibrated e.val ticks)) ∧
    (r.state ≠ .calibrating → exec (.delayWordFound e rx m) s = .next u) := by
  intro r u
  have hself : (s.hear e.val rx m).engine e.val = r := engine_setEngine_self _ _ _ e.isLt
  have hheard : (s.hear e.val rx m).wordTicks d = ticks := by rw [hear_eq, wordTicks_setEngine, hticks]
  have hsearch : ((s.hear e.val rx m).engine e.val).lane.wordDet.search = some d := by rw [hself]; exact hd
  have hfound : ((s.hear e.val rx m).engine e.val).lane.wordDet.seen = true := by rw [hself]; exact hseen
  have hdue : (s.ahead m && (s.hear e.val rx m).wordDue e.val) = true := by
    rw [ahead_of hm hlt, wordDue_of hsearch hfound hheard hle]; rfl
  have hexec : exec (.delayWordFound e rx m) s = .next ((s.hear e.val rx m).wordFound e.val) :=
    event_true _ s (fun t => (t.hear e.val rx m).wordFound e.val) hdue
  have hmeasure : (s.hear e.val rx m).measureDelay e.val ticks = u := modEngine_setEngine (s.moveTo m) e.isLt r _
  obtain ⟨hcal, hother⟩ := wordFound_eq hsearch hheard
  rw [hmeasure, hself] at hcal hother
  exact ⟨fun h => by rw [hexec, hcal h], fun h => by rw [hexec, hother h]⟩

theorem calibrated_eq (s : State) (e ticks : Nat) :
    s.calibrated e ticks = (s.modEngine e (fun g => g.calibratedBy ticks)).startDisconnect e := rfl

theorem bind_accessPoint_map {f : Context → Context} (hf : ∀ x, (f x).accessPoint = x.accessPoint) (o : Option Context) :
    (o.map f).bind Context.accessPoint = o.bind Context.accessPoint := by
  cases o <;> simp [hf]

theorem wide_modContext {f : Context → Context} (hf : ∀ x, (f x).rate = x.rate) (g : Engine) :
    (g.modContext f).wide = g.wide := by
  unfold Engine.wide Engine.modContext
  cases g.context <;> simp [hf]

/-- A calibration that has found its word stores the delay and asks for its DISCONNECT. -/
theorem calibrated_effect {b : State} {e : Nat} (he : e < 16) {g : Engine} (hctx : g.context = (b.engine e).context)
    (ticks : Nat) :
    let t := (b.setEngine e g).calibrated e ticks
    t.engine e = { (g.calibratedBy ticks).enter .disconnecting with lane := g.lane.disarmed } ∧
      b.Asks t ⟨.disconnect, (b.engine e).context.bind Context.accessPoint, some (laneSet e (b.engine e).wide), .engine e⟩ ∧
      b.OnlyEngine t e ∧ t = { b with engines := t.engines, amc := t.amc } := by
  intro t
  let u := b.setEngine e (g.calibratedBy ticks)
  have ht : t = u.startDisconnect e := by
    rw [show t = (b.setEngine e g).calibrated e ticks from rfl, calibrated_eq, modEngine_setEngine b he]
  have hself : u.engine e = g.calibratedBy ticks := engine_setEngine_self _ _ _ he
  have hap : (u.engine e).context.bind Context.accessPoint = (b.engine e).context.bind Context.accessPoint := by
    rw [hself, ← hctx]
    exact bind_accessPoint_map (f := fun x => { x with calDelay := some (delayUnits ticks) }) (fun _ => rfl) g.context
  have hwide : (u.engine e).wide = (b.engine e).wide := by
    rw [hself, ← wide_congr hctx]
    exact wide_modContext (f := fun x => { x with calDelay := some (delayUnits ticks) }) (fun _ => rfl) g
  obtain ⟨-, hasks, honly, heta⟩ := startDisconnect_effect he (u := u) rfl (OnlyEngine_setEngine b e _) hap hwide
  rw [ht]
  exact ⟨by rw [startDisconnect_self u e he, hself]; rfl, hasks, honly, heta⟩

/-! ## The word is lost (R38, R40) -/

/-- DELAY_WORD_TIMEOUT stops the search 20 ms after the word's departure. -/
theorem exec_delayWordTimeout {s : State} {e : Fin 16} {m d : Nat} (hd : (s.engine e.val).lane.wordDet.search = some d)
    (hm : s.laneTime ≤ m) (hlt : m < 1250000) (hle : d + wordLimit ≤ s.freeCounter + m / 10) :
    let u := (s.moveTo m).modEngine e.val Engine.stopSearch
    ((s.engine e.val).state = .calibrating → exec (.delayWordTimeout ⟨e, m⟩) s = .next (u.startDisconnect e.val)) ∧
    ((s.engine e.val).state ≠ .calibrating → exec (.delayWordTimeout ⟨e, m⟩) s = .next u) := by
  intro u
  have hsearch : ((s.moveTo m).engine e.val).lane.wordDet.search = some d := by simp [moveTo_engine s m _ e.isLt, hd]
  have hst : ((s.moveTo m).engine e.val).state = (s.engine e.val).state := by simp [moveTo_engine s m _ e.isLt]
  have hdue : (s.ahead m && (s.moveTo m).wordOverdue e.val) = true := by
    rw [ahead_of hm hlt, wordOverdue_of hsearch (by rwa [counterNow_moveTo])]; rfl
  have hexec : exec (.delayWordTimeout ⟨e, m⟩) s = .next ((s.moveTo m).wordLost e.val) :=
    event_true _ s (fun t => (t.moveTo m).wordLost e.val) hdue
  refine ⟨fun h => ?_, fun h => ?_⟩ <;> rw [hexec, State.wordLost, hst]
  · rw [if_pos h]
  · rw [if_neg h]

/-! ## The gain of a calibration (R40) -/

/-- The gain of a calibration sends its word and ends the limit of the wait. -/
theorem lastWord_effect (b : State) {e : Nat} (he : e < 16) (g : Engine) :
    ((b.setEngine e g).sendWord e).modEngine e (fun h => { h with limitUntil := none }) =
      b.setEngine e { g.wordSent b.counterNow with limitUntil := none } := by
  have hword : (b.setEngine e g).sendWord e = b.setEngine e (g.wordSent b.counterNow) := modEngine_setEngine b he g _
  rw [hword, modEngine_setEngine b he]

theorem exec_calibrationGain {s : State} {e : Fin 16} {rx : List Bool} {m : Nat} (hst : (s.engine e.val).state = .calibrating)
    (hm : s.laneTime ≤ m) (hlt : m < 1250000)
    (hg : (((s.moveTo m).engine e.val).receive rx).lane.checker.gain = true) :
    let b := s.moveTo m
    let r := (b.engine e.val).receive rx
    ((s.engine e.val).limitUntil ≠ none → exec (.checkerSyncGain e rx m) s =
      .next (b.setEngine e.val { r.gainTaken.wordSent b.counterNow with limitUntil := none })) ∧
    ((s.engine e.val).limitUntil = none → exec (.checkerSyncGain e rx m) s = .next (b.setEngine e.val r.gainTaken)) := by
  intro b r
  obtain ⟨hrst, -, -, hlim, -⟩ := moveTo_receive_frame s e.isLt rx m
  have hself : (b.setEngine e.val r.gainTaken).engine e.val = r.gainTaken := engine_setEngine_self _ _ _ e.isLt
  have hexec := exec_checkerSyncGain hm hlt hg
  rw [leadOf_self (by simp [hst])] at hexec
  obtain ⟨hfirst, hlater⟩ := syncGained_calibrating (s := b.setEngine e.val r.gainTaken) (e := e.val) (l := e.val)
    (by rw [hself]; exact hrst.trans hst)
  rw [hself] at hfirst hlater
  refine ⟨fun hl => hexec.trans (congrArg _ ((hfirst ?_).trans ?_)),
    fun hl => hexec.trans (congrArg _ (hlater (hlim.trans hl)))⟩
  · exact fun h => hl (hlim.symm.trans h)
  · exact lastWord_effect b e.isLt r.gainTaken

/-! ## O57 -/

/-- Settles O57: the detector bit by bit, the gain of a calibration, then the three ends of the search. -/
theorem delayWordGivesTheDelay : Obligations.DelayWordGivesTheDelay := by
  refine ⟨fun g v => ?detector, fun e s rx m hst hm hlt => ?gain, fun e s => ⟨fun rx m d hm hlt => ?found,
    fun d m hd hm hlt hle => ?lost, fun u hu hdue => ?limit⟩⟩
  case detector =>
    have htake : (g.receive [v]).lane.wordDet = g.lane.wordDet.take g.delayWord v := takeBit_wordDet g v
    exact ⟨receive_wordDet_off g [v], fun h => htake.trans (take_searching h _ v)⟩
  case gain =>
    intro b r l hg
    exact exec_calibrationGain hst hm hlt hg
  case found =>
    intro b r ticks hd hseen hle
    obtain ⟨hst, hctx, hoff, -⟩ := moveTo_receive_frame s e.isLt rx m
    have hrctx : r.context = (s.engine e.val).context := hctx
    have hbctx := moveTo_context s e.isLt m
    obtain ⟨hexec, hexec'⟩ := exec_delayWordFound hm hlt hd hseen (wordTicks_moveTo s m d) hle
    by_cases hcal : r.state = .calibrating
    · obtain ⟨hself, hasks, honly, heta⟩ := calibrated_effect (b := b) e.isLt (g := r.measured ticks)
        (hctx.trans hbctx.symm) ticks
      refine ⟨_, hexec hcal, by rw [hself]; rfl, by rw [hself]; rfl, fun hne => absurd (hst.symm.trans hcal) hne,
        fun _ => ⟨by rw [hself]; rfl, ?_, by rw [hself]; rfl, ?_, honly, heta⟩⟩
      · rw [hself]
        simp [Engine.enter, Engine.modContext, Engine.calibratedBy, Engine.measured, Engine.stopSearch, hrctx, delayUnits,
          Function.comp_def]
      · rw [hbctx, wide_congr hbctx] at hasks
        exact hasks.of_amc rfl
    · have hself : (b.setEngine e.val (r.measured ticks)).engine e.val = r.measured ticks := engine_setEngine_self _ _ _ e.isLt
      exact ⟨_, hexec' hcal, by rw [hself]; rfl, by rw [hself]; rfl,
        fun _ => ⟨by rw [hself]; exact hst, by rw [hself]; exact hctx, by rw [hself]; exact hoff,
          fun d hd => engine_setEngine_ne _ _ _ _ (Ne.symm hd), rfl⟩,
        fun h => absurd (hst.trans h) hcal⟩
  case lost =>
    obtain ⟨hexec, hexec'⟩ := exec_delayWordTimeout hd hm hlt hle
    have hself := modEngine_self (s.moveTo m) e.val Engine.stopSearch e.isLt
    have hbctx := moveTo_context s e.isLt m
    by_cases hcal : (s.engine e.val).state = .calibrating
    · obtain ⟨hst, hasks, honly, heta⟩ := startDisconnect_effect e.isLt (b := s.moveTo m)
        (u := (s.moveTo m).modEngine e.val Engine.stopSearch) rfl (OnlyEngine_modEngine _ _ _) (by rw [hself]; rfl)
        (by rw [hself]; rfl)
      have hgone := startDisconnect_self ((s.moveTo m).modEngine e.val Engine.stopSearch) e.val e.isLt
      rw [hself, moveTo_engine s m _ e.isLt] at hgone
      rw [hbctx, wide_congr hbctx] at hasks
      exact ⟨_, hexec hcal, by rw [hgone]; rfl, by rw [hgone]; rfl, by rw [hgone]; rfl,
        fun _ => ⟨hst, hasks.of_amc rfl, honly, heta⟩, fun h => absurd hcal h⟩
    · rw [moveTo_engine s m _ e.isLt] at hself
      exact ⟨_, hexec' hcal, by rw [hself]; rfl, by rw [hself]; rfl, by rw [hself]; rfl, fun h => absurd h hcal,
        fun _ => ⟨by rw [hself]; rfl, by rw [hself]; rfl, fun d hd => modEngine_ne _ _ _ _ hd, rfl⟩⟩
  case limit =>
    have hdue' : reached (s.engine e.val).limitUntil s.now = true := by simp [reached, hu, hdue]
    have hgone := startDisconnect_self s e.val e.isLt
    exact ⟨_, event_true _ s (fun t => t.startDisconnect e.val) hdue', by rw [hgone]; rfl, by rw [hgone]; rfl,
      by rw [hgone]; rfl, startDisconnect_effect e.isLt rfl (OnlyEngine_refl s _) rfl rfl⟩

end Sys2Proof.Machine
end


section
/-! SUPPORT. The completion of a matrix request: the answer read, the next request, the notice of a failure (R158 to R164,
R183). -/

namespace Sys2Proof.Machine

/-! ## An answer arrives byte by byte (R183) -/

theorem answerByte_begun (s : State) {got : List Byte} (h : got ≠ []) (b : Byte) :
    (got.length < 6 → (s.setAnswerRx got).answerByte b = s.setAnswerRx (got ++ [b])) ∧
    (6 ≤ got.length → (s.setAnswerRx got).answerByte b =
      match readAnswer (got ++ [b]) with
      | some a => (s.setAnswerRx []).takeAnswer a
      | none => s.setAnswerRx []) := by
  obtain ⟨r, rest, rfl⟩ := List.exists_cons_of_ne_nil h
  have hgap : (s.setAnswerRx (r :: rest)).answerGapDue = false := by simp [State.answerGapDue, State.setAnswerRx]
  have hlen : (r :: rest ++ [b]).length = (r :: rest).length + 1 := by simp
  rw [answerByte_in_time _ _ hgap]
  refine ⟨fun hlt => ?_, fun hle => ?_⟩
  · exact if_pos (by omega)
  · exact if_neg (by omega)

theorem foldl_answerByte_begun (s : State) (more : List Byte) :
    ∀ got : List Byte, got ≠ [] → got.length + more.length < 7 →
      more.foldl State.answerByte (s.setAnswerRx got) = s.setAnswerRx (got ++ more) := by
  induction more with
  | nil => simp
  | cons b rest ih =>
    intro got hgot hlen
    rw [List.length_cons] at hlen
    rw [List.foldl_cons, (answerByte_begun s hgot b).1 (by omega), ih _ (by simp) (by simp; omega)]
    simp

/-- A frame of seven bytes that is an answer is taken with its last byte. -/
theorem foldl_answerByte_frame {s : State} (hrx : s.amc.rx = []) {more : List Byte} {b : Byte} {a : Answer}
    (hlen : more.length = 5) (ha : readAnswer (0x5A :: more ++ [b]) = some a) :
    (0x5A :: more ++ [b]).foldl State.answerByte s = (s.setAnswerRx []).takeAnswer a := by
  have hstart : s.answerByte 0x5A = s.setAnswerRx [0x5A] := (answerByte_hunt s 0x5A hrx).trans (if_pos rfl)
  rw [List.cons_append, List.foldl_cons, hstart, List.foldl_append,
    foldl_answerByte_begun s more [0x5A] (by simp) (by simp [hlen]), List.foldl_cons, List.foldl_nil,
    (answerByte_begun s (by simp) b).2 (by simp [hlen])]
  exact congrArg (fun r : Option Answer => match r with
    | some a => (s.setAnswerRx []).takeAnswer a
    | none => s.setAnswerRx []) ha

theorem opOfByte_byte (op : MatrixOp) : opOfByte (BitVec.ofNat 8 op.byte).toNat = some op := by cases op <;> rfl

theorem reasonOfByte_byte (r : Reason) : reasonOfByte (BitVec.ofNat 8 r.byte).toNat = some r := by cases r <;> rfl

/-- An answer frame as it is read: five bytes behind its first, and its last. -/
theorem answerFrame_reads (seq : Byte) (op : MatrixOp) {code reason : Byte} {k : Completion}
    (hk : (code = 1 ∧ k = .done) ∨ (code = 2 ∧ ∃ r : Reason, reason = BitVec.ofNat 8 r.byte ∧ k = .refused r)) :
    ∃ more b, answerFrame code seq (BitVec.ofNat 8 op.byte) reason = 0x5A :: more ++ [b] ∧ more.length = 5 ∧
      readAnswer (0x5A :: more ++ [b]) = some ⟨k, seq.toNat, op⟩ := by
  obtain ⟨high, low, hcrc⟩ : ∃ high low, crcBytes [code, seq, BitVec.ofNat 8 op.byte, reason] = [high, low] :=
    ⟨_, _, rfl⟩
  have hop := opOfByte_byte op
  refine ⟨[code, seq, BitVec.ofNat 8 op.byte, reason, high], low, by rw [answerFrame, hcrc]; rfl, rfl,
    (if_pos ⟨rfl, hcrc⟩).trans ?_⟩
  rcases hk with ⟨rfl, rfl⟩ | ⟨rfl, r, rfl, rfl⟩
  · simp only [rd8, List.cons_append, List.nil_append, List.getD_cons_succ, List.getD_cons_zero, hop]
    rfl
  · simp only [rd8, List.cons_append, List.nil_append, List.getD_cons_succ, List.getD_cons_zero, hop, reasonOfByte_byte r]
    rfl

theorem takeAnswer_current {s : State} {q : CurrentRequest} (hq : s.amc.current = some q) (k : Completion) :
    s.takeAnswer ⟨k, q.seq, q.request.op⟩ = s.complete q k := by
  simp [State.takeAnswer, hq]

/-- The state whose request completes: behind an answer the receiver hunts again. -/
def State.heard (s : State) : Completion → State
  | .timeout => s
  | .done => s.setAnswerRx []
  | .refused _ => s.setAnswerRx []

theorem exec_matrixAnswer {s : State} {q : CurrentRequest} (hq : s.amc.current = some q) (hrx : s.amc.rx = []) {seq : Byte}
    (hseq : q.seq = seq.toNat) {code reason : Byte} {k : Completion}
    (hk : (code = 1 ∧ k = .done) ∨ (code = 2 ∧ ∃ r : Reason, reason = BitVec.ofNat 8 r.byte ∧ k = .refused r)) :
    exec (.matrixAnswer (answerFrame code seq (BitVec.ofNat 8 q.request.op.byte) reason)) s =
      .next ((s.setAnswerRx []).complete q k) := by
  obtain ⟨more, b, hframe, hlen, hread⟩ := answerFrame_reads seq q.request.op hk
  change execMatrixAnswer _ s = _
  rw [hframe, execMatrixAnswer, foldl_answerByte_frame hrx hlen hread, ← hseq, takeAnswer_current (s := s.setAnswerRx []) hq]

/-- The step that completes the current request. -/
theorem exec_completes {s : State} {c : Instr} {q : CurrentRequest} {k : Completion} (h : Completes s c q k) :
    exec c s = .next ((s.heard k).complete q k) := by
  cases k with
  | done =>
    obtain ⟨hq, hrx, seq, hseq, rfl⟩ := h
    exact exec_matrixAnswer hq hrx hseq (.inl ⟨rfl, rfl⟩)
  | refused r =>
    obtain ⟨hq, hrx, seq, hseq, rfl⟩ := h
    exact exec_matrixAnswer hq hrx hseq (.inr ⟨rfl, r, rfl, rfl⟩)
  | timeout =>
    obtain ⟨hq, rfl, sent, hsent, hlate⟩ := h
    have hdue : s.timeoutDue = true := by simp [State.timeoutDue, CurrentRequest.expired, hq, hsent, hlate]
    refine (event_true _ s State.timeOut hdue).trans (congrArg _ ?_)
    simp only [State.timeOut, hq]
    rfl

/-! ## The next request (R158, R159) -/

/-- The matrix link once its current request, no RESET_ALL, is done with. -/
def Amc.advanced (a : Amc) : Amc :=
  match a.fifo with
  | [] => { a with current := none }
  | r :: rest =>
    { a with fifo := rest, current := some ⟨r, a.nextSeq, a.timeout, none⟩, nextSeq := (a.nextSeq + 1) % 256 }

theorem advanced_link (a : Amc) : a.advanced.link = a.link := by unfold Amc.advanced; split <;> rfl

theorem closeRequest_of_op {s : State} {q : CurrentRequest} (h : q.request.op ≠ .resetAll) (k : Completion) :
    s.closeRequest q k = { s with amc := s.amc.advanced } := by
  have hlink : linkAfter s.amc q.request k = s.amc.link := if_neg h
  simp only [State.closeRequest, hlink, h, decide_false, Bool.false_and, State.startRunIf, State.pump, Amc.advanced]
  cases s.amc.fifo <;> rfl

theorem movesOn_of_advanced {s t : State} (h : t.amc = s.amc.advanced) : MovesOn s t [] := by
  unfold MovesOn
  rw [h, List.append_nil, Amc.advanced]
  cases s.amc.fifo <;> simp

/-- A request asked for behind the others of the FIFO. -/
theorem movesOn_of_asks {s b t : State} {r : Request} (hb : b.amc = s.amc.advanced) (h : b.Asks t r) : MovesOn s t [r] := by
  obtain ⟨hbusy, hfree⟩ := h
  rw [hb] at hbusy hfree
  unfold MovesOn
  cases hf : s.amc.fifo with
  | nil =>
    have hadv : s.amc.advanced = { s.amc with current := none } := by simp [Amc.advanced, hf]
    rw [hfree (by rw [hadv]) (by rw [hadv]; exact hf), hadv]
    simp [hf]
  | cons r' rest =>
    have hadv : s.amc.advanced = { s.amc with
        fifo := rest, current := some ⟨r', s.amc.nextSeq, s.amc.timeout, none⟩, nextSeq := (s.amc.nextSeq + 1) % 256 } := by
      simp [Amc.advanced, hf]
    rw [hbusy (by rw [hadv]; simp), hadv]
    simp

/-! ## The notice of a failed request (R164) -/

theorem matrixFault_eq {q : CurrentRequest} {e : Nat} (hr : q.request.requester = .engine e) (k : Completion)
    (link : LinkState) : noticeRecord noticeMatrixFault (matrixFaultPayload q k link) = faultRecord q e k link := by
  simp [noticeRecord, noticeMatrixFault, matrixFaultPayload, faultRecord, hr, bit]

/-- `b` is `s` as the requester of `q`, engine `e`, hears of the failure `k`; no request of `s` is a RESET_ALL that completes.
Its notice has been offered and the next request is current. -/
structure HearsOfFailure (s b : State) (q : CurrentRequest) (e : Nat) (k : Completion) : Prop where
  state : b = { s with amc := s.amc.advanced, mli := b.mli }
  slots : b.mli.slots = s.mli.slots
  tx    : s.mli.tx.length < 48 → b.mli.tx = s.mli.tx ++ [faultRecord q e k s.amc.link]

theorem hearsOfFailure (s : State) {q : CurrentRequest} {e : Nat} {k : Completion} (hop : q.request.op ≠ .resetAll)
    (hr : q.request.requester = .engine e) (hk : k ≠ .done) :
    HearsOfFailure s ((s.closeRequest q k).faultNotice q k) q e k := by
  rw [closeRequest_of_op hop]
  have hnotice : State.faultNotice { s with amc := s.amc.advanced } q k =
      State.offer { s with amc := s.amc.advanced } noticeMatrixFault (matrixFaultPayload q k s.amc.link) := by
    simp [State.faultNotice, hk, hr, advanced_link]
  rw [hnotice]
  refine ⟨?_, by simp, fun hlen => ?_⟩
  · unfold State.offer; split <;> rfl
  · rw [offer_tx, if_pos hlen, matrixFault_eq hr]

theorem requesterActs_engine {s : State} {r : Request} {e : Nat} {x : Context} (hr : r.requester = .engine e)
    (hx : (s.engine e).context = some x) (k : Completion) :
    (r.op = .connect → s.requesterActs r k = s.connectCompleted e x k) ∧
    (r.op = .loopPort → s.requesterActs r k = s.loopPortCompleted e x k) := by
  refine ⟨fun hop => ?_, fun hop => ?_⟩ <;> simp only [State.requesterActs, hr, hx, hop]

end Sys2Proof.Machine
end


section
/-! SUPPORT. What a grading does: the verdict that goes out, the count of a campaign probe and the campaign's end (R89, R127,
R130, R133). -/

namespace Sys2Proof.Machine

/-! ## The verdict goes out (R130, R133) -/

theorem noticeVerdict_eq (c : Nat) (v : Verdict) : noticeRecord noticeVerdict (gradedPayload c v) =
    ⟨.notice, 0x81, 0, .ok, false, false, be16 c ++ [0, 0] ++ v.block, none⟩ := by
  simp [noticeRecord, noticeVerdict, gradedPayload, be8]

/-- The records with which a verdict goes out where they have a place, `last` being the verdict before it. -/
def State.verdictRecords (s : State) (x : Context) (c : Nat) (last : Option Verdict) (v : Verdict) : List TxRecord :=
  if x.kind = .campaign then
    if offersCampaignVerdict s.campaign.params.noticeMode last v.grade then [noticeRecord noticeVerdict (gradedPayload c v)]
    else []
  else match x.slot with
    | none => [noticeRecord noticeVerdict (gradedPayload c v)]
    | some i => match s.slot i with
      | some d => if d.placed then [] else [⟨.reply, d.code, d.tag, .ok, false, false, be16 c ++ v.block, some i⟩]
      | none => []

theorem verdictRecords_length (s : State) (x : Context) (c : Nat) (last : Option Verdict) (v : Verdict) :
    (s.verdictRecords x c last v).length ≤ 1 := by
  unfold State.verdictRecords
  repeat' split
  all_goals simp

theorem verdictRecords_congr {s t : State} (hcamp : t.campaign = s.campaign) (hslots : t.mli.slots = s.mli.slots) (x : Context)
    (c : Nat) (last : Option Verdict) (v : Verdict) : t.verdictRecords x c last v = s.verdictRecords x c last v := by
  have hslot : ∀ i, t.slot i = s.slot i := fun i => by rw [State.slot, State.slot, hslots]
  simp only [State.verdictRecords, hcamp, hslot]

theorem answer_tx_not_held (s : State) (i : Nat) (st : Status) (b : Bool) (p : List Byte)
    (h : ∀ d, s.slot i = some d → d.placed = true) : (s.answer i st b p).mli.tx = s.mli.tx := by
  unfold State.answer
  split
  · rw [if_pos (h _ ‹_›)]
  · rfl

theorem tx_reportVerdict (s : State) (x : Context) (c : Nat) (last : Option Verdict) (v : Verdict)
    (hlen : s.mli.tx.length < 48) : (s.reportVerdict x c last v).mli.tx = s.mli.tx ++ s.verdictRecords x c last v := by
  unfold State.reportVerdict State.verdictRecords
  by_cases hk : x.kind = .campaign
  · simp only [if_pos hk]
    split
    · rw [offer_tx, if_pos hlen]
    · rw [List.append_nil]
  simp only [if_neg hk]
  cases x.slot with
  | none => exact (offer_tx _ _ _).trans (if_pos hlen)
  | some i =>
    dsimp only
    cases hd : s.slot i with
    | none => rw [answer_tx_not_held _ _ _ _ _ (by simp [hd]), List.append_nil]
    | some d =>
      by_cases hp : d.placed = true
      · rw [answer_tx_not_held _ _ _ _ _ (by simp [hd, hp])]; simp [hp]
      · rw [answer_tx_held _ _ _ _ _ d hd (by simpa using hp)]; simp [hp]

theorem sameGroup_iff (g h : Grade) : sameGroup g h ↔ g.group = h.group := by
  cases g <;> cases h <;> simp [sameGroup, Grade.group]

theorem verdictGoesOut (s : State) (x : Context) (c : Nat) (v : Verdict) :
    VerdictGoesOut s x c v (s.verdictRecords x c (s.circuit c).last v) := by
  unfold VerdictGoesOut State.verdictRecords
  rw [← noticeVerdict_eq]
  refine ⟨fun hk ho => ?_, fun hk ho => ?_, fun hk hs => ?_, fun hk i d hs hd hp => ?_⟩
  · rw [if_pos hk, if_pos]
    cases hm : s.campaign.params.noticeMode with
    | all => rfl
    | nonPass => simpa [hm, offersCampaignVerdict] using ho
    | change =>
      cases hl : (s.circuit c).last with
      | none => rfl
      | some w => simpa [hm, hl, sameGroup_iff, offersCampaignVerdict] using ho
  · rw [if_pos hk, if_neg]
    cases hm : s.campaign.params.noticeMode with
    | all => simp [hm] at ho
    | nonPass => simpa [hm, offersCampaignVerdict] using ho
    | change =>
      cases hl : (s.circuit c).last with
      | none => simp [hm, hl] at ho
      | some w => simpa [hm, hl, sameGroup_iff, offersCampaignVerdict] using ho
  · simp only [if_neg hk, hs]
  · simp [if_neg hk, hs, hd, hp]

/-! ## A campaign probe is counted (R89) -/

theorem counter_eq_idxOf (g : Grade) : g.counter =
    [Grade.stuckLoop, .noLoop, .aisReceived, .foreignEcho, .signalDropout, .routeFault, .errorFault, .lossFault,
      .marginal, .limited, .pass, .blocked, .cancelled].idxOf g := by
  cases g <;> rfl

/-- A campaign record in which a probe has been graded. -/
def Campaign.counted (k : Campaign) (g : Grade) : Campaign :=
  { k with summary := k.summary.countGrade g, inFlight := k.inFlight - 1 }

theorem campaign_countGraded (s : State) (g : Grade) : (s.countGraded g).campaign = s.campaign.counted g := by
  simp [State.countGraded, State.modCampaign, Campaign.counted]

theorem runDue_countGraded {s : State} (h : s.runDue = true) (g : Grade) : (s.countGraded g).runDue = true := by
  unfold State.countGraded State.startRunIf
  dsimp only
  split
  · rfl
  · exact h

/-- What a grading leaves behind: the circuit record, the count, and the records of the verdict. -/
theorem gradeProbe_effect (s : State) {e : Nat} {x : Context} {c : Nat} (hx : (s.engine e).context = some x)
    (hc : x.circuit = some c) :
    (s.gradeProbe e).campaign =
      (if x.kind = .campaign then s.campaign.counted (s.verdictFor e x c).grade else s.campaign) ∧
    (s.mli.tx.length < 48 → (s.gradeProbe e).mli.tx =
      s.mli.tx ++ s.verdictRecords x c (s.circuit c).last (s.verdictFor e x c)) ∧
    (s.runDue = true → (s.gradeProbe e).runDue = true) := by
  unfold State.gradeProbe
  simp only [hx, hc, reportVerdict_frame]
  by_cases hk : x.kind = .campaign
  · simp only [if_pos hk]
    refine ⟨campaign_countGraded _ _, fun hlen => ?_, fun h => runDue_countGraded (s := s.setCircuit c _) h _⟩
    rw [tx_reportVerdict _ _ _ _ _ (by simpa using hlen)]
    simp [State.verdictRecords, hk, campaign_countGraded, Campaign.counted]
  · simp only [if_neg hk]
    refine ⟨rfl, fun hlen => ?_, fun h => h⟩
    exact tx_reportVerdict (s.setCircuit c _) x c _ _ hlen

/-! ## The campaign may end with it (R127) -/

theorem countedIn_congr {s t u : State} {v : Verdict} (h : CountedIn s t v) (hcamp : u.campaign = t.campaign)
    (hcls : u.classes = t.classes) : CountedIn s u v := by
  simpa only [CountedIn, hcamp, hcls, State.cls] using h

theorem endRecord_congr {t u : State} (hcamp : u.campaign = t.campaign) (hcls : u.classes = t.classes) :
    endRecord u = endRecord t := by
  simp only [endRecord, State.summaryBlock, State.queuedCount, hcamp, hcls]

theorem endGoesOut_congr {s t u : State} {x : Context} {records : List TxRecord} (h : EndGoesOut s t x records)
    (hcamp : u.campaign = t.campaign) (hcls : u.classes = t.classes) : EndGoesOut s u x records := by
  simpa only [EndGoesOut, endRecord_congr hcamp hcls] using h

theorem countedIn_of_start {s a t : State} {v : Verdict} (h : CountedIn a t v) (hcamp : a.campaign = s.campaign)
    (hcls : a.classes = s.classes) : CountedIn s t v := by
  simpa only [CountedIn, LastGraded, State.cls, hcamp, hcls] using h

theorem endGoesOut_of_start {s a t : State} {x : Context} {records : List TxRecord} (h : EndGoesOut a t x records)
    (hcamp : a.campaign = s.campaign) (hcls : a.classes = s.classes) : EndGoesOut s t x records := by
  simpa only [EndGoesOut, LastGraded, State.cls, hcamp, hcls] using h

section
variable {s t : State} {g : Grade}

theorem campaignOver_counted (hcamp : t.campaign = s.campaign.counted g) (hcls : t.classes = s.classes) :
    CampaignOver t t ↔ LastGraded s := by
  simp only [CampaignOver, LastGraded, hcamp, Campaign.counted, cls_congr hcls]
  rw [Nat.sub_eq_zero_iff_le]

/-- The count of a graded campaign probe and the test of the end behind it. -/
theorem countedIn_testEnd {v : Verdict} (hcamp : t.campaign = s.campaign.counted v.grade) (hcls : t.classes = s.classes) :
    CountedIn s t.testEnd v := by
  have hover := campaignOver_counted hcamp hcls
  have hgrades : t.testEnd.campaign.summary = s.campaign.summary.countGrade v.grade := by
    by_cases hl : LastGraded s
    · rw [testEnd_of_over (hover.2 hl), campaign_endCampaign, hcamp]; rfl
    · rw [testEnd_of_not_over (mt hover.1 hl), hcamp]; rfl
  refine ⟨fun i => ?_, ?_, fun hl => ?_, fun hl => ?_⟩
  · rw [hgrades, ← counter_eq_idxOf]
    exact bump_get _ _ i
  · by_cases hl : LastGraded s
    · rw [testEnd_of_over (hover.2 hl), campaign_endCampaign, hcamp]; rfl
    · rw [testEnd_of_not_over (mt hover.1 hl), hcamp]; rfl
  · rw [testEnd_of_over (hover.2 hl), campaign_endCampaign, hcamp]
    exact ⟨rfl, rfl, rfl, fun k _ => by rw [cls_endCampaign, cls_congr hcls]⟩
  · rw [testEnd_of_not_over (mt hover.1 hl), hcamp]
    exact ⟨rfl, rfl, rfl, hcls⟩

theorem endGoesOut_testEnd {x : Context} (hk : x.kind = .campaign) (hcamp : t.campaign = s.campaign.counted g)
    (hcls : t.classes = s.classes) (hlen : t.mli.tx.length < 48) :
    ∃ ended, EndGoesOut s t.testEnd x ended ∧ t.testEnd.mli.tx = t.mli.tx ++ ended := by
  have hover := campaignOver_counted hcamp hcls
  by_cases hl : LastGraded s
  · refine ⟨[endRecord t.testEnd], ⟨fun _ _ => rfl, fun h => absurd h (by simp [hk, hl])⟩, ?_⟩
    rw [testEnd_of_over (hover.2 hl), tx_endCampaign, if_pos hlen]
  · refine ⟨[], ⟨fun _ h => absurd h hl, fun _ => rfl⟩, ?_⟩
    rw [testEnd_of_not_over (mt hover.1 hl), List.append_nil]

end

end Sys2Proof.Machine
end


section
/-! SUPPORT. Engines that leave, with the entries removed behind them (R26, R28, R65), and a CONNECT or LOOP_PORT that fails (R40,
R49, R50, R69). -/

namespace Sys2Proof.Machine

/-! ## An engine leaves (R28, R65) -/

theorem engineLeaves_of_pending {s : State} {e : Nat} (h : (s.engine e).disablePending = true) :
    s.engineLeaves e = s.goOffline e := if_pos h

theorem engineLeaves_of_not_pending {s : State} {e : Nat} (h : (s.engine e).disablePending = false) :
    s.engineLeaves e = s.goIdle e := if_neg (by simp [h])

theorem localOffset_of_hasLeft {g h : Engine} (hleft : HasLeft g h) : h.localOffset = g.localOffset := by
  obtain ⟨-, -, -, -, hoff⟩ := hleft
  exact hoff

theorem hasLeft_engineLeaves (s : State) {e : Nat} (he : e < 16) : HasLeft (s.engine e) ((s.engineLeaves e).engine e) := by
  cases h : (s.engine e).disablePending with
  | true =>
    rw [engineLeaves_of_pending h, engine_goOffline_self s he]
    exact ⟨(if_pos h).symm, rfl, rfl, rfl, rfl⟩
  | false =>
    rw [engineLeaves_of_not_pending h, State.goIdle, startRun_engine, engine_setEngine_self _ _ _ he]
    exact ⟨(if_neg (by simp [h])).symm, h, rfl, rfl, rfl⟩

theorem runDue_engineLeaves {s : State} (h : s.runDue = true) (e : Nat) : (s.engineLeaves e).runDue = true := by
  unfold State.engineLeaves
  split
  · rw [runDue_goOffline, h]; rfl
  · rfl

/-- The entries that go with an engine as it leaves. -/
def Engine.drops (g : Engine) (e : Nat) (x : SpotEntry) : Bool := g.disablePending && x.pins e

theorem spot_engineLeaves (s : State) (e : Nat) :
    (s.engineLeaves e).spot = s.spot.filter (fun x => !(s.engine e).drops e x) := by
  cases h : (s.engine e).disablePending with
  | true => simp [engineLeaves_of_pending h, spot_goOffline, Engine.drops, h]
  | false => simp [engineLeaves_of_not_pending h, State.goIdle, Engine.drops, h]

/-- From `s` to `t` entries have left the spot queue, and records stand behind the others, none where no entry has left. -/
def State.RepliesBehind (s t : State) : Prop :=
  t.spot.Sublist s.spot ∧ ∃ more, t.mli.tx = s.mli.tx ++ more ∧ (t.spot = s.spot → more = [])

theorem State.RepliesBehind.trans {s t u : State} (h : s.RepliesBehind t) (k : t.RepliesBehind u) : s.RepliesBehind u := by
  obtain ⟨hsub, more, htx, hnone⟩ := h
  obtain ⟨ksub, more', ktx, knone⟩ := k
  refine ⟨ksub.trans hsub, more ++ more', by rw [ktx, htx, List.append_assoc], fun hspot => ?_⟩
  have hst : t.spot = s.spot := hsub.antisymm (hspot ▸ ksub)
  rw [hnone hst, knone (hspot.trans hst.symm), List.append_nil]

theorem repliesBehind_engineLeaves (s : State) (e : Nat) : s.RepliesBehind (s.engineLeaves e) := by
  refine ⟨by rw [spot_engineLeaves]; exact List.filter_sublist, ?_⟩
  cases h : (s.engine e).disablePending with
  | false => exact ⟨[], by simp [engineLeaves_of_not_pending h, State.goIdle], fun _ => rfl⟩
  | true =>
    rw [engineLeaves_of_pending h]
    by_cases hspot : (s.goOffline e).spot = s.spot
    · have hnone : s.spot.filter (SpotEntry.pins e) = [] := by
        rw [spot_goOffline, List.filter_eq_self] at hspot
        exact List.filter_eq_nil_iff.2 (fun x hx => by simpa using hspot x hx)
      exact ⟨[], by rw [goOffline_eq, hnone]; simp, fun _ => rfl⟩
    · obtain ⟨more, hmore⟩ := tx_prefix_goOffline s e
      exact ⟨more, hmore.symm, fun h => absurd h hspot⟩

/-! ## A probe's engines leave (R26) -/

theorem pairLeaves_of_wide {s : State} {e : Nat} (h : (s.engine e).wide = true) :
    s.pairLeaves e = (s.engineLeaves e).engineLeaves (e + 1) := if_pos h

/-- The engines of a probe leave, each by its own disable pending. -/
theorem pairLeaves_effect (s : State) {e : Nat} (he : e < 16) (hpair : (s.engine e).wide = true → e + 1 < 16) :
    let t := s.pairLeaves e
    let works (d : Nat) : Prop := d = e ∨ ((s.engine e).wide = true ∧ d = e + 1)
    (∀ d, works d → HasLeft (s.engine d) (t.engine d)) ∧ (∀ d, ¬works d → t.engine d = s.engine d) ∧
      t.spot = s.spot.filter (fun x => !((s.engine e).drops e x || ((s.engine e).wide && (s.engine (e + 1)).drops (e + 1) x))) ∧
      (s.runDue = true → t.runDue = true) ∧ s.RepliesBehind t := by
  intro t works
  cases hw : (s.engine e).wide with
  | false =>
    rw [show t = s.engineLeaves e from pairLeaves_of_not_wide hw]
    refine ⟨fun d hd => ?_, fun d hd => engine_engineLeaves_ne _ _ _ (fun h => hd (.inl h)), ?_,
      fun h => runDue_engineLeaves h e, repliesBehind_engineLeaves s e⟩
    · obtain rfl : d = e := hd.elim id (fun h => absurd (hw.symm.trans h.1) (by decide))
      exact hasLeft_engineLeaves s he
    · simpa using spot_engineLeaves s e
  | true =>
    have hfollower : (s.engineLeaves e).engine (e + 1) = s.engine (e + 1) := engine_engineLeaves_ne _ _ _ (by omega)
    rw [show t = (s.engineLeaves e).engineLeaves (e + 1) from pairLeaves_of_wide hw]
    refine ⟨fun d hd => ?_, fun d hd => ?_, ?_, fun h => runDue_engineLeaves (runDue_engineLeaves h e) _,
      (repliesBehind_engineLeaves s e).trans (repliesBehind_engineLeaves _ _)⟩
    · rcases hd with rfl | ⟨-, rfl⟩
      · rw [engine_engineLeaves_ne _ _ _ (by omega)]
        exact hasLeft_engineLeaves s he
      · rw [← hfollower]
        exact hasLeft_engineLeaves _ (hpair hw)
    · rw [engine_engineLeaves_ne _ _ _ (fun h => hd (.inr ⟨hw, h⟩)), engine_engineLeaves_ne _ _ _ (fun h => hd (.inl h))]
    · rw [spot_engineLeaves, spot_engineLeaves, hfollower, List.filter_filter]
      exact List.filter_congr (fun x _ => by simp [Bool.and_comm])

/-! ## A CONNECT fails (R49, R50, R69) -/

/-- The context of a probe whose CONNECT has failed. -/
def Context.blockedOff (x : Context) : Context := { x with outcomes := x.outcomes ++ [.blocked] }

/-- The verdict of a probe whose CONNECT has failed. -/
def State.blockedVerdict (s : State) (e : Nat) (x : Context) (c : Nat) : Verdict :=
  ((s.slotAfterConnect x).writeOutcome e .blocked).verdictFor e x.blockedOff c

theorem grade_blockedVerdict (s : State) (e : Nat) (x : Context) (c : Nat) : (s.blockedVerdict e x c).grade = .blocked :=
  (verdictOf_grade _ _ _ _).1 (by simp [Context.blockedOff])

theorem verdictOf_frame (x : Context) (e : Nat) (m : Measured) (q : GradeLimits) :
    (verdictOf x e m q).campaignNumber = x.campaignNumber ∧ (verdictOf x e m q).engine = some e := by
  unfold verdictOf; split <;> exact ⟨rfl, rfl⟩

theorem blockedVerdict_frame (s : State) (e : Nat) (x : Context) (c : Nat) : (s.blockedVerdict e x c).grade = .blocked ∧
    (s.blockedVerdict e x c).campaignNumber = x.campaignNumber ∧ (s.blockedVerdict e x c).engine = some e :=
  ⟨grade_blockedVerdict s e x c, verdictOf_frame x.blockedOff e _ _⟩

/-- A BLOCKED verdict writes no baseline (R90). -/
theorem graded_blocked (r : Circuit) (mode : CheckMode) (k : ContextKind) {v : Verdict} (h : v.grade = .blocked) :
    r.graded mode k v = { r with status := if k = .releaseOnly then .openLoop else .idle, last := some v } := by
  simp [Circuit.graded, newBaseDelay, newBaseLevel, writesBaselines, statusAfter, h]

theorem slotAfterConnect_mli (s : State) (x : Context) :
    (s.slotAfterConnect x).mli = s.mli ∧ (s.slotAfterConnect x).campaign = s.campaign ∧
    (s.slotAfterConnect x).now = s.now := by
  unfold State.slotAfterConnect
  split <;> simp

section
variable {s : State} {e c : Nat} {x : Context}

theorem engine_connectFails (he : e < 16) (hx : (s.engine e).context = some x) :
    (s.connectFails e x).engine e = { s.engine e with context := some x.blockedOff } := by
  rw [engine_congr (connectFails_frame s e x).1]
  exact writeOutcome_self s e .blocked he x hx

/-- The context of the engine as its failed CONNECT is graded. -/
theorem context_blocked (he : e < 16) (hx : (s.engine e).context = some x) :
    (((s.slotAfterConnect x).writeOutcome e .blocked).engine e).context = some x.blockedOff := by
  have hx' : ((s.slotAfterConnect x).engine e).context = some x := by rw [engine_congr (s := s) (by simp)]; exact hx
  rw [writeOutcome_self _ e .blocked he x hx']
  rfl

theorem circuit_connectFails (he : e < 16) (hx : (s.engine e).context = some x) (hc : x.circuit = some c) (hlt : c < 2048) :
    (s.connectFails e x).circuit c =
      { s.circuit c with
        status := if x.kind = .releaseOnly then .openLoop else .idle
        last := some (s.blockedVerdict e x c) } ∧
    ∀ d, d ≠ c → (s.connectFails e x).circuit d = s.circuit d := by
  have hcirc : ∀ d, ((s.slotAfterConnect x).writeOutcome e .blocked).circuit d = s.circuit d :=
    fun d => circuit_congr (by simp) d
  have hgraded : ∀ d, (s.connectFails e x).circuit d = _ := fun d =>
    (circuit_congr (by simp [State.connectFails]) d).trans
      (circuit_gradeProbe ((s.slotAfterConnect x).writeOutcome e .blocked) e (context_blocked he hx) hc d)
  refine ⟨?_, fun d hd => ?_⟩
  · rw [hgraded, if_pos ⟨rfl, hlt⟩, hcirc]
    exact graded_blocked _ _ _ (grade_blockedVerdict s e x c)
  · rw [hgraded, if_neg (fun h => hd h.1.symm), hcirc]

/-- The tables other than the circuits behind a failed CONNECT. -/
theorem connectFails_tables (s : State) (e : Nat) (x : Context) :
    (s.connectFails e x).nodes = (s.slotAfterConnect x).nodes ∧
    (s.connectFails e x).openLoops = (s.slotAfterConnect x).openLoops ∧ (s.connectFails e x).now = s.now := by
  refine ⟨by simp [State.connectFails], by simp [State.connectFails], ?_⟩
  simpa [State.connectFails] using (slotAfterConnect_mli s x).2.2

theorem spot_connectFails (s : State) (e : Nat) (x : Context) : (s.connectFails e x).spot = s.spot := by
  simp [State.connectFails]

/-- What a failed CONNECT of a campaign probe adds to the campaign and to the transmit queue. -/
theorem connectFails_counts (he : e < 16) (hx : (s.engine e).context = some x) (hc : x.circuit = some c)
    (hk : x.kind = .campaign) :
    CountedIn s (s.connectFails e x) (s.blockedVerdict e x c) ∧
    (s.mli.tx.length < 47 → ∃ ended, EndGoesOut s (s.connectFails e x) x ended ∧ (s.connectFails e x).mli.tx =
      s.mli.tx ++ s.verdictRecords x c (s.circuit c).last (s.blockedVerdict e x c) ++ ended) := by
  let b := (s.slotAfterConnect x).writeOutcome e .blocked
  obtain ⟨hmli, hcampaign, -⟩ := slotAfterConnect_mli s x
  have hbmli : b.mli = s.mli := by simp [b, hmli]
  have hbcamp : b.campaign = s.campaign := by simp [b, hcampaign]
  have hfails : s.connectFails e x = (b.gradeProbe e).testEnd := by simp [State.connectFails, State.testEndIf, hk, b]
  obtain ⟨hcamp, htx, -⟩ := gradeProbe_effect b (context_blocked he hx) hc
  have hcamp : (b.gradeProbe e).campaign = s.campaign.counted (s.blockedVerdict e x c).grade := by
    rw [hcamp, hbcamp]; exact if_pos hk
  have hcls : (b.gradeProbe e).classes = s.classes := by simp [b]
  rw [hfails]
  refine ⟨countedIn_testEnd hcamp hcls, fun hlen => ?_⟩
  have htx := htx (by rw [hbmli]; omega)
  rw [verdictRecords_congr hbcamp (by rw [hbmli]), hbmli, circuit_congr (s := s) (by simp [b])] at htx
  have hone := verdictRecords_length s x.blockedOff c (s.circuit c).last (s.blockedVerdict e x c)
  obtain ⟨ended, hends, htx'⟩ := endGoesOut_testEnd hk hcamp hcls (by
    rw [htx, List.length_append]; exact Nat.lt_of_le_of_lt (Nat.add_le_add_left hone _) (by omega))
  exact ⟨ended, hends, by rw [htx', htx]; rfl⟩

/-- A failed CONNECT of another probe leaves the campaign as it was. -/
theorem connectFails_uncounted (he : e < 16) (hx : (s.engine e).context = some x) (hc : x.circuit = some c)
    (hk : x.kind ≠ .campaign) :
    (s.connectFails e x).campaign = s.campaign ∧ (s.connectFails e x).classes = s.classes ∧
    (s.mli.tx.length < 48 → (s.connectFails e x).mli.tx =
      s.mli.tx ++ s.verdictRecords x c (s.circuit c).last (s.blockedVerdict e x c)) := by
  let b := (s.slotAfterConnect x).writeOutcome e .blocked
  obtain ⟨hmli, hcampaign, -⟩ := slotAfterConnect_mli s x
  have hbmli : b.mli = s.mli := by simp [b, hmli]
  have hbcamp : b.campaign = s.campaign := by simp [b, hcampaign]
  have hfails : s.connectFails e x = b.gradeProbe e := by simp [State.connectFails, State.testEndIf, hk, b]
  obtain ⟨hcamp, htx, -⟩ := gradeProbe_effect b (context_blocked he hx) hc
  rw [hfails]
  refine ⟨hcamp.trans ((if_neg hk).trans hbcamp), by simp [b], fun hlen => ?_⟩
  rw [htx (by rwa [hbmli]), verdictRecords_congr hbcamp (by rw [hbmli]), hbmli, circuit_congr (s := s) (by simp [b])]
  rfl

theorem runDue_connectFails (he : e < 16) (hx : (s.engine e).context = some x) (hc : x.circuit = some c)
    (hk : x.kind ≠ .releaseOnly) : (s.connectFails e x).runDue = true := by
  obtain ⟨-, -, hrun⟩ := gradeProbe_effect ((s.slotAfterConnect x).writeOutcome e .blocked) (context_blocked he hx) hc
  simp only [State.connectFails, testEndIf_frame]
  exact hrun (by simp [State.slotAfterConnect, hk, State.returnSlot])

end

/-! ## The point of a refused CONNECT (R49, R95) -/

theorem point_pointRefused (s : State) {p : Nat} (hp : p < 256) :
    (s.pointRefused p).point p = ⟨.outOfService, none⟩ ∧ ∀ m, m ≠ p → (s.pointRefused p).point m = s.point m := by
  unfold State.pointRefused State.unlock
  refine ⟨?_, fun m hm => ?_⟩
  · rw [startRun_point, point_setPoint_self _ _ _ hp, point_setPoint_self _ _ _ hp]
  · rw [startRun_point, point_setPoint_ne _ _ _ _ hm.symm, point_setPoint_ne _ _ _ _ hm.symm]

end Sys2Proof.Machine
end


section
/-! SUPPORT. A CONNECT or LOOP_PORT that completes REFUSED or TIMEOUT, from the completion to the engine's leaving (R40, R49, R50,
R69, R164). -/

namespace Sys2Proof.Machine

/-! ## The state on which a failed CONNECT acts -/

/-- `a` is `s` as the requester acts on the failure `k` of `q`: its notice has been offered, the next request is current, and
points may have changed. -/
structure ActsOnFailure (s a : State) (q : CurrentRequest) (e : Nat) (k : Completion) : Prop where
  state : a = { s with points := a.points, runDue := a.runDue, amc := s.amc.advanced, mli := a.mli }
  slots : a.mli.slots = s.mli.slots
  tx    : s.mli.tx.length < 48 → a.mli.tx = s.mli.tx ++ [faultRecord q e k s.amc.link]

section
variable {s a b : State} {q : CurrentRequest} {k : Completion} {e : Nat} {x : Context}

theorem HearsOfFailure.acts (h : HearsOfFailure s b q e k) : ActsOnFailure s b q e k := by
  refine ⟨?_, h.slots, h.tx⟩
  conv_lhs => rw [h.state]
  rw [h.state]

theorem HearsOfFailure.acts_pointRefused (h : HearsOfFailure s b q e k) (p : Nat) :
    ActsOnFailure s (b.pointRefused p) q e k := by
  refine ⟨?_, h.slots, h.tx⟩
  conv_lhs => rw [h.state]
  rw [h.state]
  rfl

theorem ActsOnFailure.engine (h : ActsOnFailure s a q e k) (d : Nat) : a.engine d = s.engine d := by rw [h.state]; rfl

theorem ActsOnFailure.amc (h : ActsOnFailure s a q e k) : a.amc = s.amc.advanced := by rw [h.state]

theorem ActsOnFailure.campaign (h : ActsOnFailure s a q e k) : a.campaign = s.campaign := by rw [h.state]

theorem ActsOnFailure.classes (h : ActsOnFailure s a q e k) : a.classes = s.classes := by rw [h.state]

theorem ActsOnFailure.circuit (h : ActsOnFailure s a q e k) (d : Nat) : a.circuit d = s.circuit d := by rw [h.state]; rfl

theorem ActsOnFailure.verdictRecords (h : ActsOnFailure s a q e k) (x : Context) (c : Nat) (v : Verdict) :
    a.verdictRecords x c (a.circuit c).last v = s.verdictRecords x c (s.circuit c).last v := by
  rw [verdictRecords_congr h.campaign h.slots, h.circuit]

end

/-! ## The engine leaves, or asks for its DISCONNECT -/

/-- From `b` to `t` engines, points and requests alone have changed, and entries have left the spot queue with the engines. -/
structure SettledBehind (b t : State) : Prop where
  circuits  : t.circuits = b.circuits
  nodes     : t.nodes = b.nodes
  campaign  : t.campaign = b.campaign
  classes   : t.classes = b.classes
  openLoops : t.openLoops = b.openLoops
  now       : t.now = b.now
  runDue    : b.runDue = true → t.runDue = true
  replies   : b.RepliesBehind t

theorem settledBehind_startDisconnect (b : State) (e : Nat) : SettledBehind b (b.startDisconnect e) := by
  constructor
  case replies => exact ⟨by simp, [], by simp, fun _ => rfl⟩
  all_goals simp

theorem settledBehind_pairLeaves (b : State) {e : Nat} (he : e < 16) (hpair : (b.engine e).wide = true → e + 1 < 16) :
    SettledBehind b (b.pairLeaves e) := by
  obtain ⟨-, -, -, hrun, hreplies⟩ := pairLeaves_effect b he hpair
  constructor
  case replies => exact hreplies
  case runDue => exact hrun
  all_goals simp

theorem link_startDisconnect (s : State) (e : Nat) : (s.startDisconnect e).amc.link = s.amc.link := by
  unfold State.startDisconnect State.issue State.pump
  dsimp only
  split <;> simp

section
variable {s a : State} {q : CurrentRequest} {k : Completion} {e p : Nat} {x : Context}

theorem ActsOnFailure.failed_self (h : ActsOnFailure s a q e k) (he : e < 16) (hx : (s.engine e).context = some x) :
    (a.connectFails e x).engine e = { s.engine e with context := some x.blockedOff } := by
  rw [engine_connectFails he (by rw [h.engine]; exact hx), h.engine]

theorem ActsOnFailure.failed_ne (h : ActsOnFailure s a q e k) {d : Nat} (hd : d ≠ e) :
    (a.connectFails e x).engine d = s.engine d := by
  rw [engine_connectFails_ne _ _ _ _ hd, h.engine]

theorem ActsOnFailure.failed_wide (h : ActsOnFailure s a q e k) (he : e < 16) (hx : (s.engine e).context = some x) :
    ((a.connectFails e x).engine e).wide = (x.rate == .wide) := by
  rw [h.failed_self he hx]; rfl

/-- The engine whose CONNECT timed out asks for its DISCONNECT. -/
theorem ActsOnFailure.timeout (h : ActsOnFailure s a q e k) (he : e < 16) (hx : (s.engine e).context = some x)
    (hp : x.accessPoint = some p) :
    let t := (a.connectFails e x).startDisconnect e
    (t.engine e).state = .disconnecting ∧ (t.engine e).meas = (s.engine e).meas ∧ s.OnlyEngine t e ∧
      MovesOn s t [⟨.disconnect, some p, some (laneSet e (x.rate == .wide)), .engine e⟩] := by
  intro t
  have hself := h.failed_self he hx
  have hwide := h.failed_wide he hx
  have honly : s.OnlyEngine (a.connectFails e x) e := by
    refine OnlyEngine_congr (writeOutcome_only s e .blocked) ?_
    rw [(connectFails_frame a e x).1, h.state]
    rfl
  have hasks := startDisconnect_asks (a.connectFails e x) e
  rw [hwide, hself] at hasks
  refine ⟨by rw [startDisconnect_self _ _ he]; rfl, by rw [startDisconnect_self _ _ he, hself]; rfl, ?_, ?_⟩
  · exact OnlyEngine_trans (hwide.trans (wide_of_context hx).symm) honly (startDisconnect_only _ e he)
  · rw [← hp]
    exact movesOn_of_asks (by simp [h.amc]) hasks

/-- A calibration entry goes with a probe's engines when it is pinned to one that goes OFFLINE. -/
theorem drops_calibration (s : State) (e d i : Nat) (wide : Bool) :
    ((s.engine e).drops e (.calibration d i) || (wide && (s.engine (e + 1)).drops (e + 1) (.calibration d i))) =
      ((s.engine d).disablePending && (d == e || (wide && d == e + 1))) := by
  simp only [Engine.drops, SpotEntry.pins]
  by_cases hde : d = e
  · subst hde
    simp
  have hne : (d == e) = false := beq_false_of_ne hde
  by_cases hdf : d = e + 1
  · subst hdf
    cases wide <;> simp [hne]
  · have hnf : (d == e + 1) = false := beq_false_of_ne hdf
    simp [hne, hnf]

/-- The engines of a probe whose CONNECT was refused leave. -/
theorem ActsOnFailure.refused (h : ActsOnFailure s a q e k) (he : e < 16) (hx : (s.engine e).context = some x)
    (hpair : x.rate = .wide → e + 1 < 16) :
    let t := (a.connectFails e x).pairLeaves e
    let works (d : Nat) : Prop := d = e ∨ (x.rate = .wide ∧ d = e + 1)
    let leavesOffline (d : Nat) : Bool := (s.engine d).disablePending && (d == e || (x.rate == .wide && d == e + 1))
    (∀ d, works d → HasLeft (s.engine d) (t.engine d)) ∧ (∀ d, ¬works d → t.engine d = s.engine d) ∧
      t.spot = s.spot.filter (fun y => match y with
        | .calibration d _ => !leavesOffline d
        | .probe _ _ => true
        | .releaseOnly _ => true) ∧
      MovesOn s t [] := by
  intro t works leavesOffline
  have hself := h.failed_self he hx
  have hwide := h.failed_wide he hx
  obtain ⟨hleft, hstay, hspot, -⟩ := pairLeaves_effect (a.connectFails e x) he (by simpa [hwide] using hpair)
  rw [hwide] at hleft hstay hspot
  simp only [beq_iff_eq] at hleft hstay
  refine ⟨fun d hd => ?_, fun d hd => ?_, ?_, movesOn_of_advanced (by simp [t, h.amc])⟩
  · have hd' := hleft d hd
    by_cases hde : d = e
    · subst hde
      rw [hself] at hd'
      exact hd'
    · rwa [h.failed_ne hde] at hd'
  · rw [hstay d hd, h.failed_ne (fun hde => hd (.inl hde))]
  · have hkept : (a.connectFails e x).spot = s.spot := by rw [spot_connectFails, h.state]
    rw [hspot, hkept, hself, h.failed_ne (Nat.succ_ne_self e)]
    refine List.filter_congr (fun y _ => ?_)
    cases y with
    | calibration d i =>
      exact congrArg (!·) (drops_calibration s e d i (x.rate == .wide))
    | probe c i => simp [Engine.drops, SpotEntry.pins]
    | releaseOnly c => simp [Engine.drops, SpotEntry.pins]

end

/-! ## A failed CONNECT from its completion on -/

theorem ActsOnFailure.link_failed {s a : State} {q : CurrentRequest} {k : Completion} {e : Nat} (h : ActsOnFailure s a q e k)
    (x : Context) : (a.connectFails e x).amc.link = s.amc.link := by
  rw [(connectFails_frame a e x).2.2, h.amc, advanced_link]

/-- The circuit is graded on some `a`, behind which the engine leaves or asks for its DISCONNECT. -/
theorem connectFailed_effect {s : State} {q : CurrentRequest} {k : Completion} {e p : Nat} {x : Context} (he : e < 16)
    (hk : k ≠ .done) (hr : q.request.requester = .engine e) (hop : q.request.op = .connect)
    (hx : (s.engine e).context = some x) (hp : x.accessPoint = some p) (hlt : p < 256) (hpair : x.rate = .wide → e + 1 < 16) :
    let t := s.complete q k
    let works (d : Nat) : Prop := d = e ∨ (x.rate = .wide ∧ d = e + 1)
    let leavesOffline (d : Nat) : Bool := (s.engine d).disablePending && (d == e || (x.rate == .wide && d == e + 1))
    ∃ a, ActsOnFailure s a q e k ∧ SettledBehind (a.connectFails e x) t ∧ t.amc.link = s.amc.link ∧
      (k = .timeout → t.points = s.points ∧ t.spot = s.spot ∧ (t.engine e).state = .disconnecting ∧
        (t.engine e).meas = (s.engine e).meas ∧ s.OnlyEngine t e ∧
        MovesOn s t [⟨.disconnect, some p, some (laneSet e (x.rate == .wide)), .engine e⟩]) ∧
      (k ≠ .timeout → t.point p = ⟨.outOfService, none⟩ ∧ (∀ m, m ≠ p → t.point m = s.point m) ∧
        (∀ d, works d → HasLeft (s.engine d) (t.engine d)) ∧ (∀ d, ¬works d → t.engine d = s.engine d) ∧
        t.spot = s.spot.filter (fun y => match y with
          | .calibration d _ => !leavesOffline d
          | .probe _ _ => true
          | .releaseOnly _ => true) ∧
        MovesOn s t []) := by
  intro t works leavesOffline
  have hear := hearsOfFailure s (by simp [hop]) hr hk
  generalize hb : (s.closeRequest q k).faultNotice q k = b at hear
  have hbx : (b.engine e).context = some x := by rw [hear.acts.engine]; exact hx
  have hpoint : ∀ m, b.point m = s.point m := fun m => by rw [hear.state]; rfl
  have ht : t = b.connectCompleted e x k := by
    rw [← (requesterActs_engine hr hbx k).1 hop, ← hb]
    rfl
  rw [ht]
  cases k with
  | done => exact absurd rfl hk
  | timeout =>
    have hacts := hear.acts
    refine ⟨b, hacts, settledBehind_startDisconnect _ e, (link_startDisconnect _ e).trans (hacts.link_failed x),
      fun _ => ⟨?_, ?_, hacts.timeout he hx hp⟩, fun h => absurd rfl h⟩
    · simp only [State.connectCompleted, startDisconnect_frame, connectFails_frame]
      rw [hear.state]
    · simp only [State.connectCompleted, startDisconnect_frame]
      rw [spot_connectFails, hear.state]
  | refused r =>
    have hacts := hear.acts_pointRefused p
    have hdone : b.connectCompleted e x (.refused r) = ((b.pointRefused p).connectFails e x).pairLeaves e := by
      simp [State.connectCompleted, hp]
    rw [hdone]
    obtain ⟨hout, hothers⟩ := point_pointRefused b hlt
    have hpts : ∀ m, (((b.pointRefused p).connectFails e x).pairLeaves e).point m = (b.pointRefused p).point m :=
      fun m => point_congr (by simp) m
    refine ⟨b.pointRefused p, hacts, settledBehind_pairLeaves _ he ?_, ?_, fun h => absurd h (by simp),
      fun _ => ⟨?_, fun m hm => ?_, hacts.refused he hx hpair⟩⟩
    · simpa [hacts.failed_wide he hx] using hpair
    · simpa using hacts.link_failed x
    · rw [hpts, hout]
    · rw [hpts, hothers m hm, hpoint]

end Sys2Proof.Machine
end


section
/-! SUPPORT. O45: a failed CONNECT of a CAMPAIGN or SPOT probe and of a RELEASE_ONLY probe, and a failed LOOP_PORT (R40, R49,
R50, R69). -/

namespace Sys2Proof.Machine

section
variable {s a t : State} {q : CurrentRequest} {k : Completion} {e c n p : Nat} {x : Context}

/-! ## What every failed CONNECT leaves behind -/

theorem ActsOnFailure.verdict_circuit (h : ActsOnFailure s a q e k) (he : e < 16) (hx : (s.engine e).context = some x)
    (hc : x.circuit = some c) (hlt : c < 2048) (ht : SettledBehind (a.connectFails e x) t) :
    t.circuit c = { s.circuit c with
        status := if x.kind = .releaseOnly then .openLoop else .idle
        last := some (a.blockedVerdict e x c) } ∧
      ∀ d, d ≠ c → t.circuit d = s.circuit d := by
  obtain ⟨hself, hothers⟩ := circuit_connectFails he (by rw [h.engine]; exact hx) hc hlt
  refine ⟨?_, fun d hd => ?_⟩
  · rw [circuit_congr ht.circuits, hself, h.circuit]
  · rw [circuit_congr ht.circuits, hothers d hd, h.circuit]

/-- A campaign probe is counted; any other leaves the campaign as it was. -/
theorem ActsOnFailure.counted (h : ActsOnFailure s a q e k) (he : e < 16) (hx : (s.engine e).context = some x)
    (hc : x.circuit = some c) (ht : SettledBehind (a.connectFails e x) t) :
    (x.kind = .campaign → CountedIn s t (a.blockedVerdict e x c)) ∧
      (x.kind ≠ .campaign → t.campaign = s.campaign ∧ t.classes = s.classes) := by
  have hax : (a.engine e).context = some x := by rw [h.engine]; exact hx
  refine ⟨fun hk => ?_, fun hk => ?_⟩
  · obtain ⟨hcounted, -⟩ := connectFails_counts he hax hc hk
    exact countedIn_congr (countedIn_of_start hcounted h.campaign h.classes) ht.campaign ht.classes
  · obtain ⟨hcamp, hcls, -⟩ := connectFails_uncounted he hax hc hk
    exact ⟨ht.campaign.trans (hcamp.trans h.campaign), ht.classes.trans (hcls.trans h.classes)⟩

theorem ActsOnFailure.now_kept (h : ActsOnFailure s a q e k) (ht : SettledBehind (a.connectFails e x) t) : t.now = s.now := by
  obtain ⟨-, -, hnow⟩ := connectFails_tables a e x
  rw [ht.now, hnow, h.state]

theorem ActsOnFailure.run_due (h : ActsOnFailure s a q e k) (he : e < 16) (hx : (s.engine e).context = some x)
    (hc : x.circuit = some c) (hk : x.kind ≠ .releaseOnly) (ht : SettledBehind (a.connectFails e x) t) : t.runDue = true :=
  ht.runDue (runDue_connectFails he (by rw [h.engine]; exact hx) hc hk)

/-- The node slot is returned, and no entry joins the open loops. -/
theorem ActsOnFailure.node_returned (h : ActsOnFailure s a q e k) (hk : x.kind ≠ .releaseOnly) (hn : x.farNode = some n)
    (hlt : n < 64) (ht : SettledBehind (a.connectFails e x) t) :
    t.node n = { s.node n with occupancy := (s.node n).occupancy - 1 } ∧ (∀ m, m ≠ n → t.node m = s.node m) ∧
      t.openLoops = s.openLoops := by
  have hnode : ∀ m, a.node m = s.node m := fun m => by rw [h.state]; rfl
  obtain ⟨hfails, hloops, -⟩ := connectFails_tables a e x
  have hnodes : t.nodes = (a.setNode n { a.node n with occupancy := (a.node n).occupancy - 1 }).nodes := by
    rw [ht.nodes, hfails]
    simp [State.slotAfterConnect, hk, hn, State.returnSlot]
  refine ⟨?_, fun m hm => ?_, ?_⟩
  · rw [node_congr hnodes, node_setNode_self _ _ _ hlt, hnode]
  · rw [node_congr hnodes, node_setNode_ne _ _ _ _ hm.symm, hnode]
  · rw [ht.openLoops, hloops, State.slotAfterConnect, if_neg hk, h.state]
    rfl

/-- The records of a failed CONNECT: its notice, the verdict, the campaign's end, and what stands behind an engine's leaving. -/
theorem ActsOnFailure.records (h : ActsOnFailure s a q e k) (he : e < 16) (hx : (s.engine e).context = some x)
    (hc : x.circuit = some c) (ht : SettledBehind (a.connectFails e x) t) (hlen : s.mli.tx.length < 46) :
    ∃ ended more, EndGoesOut s t x ended ∧
      t.mli.tx = s.mli.tx ++ faultRecord q e k s.amc.link ::
        s.verdictRecords x c (s.circuit c).last (a.blockedVerdict e x c) ++ ended ++ more ∧
      (t.spot = s.spot → more = []) := by
  have hax : (a.engine e).context = some x := by rw [h.engine]; exact hx
  have hatx := h.tx (by omega)
  have halen : a.mli.tx.length < 47 := by rw [hatx, List.length_append]; exact Nat.add_lt_add_right hlen 1
  have hspot : (a.connectFails e x).spot = s.spot := by rw [spot_connectFails, h.state]
  obtain ⟨-, more, hmore, hnone⟩ := ht.replies
  rw [hspot] at hnone
  obtain ⟨ended, hends, hfails⟩ : ∃ ended, EndGoesOut s t x ended ∧ (a.connectFails e x).mli.tx =
      a.mli.tx ++ a.verdictRecords x c (a.circuit c).last (a.blockedVerdict e x c) ++ ended := by
    by_cases hk : x.kind = .campaign
    · obtain ⟨ended, hends, hfails⟩ := (connectFails_counts he hax hc hk).2 halen
      exact ⟨ended, endGoesOut_congr (endGoesOut_of_start hends h.campaign h.classes) ht.campaign ht.classes, hfails⟩
    · exact ⟨[], ⟨fun h _ => absurd h hk, fun _ => rfl⟩,
        by rw [(connectFails_uncounted he hax hc hk).2.2 (by omega), List.append_nil]⟩
  refine ⟨ended, more, hends, ?_, hnone⟩
  rw [hmore, hfails, h.verdictRecords, hatx]
  simp

/-! ## A RELEASE_ONLY probe -/

/-- The slot of a RELEASE_ONLY probe passes to a fresh entry. -/
theorem ActsOnFailure.slot_passed (h : ActsOnFailure s a q e k) (hk : x.kind = .releaseOnly) (hc : x.circuit = some c)
    (hn : x.farNode = some n) (hp : x.accessPoint = some p) (ht : SettledBehind (a.connectFails e x) t) :
    t.openLoops = s.openLoops ++ [⟨c, n, p, x.activate, x.deactivate, s.now, x.releaseTotal.getD 0⟩] ∧ t.nodes = s.nodes := by
  obtain ⟨hnodes, hloops, -⟩ := connectFails_tables a e x
  have hopen : ∀ total, x.openLoop s.now total = ⟨c, n, p, x.activate, x.deactivate, s.now, total⟩ := fun total => by
    rw [Context.openLoop, hc, hn, hp]
    rfl
  rw [ht.openLoops, ht.nodes, hnodes, hloops, State.slotAfterConnect, if_pos hk, ← hopen, h.state]
  exact ⟨rfl, rfl⟩

theorem ActsOnFailure.records_releaseOnly (h : ActsOnFailure s a q e k) (he : e < 16) (hx : (s.engine e).context = some x)
    (hc : x.circuit = some c) (hk : x.kind = .releaseOnly) (hslot : x.slot = none)
    (ht : SettledBehind (a.connectFails e x) t) (hlen : s.mli.tx.length < 47) :
    ∃ more, t.mli.tx = s.mli.tx ++ faultRecord q e k s.amc.link ::
      ⟨.notice, 0x81, 0, .ok, false, false, be16 c ++ [0, 0] ++ (a.blockedVerdict e x c).block, none⟩ :: more := by
  have hatx := h.tx (by omega)
  have halen : a.mli.tx.length < 48 := by rw [hatx, List.length_append]; exact Nat.add_lt_add_right hlen 1
  obtain ⟨-, more, hmore, -⟩ := ht.replies
  refine ⟨more, ?_⟩
  rw [hmore, (connectFails_uncounted he (by rw [h.engine]; exact hx) hc (by simp [hk])).2.2 halen, hatx, ← noticeVerdict_eq]
  simp [State.verdictRecords, hk, hslot]

/-! ## A failed LOOP_PORT (R40) -/

theorem answerCalibrationOf_eta (s : State) (e : Nat) (x : Context) (st : EngineState) :
    s.answerCalibrationOf e x st = { s with mli := (s.answerCalibrationOf e x st).mli } := by
  unfold State.answerCalibrationOf State.answer
  repeat' split
  all_goals rfl

/-- A calibration without a delay is answered with its offset and the state its engine leaves in. -/
theorem tx_answerCalibrationOf {s : State} {e i : Nat} {x : Context} {d : DeferredSlot} (hdelay : x.calDelay = none)
    (hslot : x.slot = some i) (hd : s.slot i = some d) (hp : d.placed = false) (st : EngineState) :
    (s.answerCalibrationOf e x st).mli.tx = s.mli.tx ++ [calibrationReply d i e x (s.engine e) st] := by
  rw [State.answerCalibrationOf, hslot]
  refine (answer_tx_held _ _ _ _ _ d hd hp).trans ?_
  rw [hdelay, calibrationPayload_none, calibrationReply, hdelay]

/-- The tables that a failed LOOP_PORT leaves as they were. -/
def SameTables (s t : State) : Prop :=
  t.points = s.points ∧ t.circuits = s.circuits ∧ t.nodes = s.nodes ∧ t.openLoops = s.openLoops ∧ t.classes = s.classes ∧
    t.campaign = s.campaign

theorem HearsOfFailure.sameTables {b : State} (h : HearsOfFailure s b q e k) : SameTables s b := by
  rw [h.state]
  exact ⟨rfl, rfl, rfl, rfl, rfl, rfl⟩

/-- A LOOP_PORT that timed out leads to the DISCONNECT of its engine, which leads no follower. -/
theorem HearsOfFailure.loopPort_timeout {b : State} (h : HearsOfFailure s b q e k) (he : e < 16)
    (hx : (s.engine e).context = some x) (hbase : x.rate = .base) :
    let t := b.startDisconnect e
    SameTables s t ∧ (t.engine e).localOffset = (s.engine e).localOffset ∧ (∀ d, d ≠ e → t.engine d = s.engine d) ∧
      (t.engine e).state = .disconnecting ∧
      MovesOn s t [⟨.disconnect, x.accessPoint, some (laneSet e false), .engine e⟩] := by
  intro t
  have heng := h.acts.engine
  have hwide : (b.engine e).wide = false := by rw [heng, wide_of_context hx, hbase]; rfl
  have hasks := startDisconnect_asks b e
  rw [hwide, heng, hx] at hasks
  refine ⟨?_, by rw [startDisconnect_self _ _ he, heng]; rfl, fun d hd => ?_, by rw [startDisconnect_self _ _ he]; rfl,
    movesOn_of_asks h.acts.amc hasks⟩
  · simpa only [SameTables, t, startDisconnect_frame] using h.sameTables
  · obtain ⟨-, -, -, -, -, hsame⟩ := startDisconnect_only b e he d hd
    exact (hsame (.inr hwide)).trans (heng d)

/-- A LOOP_PORT that was refused answers its command, and its engine leaves. -/
theorem HearsOfFailure.loopPort_refused {b : State} (h : HearsOfFailure s b q e k) (he : e < 16) (hdelay : x.calDelay = none) :
    let left : EngineState := if (s.engine e).disablePending then .offline else .idle
    let t := (b.answerCalibrationOf e x left).engineLeaves e
    SameTables s t ∧ HasLeft (s.engine e) (t.engine e) ∧ (∀ d, d ≠ e → t.engine d = s.engine d) ∧ MovesOn s t [] ∧
      ∀ i d, x.slot = some i → s.slot i = some d → d.placed = false → s.mli.tx.length < 48 →
        ∃ more, t.mli.tx = s.mli.tx ++ faultRecord q e k s.amc.link :: calibrationReply d i e x (s.engine e) left :: more := by
  intro left t
  have hbeng := h.acts.engine
  have heng : ∀ d, (b.answerCalibrationOf e x left).engine d = s.engine d := fun d => by
    rw [answerCalibrationOf_eta]; exact hbeng d
  refine ⟨?_, ?_, fun d hd => (engine_engineLeaves_ne _ _ _ hd).trans (heng d), movesOn_of_advanced ?_,
    fun i d hslot hd hp hlen => ?_⟩
  · simp only [SameTables, t, engineLeaves_frame]
    rw [answerCalibrationOf_eta]
    exact h.sameTables
  · rw [← heng e]
    exact hasLeft_engineLeaves _ he
  · simp only [t, engineLeaves_frame, (answerCalibrationOf_engines_amc b e x left).2, h.acts.amc]
  · obtain ⟨-, more, hmore, -⟩ := repliesBehind_engineLeaves (b.answerCalibrationOf e x left) e
    have hbd : b.slot i = some d := by rw [State.slot, h.slots]; exact hd
    refine ⟨more, ?_⟩
    rw [hmore, tx_answerCalibrationOf hdelay hslot hbd hp, h.tx hlen, hbeng]
    simp

/-- A failed LOOP_PORT from its completion on. -/
theorem loopPortFailed (he : e < 16) (hk : k ≠ .done) (hr : q.request.requester = .engine e) (hop : q.request.op = .loopPort)
    (hx : (s.engine e).context = some x) (hbase : x.rate = .base) (hdelay : x.calDelay = none) :
    let t := s.complete q k
    SameTables s t ∧ (t.engine e).localOffset = (s.engine e).localOffset ∧ (∀ d, d ≠ e → t.engine d = s.engine d) ∧
      (k = .timeout → (t.engine e).state = .disconnecting ∧
        MovesOn s t [⟨.disconnect, x.accessPoint, some (laneSet e false), .engine e⟩]) ∧
      (k ≠ .timeout → HasLeft (s.engine e) (t.engine e) ∧ MovesOn s t [] ∧
        ∀ i d, x.slot = some i → s.slot i = some d → d.placed = false → s.mli.tx.length < 48 →
          ∃ more, t.mli.tx = s.mli.tx ++ faultRecord q e k s.amc.link ::
            calibrationReply d i e x (s.engine e) (if (s.engine e).disablePending then .offline else .idle) :: more) := by
  intro t
  have hear := hearsOfFailure s (by simp [hop]) hr hk
  generalize hb : (s.closeRequest q k).faultNotice q k = b at hear
  have heng := hear.acts.engine
  have ht : t = b.loopPortCompleted e x k := by
    rw [← (requesterActs_engine hr (by rw [heng]; exact hx) k).2 hop, ← hb]
    rfl
  rw [ht]
  cases k with
  | done => exact absurd rfl hk
  | timeout =>
    obtain ⟨hsame, hoff, hothers, hgone⟩ := hear.loopPort_timeout he hx hbase
    exact ⟨hsame, hoff, hothers, fun _ => hgone, fun h => absurd rfl h⟩
  | refused r =>
    have hdone : b.loopPortCompleted e x (.refused r) = (b.answerCalibrationOf e x
        (if (s.engine e).disablePending then .offline else .idle)).engineLeaves e := by
      rw [State.loopPortCompleted, heng]; rfl
    rw [hdone]
    obtain ⟨hsame, hleft, hothers, hmoves, hreply⟩ := hear.loopPort_refused (x := x) he hdelay
    exact ⟨hsame, localOffset_of_hasLeft hleft, hothers, fun h => absurd h (by simp), fun _ => ⟨hleft, hmoves, hreply⟩⟩

end

/-! ## O45 -/

/-- `s` with another state of its answer receiver. -/
def State.withReceiver (s : State) (rx : List Byte) (rxAt : Nat) : State :=
  { s with amc := { s.amc with rx := rx, rxAt := rxAt } }

/-- The request completes on a state that differs from `s` in the answer receiver alone. -/
theorem exec_completes_withReceiver {s : State} {c : Instr} {q : CurrentRequest} {k : Completion} (h : Completes s c q k) :
    ∃ rx rxAt, exec c s = .next ((s.withReceiver rx rxAt).complete q k) := by
  refine ⟨(s.heard k).amc.rx, (s.heard k).amc.rxAt, (exec_completes h).trans ?_⟩
  cases k <;> rfl

/-- Settles O45: the parts of a failed CONNECT, and of a failed LOOP_PORT, on the state whose request completes. -/
theorem refusedConnectBlocksTheProbe : Obligations.RefusedConnectBlocksTheProbe := by
  refine ⟨fun s c q k e x p n b hstep hk hr hop hx hp hplt hn hnlt hc hclt hpair => ?connect,
    fun s c q k e x hstep hk hr hop hx _ hbase hdelay => ?loopPort⟩
  case connect =>
    intro ask works leavesOffline
    obtain ⟨rx, rxAt, hexec⟩ := exec_completes_withReceiver hstep
    obtain ⟨a, hacts, ht, hlink, htimeout, hrefused⟩ := connectFailed_effect (s := s.withReceiver rx rxAt) e.isLt hk hr hop hx hp
      hplt (fun h => (hpair h).1)
    obtain ⟨hcircuit, hcircuits⟩ := hacts.verdict_circuit e.isLt hx hc hclt ht
    obtain ⟨hgrade, hnumber, hengine⟩ := blockedVerdict_frame a e.val x b
    obtain ⟨hcounted, huncounted⟩ := hacts.counted e.isLt hx hc ht
    refine ⟨fun hkind => ?probe, fun hkind => ?releaseOnly⟩
    case probe =>
      have hheld : x.kind ≠ .releaseOnly := by rcases hkind with h | h <;> simp [h]
      obtain ⟨hnode, hnodes, hloops⟩ := hacts.node_returned hheld hn hnlt ht
      rw [if_neg hheld] at hcircuit
      exact ⟨_, a.blockedVerdict e.val x b, _, hexec, hgrade, hnumber, hengine, hcircuit, hcircuits, hnode, hnodes, hcounted,
        fun h => huncounted (by simp [h]), verdictGoesOut s x b _, fun hlen _ => hacts.records e.isLt hx hc ht hlen, hlink,
        hloops, hacts.now_kept ht, hacts.run_due e.isLt hx hc hheld ht, htimeout, hrefused⟩
    case releaseOnly =>
      obtain ⟨hloops, hnodes⟩ := hacts.slot_passed hkind hc hn hp ht
      obtain ⟨hcamp, hcls⟩ := huncounted (by simp [hkind])
      rw [if_pos hkind] at hcircuit
      refine ⟨_, a.blockedVerdict e.val x b, hexec, hgrade, hcircuit, hcircuits, hloops, hnodes, hcamp, hcls,
        fun hlen hslot => hacts.records_releaseOnly e.isLt hx hc hkind hslot ht hlen, fun h => ?_, fun h => ?_⟩
      · obtain ⟨hpoints, -, hst, -, -, hmoves⟩ := htimeout h
        exact ⟨hpoints, hst, hmoves⟩
      · obtain ⟨hpoint, hpoints, hleft, -, -, hmoves⟩ := hrefused h
        exact ⟨hpoint, hpoints, hmoves, hleft⟩
  case loopPort =>
    obtain ⟨rx, rxAt, hexec⟩ := exec_completes_withReceiver hstep
    obtain ⟨hkept, hoff, hothers, htimeout, hrefused⟩ := loopPortFailed (s := s.withReceiver rx rxAt) e.isLt hk hr hop hx hbase
      hdelay
    obtain ⟨hpoints, hcircuits, hnodes, hloops, hcls, hcamp⟩ := hkept
    exact ⟨_, hexec, hpoints, hcircuits, hnodes, hloops, hcls, hcamp, hoff, hothers, htimeout, hrefused⟩

end Sys2Proof.Machine
end


section
/-! SUPPORT. What each phase of a probe leaves of the engine it begins on, and of everything else (R48 to R63). -/

namespace Sys2Proof.Machine

/-! ## One engine moves -/

/-- From `s` to `t` the engine `e` alone has moved, the lane of the follower it leads with it, and it leads one as before. -/
structure EngineMoves (s t : State) (e : Nat) : Prop where
  wide : (t.engine e).wide = (s.engine e).wide
  only : s.OnlyEngine t e
  rest : t = { s with engines := t.engines }

theorem EngineMoves.refl (s : State) (e : Nat) : EngineMoves s s e := ⟨rfl, OnlyEngine_refl s e, rfl⟩

theorem EngineMoves.trans {s t u : State} {e : Nat} (h : EngineMoves s t e) (k : EngineMoves t u e) : EngineMoves s u e where
  wide := k.wide.trans h.wide
  only := OnlyEngine_trans h.wide h.only k.only
  rest := by rw [k.rest, h.rest]

section
variable (s : State) {e : Nat} (he : e < 16)
include he

theorem engineMoves_modEngine {f : Engine → Engine} (hf : ∀ g, (f g).wide = g.wide) : EngineMoves s (s.modEngine e f) e where
  wide := by rw [modEngine_self s e f he, hf]
  only := OnlyEngine_modEngine s e f
  rest := rfl

theorem engineMoves_modContext {f : Engine → Engine} {k : Context → Context} (hf : ∀ g, (f g).context = g.context.map k)
    (hk : ∀ x, (k x).rate = x.rate) : EngineMoves s (s.modEngine e f) e :=
  engineMoves_modEngine s he (fun g => (wide_congr (hf g)).trans (wide_modContext hk g))

theorem engineMoves_onLanes {f : Engine → Engine} (hf : LaneOnly f) : EngineMoves s (s.onLanes e f) e where
  wide := by
    obtain ⟨-, hctx, -⟩ := hf (s.engine e)
    rw [onLanes_self s e f he]
    exact wide_congr hctx
  only := OnlyEngine_onLanes s e f hf
  rest := onLanes_eta s e f

theorem engineMoves_enterPhase (st : EngineState) (f : Lane → Lane) : EngineMoves s (s.enterPhase e st f) e where
  wide := wide_enterPhase s e st f he
  only := enterPhase_only s e st f he
  rest := enterPhase_eta s e st f

theorem engineMoves_writeOutcome (o : ProbeOutcome) : EngineMoves s (s.writeOutcome e o) e :=
  engineMoves_modContext s he (k := fun x => { x with outcomes := x.outcomes ++ [o] }) (fun _ => rfl) (fun _ => rfl)

theorem engineMoves_startLoopUp : EngineMoves s (s.startLoopUp e) e := by
  unfold State.startLoopUp
  exact (engineMoves_enterPhase s he _ _).trans
    (engineMoves_modContext _ he (k := fun x => { x with loopAttempts := x.loopAttempts + 1 }) (fun _ => rfl) (fun _ => rfl))

theorem engineMoves_startSoak : EngineMoves s (s.startSoak e) e := by
  unfold State.startSoak
  exact (engineMoves_enterPhase s he _ _).trans
    (engineMoves_modContext _ he (k := fun x => { x with measured := true }) (fun _ => rfl) (fun _ => rfl))

theorem engineMoves_startRelease : EngineMoves s (s.startRelease e) e :=
  (engineMoves_enterPhase s he _ _).trans
    (engineMoves_modContext _ he (k := fun x => { x with releaseAttempts := x.releaseAttempts + 1 }) (fun _ => rfl) (fun _ => rfl))

theorem engineMoves_startMeasurement : EngineMoves s (s.startMeasurement e) e :=
  engineMoves_modEngine s he (fun _ => rfl)

theorem engineMoves_startCheck : EngineMoves s (s.startCheck e) e :=
  (engineMoves_modEngine s he (f := fun g => { g with checkFrom := some s.now }) (fun _ => rfl)).trans
    (engineMoves_onLanes _ he (fun _ => ⟨rfl, rfl, rfl, rfl, rfl⟩))

end

/-! ## The engine as a phase begins -/

theorem context_enter {g : Engine} {x : Context} (hx : g.context = some x) (st : EngineState) :
    (g.enter st).context = some { x with phaseTimer := 0 } := by
  simp [Engine.enter, Engine.modContext, hx]

section
variable (s : State) {e : Nat} {x : Context} (he : e < 16)
include he

theorem startRetryWait_self : (s.startRetryWait e).engine e =
    { (s.engine e).enter .retryWait with lane := (s.engine e).lane.disarmed.turnToTest.armAis s.laneTime } :=
  enterPhase_self s e _ _ he

theorem startCourtesy_self : (s.startCourtesy e).engine e =
    { (s.engine e).enter .courtesyRelease with lane := (s.engine e).lane.disarmed.turnToCode } :=
  enterPhase_self s e _ _ he

theorem startSoak_self (hx : (s.engine e).context = some x) : (s.startSoak e).engine e =
    { (s.engine e).enter .soak with
      context := some { x with phaseTimer := 0, measured := true }
      markersSent := 0
      lane := (((s.engine e).lane.disarmed.turnToTest.armChecker .soak).armAis s.laneTime).armMeter } := by
  unfold State.startSoak
  rw [modEngine_self _ _ _ he, enterPhase_self _ _ _ _ he]
  simp [Engine.enter, Engine.modContext, hx]

theorem startMeasurement_self : (s.startMeasurement e).engine e =
    { s.engine e with
      settleUntil := none
      limitUntil := some (s.now + 1000)
      lane := (s.engine e).lane.turnToTest.armChecker .calibration } :=
  modEngine_self s e _ he

theorem startCheck_self : (s.startCheck e).engine e =
    { s.engine e with checkFrom := some s.now, lane := (s.engine e).lane.turnToTest.armChecker .release } := by
  unfold State.startCheck
  rw [onLanes_self _ _ _ he, modEngine_self _ _ _ he]

end

end Sys2Proof.Machine
end


section
/-! SUPPORT. O53 and O55: the waits that end in the next phase, and the ends of a soak (R48, R51, R53 to R58, R67, R70). -/

namespace Sys2Proof.Machine

/-! ## The ends of a soak, and AIS at loop-up (R55, R57, R58, R70) -/

/-- From `s` to `t` the probe of engine `l` has left its phase for `st` with the context `y`: its detectors are disarmed and
its measurements stand. -/
def LeavesPhase (s t : State) (l : Nat) (st : EngineState) (y : Context) : Prop :=
  (t.engine l).state = st ∧ (t.engine l).context = some y ∧ (t.engine l).meas = (s.engine l).meas ∧
    (t.engine l).lane.checker.arm = .unarmed ∧ (t.engine l).lane.ais.armed = false ∧ (t.engine l).lane.meter.armed = false ∧
    (t.engine l).checkFrom = none ∧ s.OnlyEngine t l ∧ t = { s with engines := t.engines }

section
variable {s u : State} {l : Nat} {y : Context}

theorem leavesPhase_startRelease (hl : l < 16) (hu : EngineMoves s u l) (hy : (u.engine l).context = some y)
    (hmeas : (u.engine l).meas = (s.engine l).meas) : LeavesPhase s (u.startRelease l) l .loopDown
      { y with phaseTimer := 0, releaseAttempts := y.releaseAttempts + 1 } := by
  have hmoves := hu.trans (engineMoves_startRelease u hl)
  unfold LeavesPhase
  rw [startRelease_self u l hl y hy]
  exact ⟨rfl, rfl, hmeas, rfl, rfl, rfl, rfl, hmoves.only, hmoves.rest⟩

theorem leavesPhase_startCourtesy (hl : l < 16) (hu : EngineMoves s u l) (hy : (u.engine l).context = some y)
    (hmeas : (u.engine l).meas = (s.engine l).meas) :
    LeavesPhase s (u.startCourtesy l) l .courtesyRelease { y with phaseTimer := 0 } := by
  have hmoves := hu.trans (engineMoves_enterPhase u hl .courtesyRelease Lane.turnToCode)
  unfold LeavesPhase
  rw [startCourtesy_self u hl]
  exact ⟨rfl, context_enter hy _, hmeas, rfl, rfl, rfl, rfl, hmoves.only, hmoves.rest⟩

end

section
variable {s : State} {l : Nat} {x : Context}

/-- An outcome is written and LOOP_DOWN begins. -/
theorem leavesPhase_endSoak (hl : l < 16) (hx : (s.engine l).context = some x) (o : ProbeOutcome) :
    LeavesPhase s ((s.writeOutcome l o).endSoak l) l .loopDown
      { x with phaseTimer := 0, outcomes := x.outcomes ++ [o], releaseAttempts := x.releaseAttempts + 1 } := by
  have hself := writeOutcome_self s l o hl x hx
  exact leavesPhase_startRelease hl (engineMoves_writeOutcome s hl o) (by rw [hself]) (by rw [hself])

/-- AIS ends a soak in LOOP_DOWN, a loop-up in COURTESY_RELEASE. -/
theorem aisEnds_effect (hl : l < 16) (hx : (s.engine l).context = some x) :
    ((s.engine l).state = .soak → LeavesPhase s (s.aisEnds l) l .loopDown
      { x with phaseTimer := 0, outcomes := x.outcomes ++ [.aisReceived], releaseAttempts := x.releaseAttempts + 1 }) ∧
    ((s.engine l).state ≠ .soak → LeavesPhase s (s.aisEnds l) l .courtesyRelease
      { x with phaseTimer := 0, outcomes := x.outcomes ++ [.aisReceived] }) := by
  refine ⟨fun hst => ?_, fun hst => ?_⟩
  · rw [State.aisEnds, if_pos hst]
    exact leavesPhase_endSoak hl hx .aisReceived
  · have hself := writeOutcome_self s l .aisReceived hl x hx
    rw [State.aisEnds, if_neg hst]
    exact leavesPhase_startCourtesy hl (engineMoves_writeOutcome s hl _) (by rw [hself]) (by rw [hself])

theorem phaseDue_of {g : Engine} {st : EngineState} {due : Context → Nat} (hst : g.state = st) (hx : g.context = some x)
    (hdue : due x ≤ x.phaseTimer) : g.phaseDue st due = true := by
  simp [Engine.phaseDue, hst, hx, hdue]

theorem exec_aisRaised {e : Fin 16} (hais : (s.engine e.val).lane.ais.raised = true)
    (hst : (s.engine (s.leadOf e.val)).state.hearsAis = true) :
    exec (.aisRaised e) s = .next (s.aisEnds (s.leadOf e.val)) :=
  event_true _ s (fun t => t.aisEnds (s.leadOf e.val)) (by simp [State.aisDue, hais, hst])

end

/-- Settles O55: each end of a soak is a release that begins on the lead's engine, behind the outcome it writes. -/
theorem soakEndsInLoopDown : Obligations.SoakEndsInLoopDown := by
  intro e s x l hx moves down
  have hl : l < 16 := leadOf_lt s e.isLt
  obtain ⟨haisSoak, haisLoopUp⟩ := aisEnds_effect hl hx
  refine ⟨fun hst hdue => ?soakTime, fun hst hdrop => ?dropout, fun hst hais => ?ais, fun hst hais => ?loopUp⟩
  case soakTime =>
    have hle : l = e.val := leadOf_self (by simp [hst])
    rw [hle] at hx
    have hexec : exec (.soakTimeEnd e) s = .next (s.endSoak e.val) :=
      event_true _ s (fun t => t.endSoak e.val) (phaseDue_of hst hx hdue)
    have hdown := leavesPhase_startRelease e.isLt (EngineMoves.refl s e.val) hx rfl
    simp only [moves, down, hle, List.append_nil]
    exact ⟨_, hexec, hdown⟩
  case dropout =>
    have hdue : s.dropoutDue e.val = true := by
      simp only [State.dropoutDue, hdrop, Bool.true_and, beq_iff_eq]
      exact hst
    exact ⟨_, event_true _ s (fun t => (t.writeOutcome l .signalDropout).endSoak l) hdue, leavesPhase_endSoak hl hx _⟩
  case ais =>
    exact ⟨_, exec_aisRaised hais (congrArg EngineState.hearsAis hst), haisSoak hst⟩
  case loopUp =>
    have hears : (s.engine l).state.hearsAis = true := by rcases hst with h | h <;> rw [h] <;> rfl
    have hsoak : (s.engine l).state ≠ .soak := by rcases hst with h | h <;> simp [h]
    exact ⟨_, exec_aisRaised hais hears, haisLoopUp hsoak⟩

/-! ## A wait ends (R48, R53, R54, R67) -/

section
variable {s : State} {e : Nat} {x : Context}

/-- The phase that the end of a settle wait begins, by the kind of the probe (R48, R67, R40). -/
theorem settleEnds_cases (hx : (s.engine e).context = some x) :
    (x.kind = .spot ∨ (x.kind = .campaign ∧ x.aborted = false) → s.settleEnds e = s.startLoopUp e) ∧
    (x.kind = .campaign → x.aborted = true → s.settleEnds e = s.startCourtesy e) ∧
    (x.kind = .releaseOnly → s.settleEnds e = s.startRelease e) ∧
    (x.kind = .calibration → s.settleEnds e = s.startMeasurement e) := by
  unfold State.settleEnds
  rw [hx]
  refine ⟨?_, fun hk ha => ?_, fun hk => ?_, fun hk => ?_⟩
  · rintro (hk | ⟨hk, ha⟩)
    · simp only [hk]
    · simp only [hk, ha, Bool.false_eq_true, if_false]
  · simp only [hk, ha, if_true]
  · simp only [hk]
  · simp only [hk]

theorem exec_settleEnd {e : Fin 16} {u m : Nat} (hu : (s.engine e.val).settleUntil = some u) (hdue : u ≤ s.now)
    (hm : s.laneTime ≤ m) (hlt : m < 1250000) :
    exec (.settleEnd ⟨e, m⟩) s = .next ((s.moveTo m).settleEnds e.val) :=
  event_true _ s (fun t => (t.moveTo m).settleEnds e.val) (by simp [ahead_of hm hlt, reached, hu, hdue])

theorem loopUpExpires_of_remain (hx : (s.engine e).context = some x) (h : x.loopAttempts < x.timing.loopAttempts) :
    s.loopUpExpires e = s.startRetryWait e :=
  if_pos (by simp [Engine.attemptsRemain, hx, h])

theorem exec_loopUpTimeout {e : Fin 16} (hst : (s.engine e.val).state = .loopUp) (hx : (s.engine e.val).context = some x)
    (hdue : x.timing.loopUpTimeout ≤ x.phaseTimer) : exec (.loopUpTimeout e) s = .next (s.loopUpExpires e.val) :=
  event_true _ s (fun t => t.loopUpExpires e.val) (phaseDue_of hst hx hdue)

end

/-- Settles O53: on the state whose wait ends, each phase begins as its own lemma says. -/
theorem waitsEndInTheNextPhase : Obligations.WaitsEndInTheNextPhase := by
  intro e s x hx g begins inside listens loopUp attempt
  refine ⟨fun u m hu hdue hm hlt => ?settle, fun hst hdue hleft => ?timeout, fun hst hdue => ?spacing⟩
  case settle =>
    intro b
    have hmoved : b.engine e.val = g.sends (s.laneSource e.val) (m - s.laneTime) := moveTo_engine s m e.val e.isLt
    have hbx : (b.engine e.val).context = some x := (moveTo_context s e.isLt m).trans hx
    obtain ⟨hloopUp, haborted, hrelease, hcalibration⟩ := settleEnds_cases hbx
    have hexec := exec_settleEnd hu hdue hm hlt
    refine ⟨fun hk => ?loopUp, fun hk ha => ?courtesy, fun hk => ?loopDown, fun hk => ?measurement⟩
    case loopUp =>
      have hmoves := engineMoves_startLoopUp b e.isLt
      refine ⟨b.startLoopUp e.val, hexec.trans (congrArg _ (hloopUp hk)), ?_⟩
      rw [startLoopUp_self b e.val e.isLt x hbx, hmoved]
      exact ⟨rfl, rfl, rfl, ⟨⟨rfl, rfl, rfl, rfl⟩, rfl, rfl⟩, hmoves.only, hmoves.rest⟩
    case courtesy =>
      have hmoves := engineMoves_enterPhase b e.isLt .courtesyRelease Lane.turnToCode
      refine ⟨b.startCourtesy e.val, hexec.trans (congrArg _ (haborted hk ha)), ?_⟩
      rw [startCourtesy_self b e.isLt]
      exact ⟨rfl, context_enter hbx _, by rw [hmoved]; rfl, ⟨rfl, rfl, rfl⟩, hmoves.only, hmoves.rest⟩
    case loopDown =>
      have hmoves := engineMoves_startRelease b e.isLt
      refine ⟨b.startRelease e.val, hexec.trans (congrArg _ (hrelease hk)), ?_⟩
      rw [startRelease_self b e.val e.isLt x hbx, hmoved]
      exact ⟨rfl, rfl, rfl, ⟨rfl, rfl, rfl⟩, hmoves.only, hmoves.rest⟩
    case measurement =>
      have hmoves := engineMoves_startMeasurement b e.isLt
      refine ⟨b.startMeasurement e.val, hexec.trans (congrArg _ (hcalibration hk)), ?_⟩
      rw [startMeasurement_self b e.isLt, hmoved]
      exact ⟨rfl, hx, rfl, ⟨rfl, rfl, rfl, rfl, rfl⟩, hmoves.only, hmoves.rest⟩
  case timeout =>
    have hmoves := engineMoves_enterPhase s e.isLt .retryWait (fun l => l.turnToTest.armAis s.laneTime)
    refine ⟨s.startRetryWait e.val,
      (exec_loopUpTimeout hst hx hdue).trans (congrArg _ (loopUpExpires_of_remain hx hleft)), ?_⟩
    rw [startRetryWait_self s e.isLt]
    exact ⟨rfl, context_enter hx _, rfl, ⟨⟨rfl, rfl, rfl, rfl⟩, rfl, rfl⟩, hmoves.only, hmoves.rest⟩
  case spacing =>
    have hmoves := engineMoves_startLoopUp s e.isLt
    refine ⟨s.startLoopUp e.val, event_true _ s (fun t => t.startLoopUp e.val) (phaseDue_of hst hx hdue), ?_⟩
    rw [startLoopUp_self s e.val e.isLt x hx]
    exact ⟨rfl, rfl, rfl, ⟨⟨rfl, rfl, rfl, rfl⟩, rfl, rfl⟩, hmoves.only, hmoves.rest⟩

end Sys2Proof.Machine
end


section
/-! SUPPORT. The end of a probe: its grading, the campaign's end that may follow, and the DISCONNECT asked for (R43, R64, R75, R76,
R89, R90, R127). -/

namespace Sys2Proof.Machine

/-! ## The state on which a probe is graded -/

/-- The context with other outcomes. -/
def Context.withOutcomes (x : Context) (os : List ProbeOutcome) : Context := { x with outcomes := os }

/-- `u` is `s` as the probe of engine `e` is graded: its context has the outcomes `os`, and its node slot may have been returned
or passed to an open loop entry. -/
structure ReadyToGrade (s u : State) (e : Nat) (x : Context) (os : List ProbeOutcome) : Prop where
  context : (s.engine e).context = some x
  probe   : (u.engine e).context = some (x.withOutcomes os)
  meas    : (u.engine e).meas = (s.engine e).meas
  offset  : (u.engine e).localOffset = (s.engine e).localOffset
  only    : s.OnlyEngine u e
  rest    : u = { s with engines := u.engines, nodes := u.nodes, openLoops := u.openLoops, runDue := u.runDue }

/-- The verdict of a probe with the outcomes `os`, by the record handed over and the limits that govern it. -/
def State.gradedVerdict (s : State) (e c : Nat) (x : Context) (os : List ProbeOutcome) : Verdict :=
  verdictOf (x.withOutcomes os) e (handedOver s e x) (gradedBy s e c x)

section
variable {s u : State} {e c : Nat} {x : Context} {os : List ProbeOutcome}

theorem ReadyToGrade.campaign (R : ReadyToGrade s u e x os) : u.campaign = s.campaign := by rw [R.rest]

theorem ReadyToGrade.classes (R : ReadyToGrade s u e x os) : u.classes = s.classes := by rw [R.rest]

theorem ReadyToGrade.mli (R : ReadyToGrade s u e x os) : u.mli = s.mli := by rw [R.rest]

theorem ReadyToGrade.circuit (R : ReadyToGrade s u e x os) (d : Nat) : u.circuit d = s.circuit d := by rw [R.rest]; rfl

theorem ReadyToGrade.wide (R : ReadyToGrade s u e x os) : (u.engine e).wide = (x.rate == .wide) := by
  rw [wide_of_context R.probe]
  rfl

/-- The record handed over is the engine's own or the pair's (R43). -/
theorem ReadyToGrade.measuredOf (R : ReadyToGrade s u e x os) : u.measuredOf e = handedOver s e x := by
  obtain ⟨-, -, hfollower, -⟩ := R.only (e + 1) (by omega)
  unfold State.measuredOf handedOver
  rw [R.wide, R.meas, hfollower]
  cases x.rate <;> rfl

theorem ReadyToGrade.checkMode (R : ReadyToGrade s u e x os) :
    u.checkMode (x.withOutcomes os) = (gradedBy s e c x).mode := by
  unfold State.checkMode
  rw [R.campaign]
  rfl

theorem ReadyToGrade.verdictFor (R : ReadyToGrade s u e x os) :
    u.verdictFor e (x.withOutcomes os) c = s.gradedVerdict e c x os := by
  have hlimits : u.gradeLimits e (x.withOutcomes os) (u.circuit c) = gradedBy s e c x := by
    unfold State.gradeLimits
    rw [R.checkMode (c := c), R.offset, R.campaign, R.circuit]
    rfl
  unfold State.verdictFor
  rw [R.measuredOf, hlimits]
  rfl

/-- The circuit record behind the grading, and every other (R89, R90). -/
theorem ReadyToGrade.circuit_graded (R : ReadyToGrade s u e x os) (hc : x.circuit = some c) (hlt : c < 2048) :
    (u.gradeProbe e).circuit c =
      (s.circuit c).graded (gradedBy s e c x).mode x.kind (s.gradedVerdict e c x os) ∧
    ∀ d, d ≠ c → (u.gradeProbe e).circuit d = s.circuit d := by
  have hgraded := circuit_gradeProbe u e R.probe (c := c) hc
  refine ⟨?_, fun d hd => ?_⟩
  · rw [hgraded, if_pos ⟨rfl, hlt⟩, R.checkMode (c := c), R.verdictFor, R.circuit]
    rfl
  · rw [hgraded, if_neg (fun h => hd h.1.symm), R.circuit]

/-- The campaign, the records and the mark of a run behind the grading. -/
theorem ReadyToGrade.graded (R : ReadyToGrade s u e x os) (hc : x.circuit = some c) :
    (u.gradeProbe e).campaign =
      (if x.kind = .campaign then s.campaign.counted (s.gradedVerdict e c x os).grade else s.campaign) ∧
    (s.mli.tx.length < 48 → (u.gradeProbe e).mli.tx =
      s.mli.tx ++ s.verdictRecords x c (s.circuit c).last (s.gradedVerdict e c x os)) ∧
    (u.runDue = true → (u.gradeProbe e).runDue = true) := by
  obtain ⟨hcamp, htx, hrun⟩ := gradeProbe_effect u R.probe (c := c) hc
  rw [R.verdictFor, R.campaign] at hcamp
  rw [R.verdictFor, R.mli, R.circuit, verdictRecords_congr R.campaign (by rw [R.mli])] at htx
  exact ⟨hcamp, htx, hrun⟩

theorem slot_answer_self {i : Nat} {d : DeferredSlot} (st : Status) (ab : Bool) (p : List Byte) (hd : s.slot i = some d)
    (hp : d.placed = false) : (s.answer i st ab p).slot i = some { d with placed := true } := by
  have hi : i < 8 := by
    by_contra h
    simp [State.slot, Vector.getElem?_eq_none (Nat.not_lt.1 h)] at hd
  simp [State.answer, hd, hp, hi]

/-- The deferred reply that waited for the verdict is placed (R173). -/
theorem ReadyToGrade.slot_placed (R : ReadyToGrade s u e x os) (hc : x.circuit = some c) (hk : x.kind ≠ .campaign) {i : Nat}
    {d : DeferredSlot} (hi : x.slot = some i) (hd : s.slot i = some d) (hp : d.placed = false) :
    (u.gradeProbe e).slot i = some { d with placed := true } := by
  have hcy : (x.withOutcomes os).circuit = some c := hc
  have hky : (x.withOutcomes os).kind ≠ .campaign := hk
  have hiy : (x.withOutcomes os).slot = some i := hi
  have hud : u.slot i = some d := by rw [State.slot, R.mli]; exact hd
  unfold State.gradeProbe State.reportVerdict
  simp only [R.probe, hcy, hiy, if_neg hky]
  exact slot_answer_self _ _ _ hud hp

end

/-! ## The probe ends behind its grading -/

/-- The end condition is tested behind a campaign probe, and the engine asks for its DISCONNECT (R64, R127). -/
def State.probeEnds (s : State) (e : Nat) (x : Context) : State := (s.testEndIf (x.kind == .campaign)).startDisconnect e

/-- `b` is `u` with the probe of engine `e` graded, and the records `more` offered behind its verdict. -/
structure Graded (u b : State) (e : Nat) (more : List TxRecord) : Prop where
  rest  : b = { u.gradeProbe e with mli := b.mli }
  slots : b.mli.slots = (u.gradeProbe e).mli.slots
  tx    : (u.gradeProbe e).mli.tx.length < 48 → b.mli.tx = (u.gradeProbe e).mli.tx ++ more

theorem graded_gradeProbe (u : State) (e : Nat) : Graded u (u.gradeProbe e) e [] := ⟨rfl, rfl, fun _ => (List.append_nil _).symm⟩

theorem graded_offer (u : State) (e : Nat) (code : Byte) (p : List Byte) :
    Graded u ((u.gradeProbe e).offer code p) e [noticeRecord code p] where
  rest := by unfold State.offer; split <;> rfl
  slots := by simp
  tx h := by rw [offer_tx, if_pos h]

section
variable {s u b : State} {e c : Nat} {x : Context} {os : List ProbeOutcome} {more : List TxRecord}

theorem Graded.engine (G : Graded u b e more) (d : Nat) : (b.testEndIf (x.kind == .campaign)).engine d = u.engine d :=
  engine_congr (by rw [show (b.testEndIf (x.kind == .campaign)).engines = b.engines by simp, G.rest]; simp) d

/-- What ends a probe moves no table but the circuits. -/
theorem Graded.tables (G : Graded u b e more) :
    (b.probeEnds e x).circuits = (u.gradeProbe e).circuits ∧ (b.probeEnds e x).nodes = u.nodes ∧
      (b.probeEnds e x).points = u.points ∧ (b.probeEnds e x).openLoops = u.openLoops ∧ (b.probeEnds e x).spot = u.spot ∧
      (b.probeEnds e x).runDue = (u.gradeProbe e).runDue := by
  simp only [State.probeEnds, startDisconnect_frame, testEndIf_frame]
  rw [G.rest]
  simp

/-- The engine waits for its DISCONNECT, its record standing (R64). -/
theorem ReadyToGrade.disconnecting (R : ReadyToGrade s u e x os) (G : Graded u b e more) (he : e < 16) :
    let t := b.probeEnds e x
    (t.engine e).state = .disconnecting ∧ (t.engine e).context = some { x with outcomes := os, phaseTimer := 0 } ∧
      (t.engine e).meas = (s.engine e).meas ∧ s.OnlyEngine t e ∧
      s.Asks t ⟨.disconnect, x.accessPoint, some (laneSet e (x.rate == .wide)), .engine e⟩ := by
  intro t
  let a := b.testEndIf (x.kind == .campaign)
  have haeng : ∀ d, a.engine d = u.engine d := G.engine
  have haamc : a.amc = s.amc := by
    rw [show a.amc = b.amc by simp [a], G.rest]
    simp only [gradeProbe_frame]
    rw [R.rest]
  have hself : t.engine e = { (u.engine e).enter .disconnecting with lane := (u.engine e).lane.disarmed } := by
    rw [← haeng e]
    exact startDisconnect_self a e he
  have hsa : s.OnlyEngine a e := fun d hd => by
    rw [haeng d]
    exact R.only d hd
  have hwide : (a.engine e).wide = (s.engine e).wide := by
    rw [haeng e, R.wide, wide_of_context R.context]
  have hasks := (startDisconnect_asks a e).of_amc haamc
  rw [hwide, wide_of_context R.context, haeng e, R.probe] at hasks
  refine ⟨by rw [hself]; rfl, by rw [hself]; exact context_enter R.probe _, by rw [hself]; exact R.meas, ?_, hasks⟩
  exact OnlyEngine_trans hwide hsa (startDisconnect_only a e he)

theorem Graded.campaign (G : Graded u b e more) : b.campaign = (u.gradeProbe e).campaign := by rw [G.rest]

theorem Graded.classes (G : Graded u b e more) : b.classes = u.classes := by rw [G.rest]; simp

/-- A campaign probe is counted, and any other leaves the campaign as it was (R89, R127). -/
theorem ReadyToGrade.counted (R : ReadyToGrade s u e x os) (G : Graded u b e more) (hc : x.circuit = some c) :
    let t := b.probeEnds e x
    (x.kind = .campaign → CountedIn s t (s.gradedVerdict e c x os)) ∧
      (x.kind ≠ .campaign → t.campaign = s.campaign ∧ t.classes = s.classes) := by
  intro t
  obtain ⟨hcamp, -⟩ := R.graded hc
  have hcls : b.classes = s.classes := G.classes.trans R.classes
  refine ⟨fun hk => ?_, fun hk => ?_⟩
  · have ht : t = b.testEnd.startDisconnect e := by simp [t, State.probeEnds, State.testEndIf, hk]
    rw [ht]
    exact countedIn_congr (countedIn_testEnd (G.campaign.trans (hcamp.trans (if_pos hk))) hcls) (by simp) (by simp)
  · have ht : t = b.startDisconnect e := by simp [t, State.probeEnds, State.testEndIf, hk]
    rw [ht]
    exact ⟨by simp [G.campaign, hcamp, hk], by simp [hcls]⟩

/-- The records of a probe's end: the verdict, what follows it, the campaign's end (R130, R133, R184). -/
theorem ReadyToGrade.records (R : ReadyToGrade s u e x os) (G : Graded u b e more) (hc : x.circuit = some c)
    (hlen : s.mli.tx.length + more.length < 47) :
    let t := b.probeEnds e x
    ∃ ended, EndGoesOut s t x ended ∧ t.mli.tx =
      s.mli.tx ++ s.verdictRecords x c (s.circuit c).last (s.gradedVerdict e c x os) ++ more ++ ended := by
  intro t
  obtain ⟨hcamp, htx, -⟩ := R.graded hc
  have htx := htx (by omega)
  have hone := verdictRecords_length s x c (s.circuit c).last (s.gradedVerdict e c x os)
  have hcls : b.classes = s.classes := G.classes.trans R.classes
  have hbtx : b.mli.tx = s.mli.tx ++ s.verdictRecords x c (s.circuit c).last (s.gradedVerdict e c x os) ++ more := by
    rw [G.tx (by rw [htx, List.length_append]; omega), htx]
  by_cases hk : x.kind = .campaign
  · have ht : t = b.testEnd.startDisconnect e := by simp [t, State.probeEnds, State.testEndIf, hk]
    obtain ⟨ended, hends, hend⟩ := endGoesOut_testEnd hk (G.campaign.trans (hcamp.trans (if_pos hk))) hcls
      (by rw [hbtx, List.length_append, List.length_append]; omega)
    rw [ht]
    exact ⟨ended, endGoesOut_congr hends (by simp) (by simp), by simp [hend, hbtx]⟩
  · have ht : t = b.startDisconnect e := by simp [t, State.probeEnds, State.testEndIf, hk]
    rw [ht]
    exact ⟨[], ⟨fun h => absurd h hk, fun _ => rfl⟩, by simp [hbtx]⟩

/-- A deferred reply that waited is placed at the end of a probe that is no campaign's. -/
theorem ReadyToGrade.slot_ended (R : ReadyToGrade s u e x os) (G : Graded u b e more) (hc : x.circuit = some c)
    (hk : x.kind ≠ .campaign) {i : Nat} {d : DeferredSlot} (hi : x.slot = some i) (hd : s.slot i = some d)
    (hp : d.placed = false) : (b.probeEnds e x).slot i = some { d with placed := true } := by
  have ht : b.probeEnds e x = b.startDisconnect e := by simp [State.probeEnds, State.testEndIf, hk]
  rw [← R.slot_placed hc hk hi hd hp, ht]
  simp only [State.slot, startDisconnect_frame, G.slots]

end

end Sys2Proof.Machine
end


section
/-! SUPPORT. O58: the hold and the check of a release attempt, and the release end (R60, R61, R63, R64, R68). -/

namespace Sys2Proof.Machine

/-! ## Grades and baselines (R87, R89, R90) -/

section
variable {v : Verdict}

theorem grade_released {x : Context} (e : Nat) (m : Measured) (q : GradeLimits) (hb : .blocked ∉ x.outcomes)
    (hs : .stuckLoop ∉ x.outcomes) (hr : .released ∈ x.outcomes) : (verdictOf x e m q).grade = .released := by
  unfold verdictOf
  split <;> simp [gradeMeasured, gradeUnmeasured, chooseGrade, hb, hs, hr]

/-- A grading that neither blocks nor sticks leaves the circuit IDLE. -/
theorem graded_idle (r : Circuit) (mode : CheckMode) (k : ContextKind) (hb : v.grade ≠ .blocked) (hs : v.grade ≠ .stuckLoop) :
    r.graded mode k v = { r with
      status := .idle, last := some v
      baseDelay := newBaseDelay mode v r.baseDelay, baseLevel := newBaseLevel mode v r.baseLevel } := by
  simp [Circuit.graded, statusAfter, hb, hs]

/-- A STUCK_LOOP verdict writes no baseline. -/
theorem graded_stuck (r : Circuit) (mode : CheckMode) (k : ContextKind) (h : v.grade = .stuckLoop) :
    r.graded mode k v = { r with status := .openLoop, last := some v } := by
  simp [Circuit.graded, newBaseDelay, newBaseLevel, writesBaselines, statusAfter, h]

/-- A verdict that writes baselines leaves alone those it did not measure. -/
theorem newBaselines_of_writes {mode : CheckMode} (h : writesBaselines mode v.grade = true) (delay : Option Nat)
    (level : Option Int) : newBaseDelay mode v delay = v.delayDn.or delay ∧ newBaseLevel mode v level = v.levelLm.or level := by
  unfold newBaseDelay newBaseLevel
  rw [h]
  cases v.delayDn <;> cases v.levelLm <;> exact ⟨rfl, rfl⟩

theorem newBaselines_of_not_writes {mode : CheckMode} (h : writesBaselines mode v.grade = false) (delay : Option Nat)
    (level : Option Int) : newBaseDelay mode v delay = delay ∧ newBaseLevel mode v level = level := by
  simp [newBaseDelay, newBaseLevel, h]

/-- Only a campaign probe is graded in BASELINE mode (R76). -/
theorem writesBaselines_gradedBy (s : State) (e c : Nat) (x : Context) (g : Grade) :
    writesBaselines (gradedBy s e c x).mode g = true ↔
      x.kind = .campaign ∧ s.campaign.kind = .baseline ∧ (g = .pass ∨ g = .limited) := by
  by_cases hk : x.kind = .campaign <;> simp [writesBaselines, gradedBy, hk]

end

/-! ## The release end -/

/-- The outcomes of a probe whose loop is released: a RELEASE_ONLY probe writes RELEASED (R68). -/
def Context.releasedOutcomes (x : Context) : List ProbeOutcome :=
  if x.kind = .releaseOnly then x.outcomes ++ [.released] else x.outcomes

section
variable {s u : State} {e n : Nat} {x : Context} {os : List ProbeOutcome}

theorem readyToGrade_self (hx : (s.engine e).context = some x) : ReadyToGrade s s e x x.outcomes where
  context := hx
  probe := hx
  meas := rfl
  offset := rfl
  only := OnlyEngine_refl s e
  rest := rfl

theorem readyToGrade_writeOutcome (he : e < 16) (hx : (s.engine e).context = some x) (o : ProbeOutcome) :
    ReadyToGrade s (s.writeOutcome e o) e x (x.outcomes ++ [o]) where
  context := hx
  probe := by rw [writeOutcome_self s e o he x hx]; rfl
  meas := by rw [writeOutcome_self s e o he x hx]
  offset := by rw [writeOutcome_self s e o he x hx]
  only := writeOutcome_only s e o
  rest := rfl

/-- Returning a node slot is no matter of the grading. -/
theorem ReadyToGrade.returnSlot (R : ReadyToGrade s u e x os) (n : Nat) : ReadyToGrade s (u.returnSlot n) e x os where
  context := R.context
  probe := R.probe
  meas := R.meas
  offset := R.offset
  only := R.only
  rest := by
    conv_lhs => rw [R.rest]
    rfl

theorem ReadyToGrade.releaseEnd (R : ReadyToGrade s u e x os) (hn : x.farNode = some n) :
    u.releaseEnd e = ((u.returnSlot n).gradeProbe e).probeEnds e x := by
  have hny : (x.withOutcomes os).farNode = some n := hn
  simp only [State.releaseEnd, R.probe, hny, State.probeEnds, Option.getD_some]
  rfl

theorem node_returnSlot (s : State) (hn : n < 64) :
    (s.returnSlot n).node n = { s.node n with occupancy := (s.node n).occupancy - 1 } ∧
      ∀ m, m ≠ n → (s.returnSlot n).node m = s.node m := by
  unfold State.returnSlot
  exact ⟨by rw [startRun_node, node_setNode_self _ _ _ hn], fun m hm => by rw [startRun_node, node_setNode_ne _ _ _ _ hm.symm]⟩

end

section
variable {s : State} {e : Fin 16} {x : Context} {step : Instr}

theorem exec_releaseHoldEnd (hst : (s.engine e.val).state = .loopDown) (hx : (s.engine e.val).context = some x)
    (hnone : (s.engine e.val).checkFrom = none) (hdue : x.timing.releaseHold ≤ x.phaseTimer) :
    exec (.releaseHoldEnd e) s = .next (s.startCheck e.val) :=
  event_true _ s (fun t => t.startCheck e.val) (by rw [phaseDue_of hst hx hdue, hnone]; rfl)

/-- The check passed, or the courtesy hold ended: either step is the release end on a state ready for the grading. -/
theorem exec_releaseEnd (hx : (s.engine e.val).context = some x)
    (hstep : (step = .releaseCheckEnd e ∧
        ∃ u, (s.engine e.val).checkFrom = some u ∧ u + x.timing.releaseCheck ≤ s.now) ∨
      (step = .courtesyHoldEnd e ∧ (s.engine e.val).state = .courtesyRelease ∧ x.timing.releaseHold ≤ x.phaseTimer ∧
        x.kind ≠ .releaseOnly)) :
    ∃ u, exec step s = .next (u.releaseEnd e.val) ∧ ReadyToGrade s u e.val x x.releasedOutcomes ∧ u.nodes = s.nodes ∧
      u.openLoops = s.openLoops := by
  rcases hstep with ⟨rfl, u, hu, hdue⟩ | ⟨rfl, hst, hdue, hkind⟩
  · have hexec : exec (.releaseCheckEnd e) s = .next (s.releaseProven e.val) :=
      event_true _ s (fun t => t.releaseProven e.val) (by simp [Engine.checkDue, hu, hx, hdue])
    have hwas : (s.engine e.val).kind? = some x.kind := by simp [Engine.kind?, hx]
    unfold State.releaseProven at hexec
    rw [hwas] at hexec
    unfold Context.releasedOutcomes
    by_cases hk : x.kind = .releaseOnly
    · rw [if_pos (congrArg some hk)] at hexec
      rw [if_pos hk]
      exact ⟨_, hexec, readyToGrade_writeOutcome e.isLt hx .released, rfl, rfl⟩
    · rw [if_neg (fun h => hk (Option.some.inj h))] at hexec
      rw [if_neg hk]
      exact ⟨s, hexec, readyToGrade_self hx, rfl, rfl⟩
  · have hexec : exec (.courtesyHoldEnd e) s = .next (s.releaseEnd e.val) :=
      event_true _ s (fun t => t.releaseEnd e.val) (phaseDue_of hst hx hdue)
    refine ⟨s, hexec, ?_, rfl, rfl⟩
    rw [Context.releasedOutcomes, if_neg hkind]
    exact readyToGrade_self hx

/-- The outcomes at a release end: none that ends a probe otherwise. -/
theorem releasedOutcomes_clear (hb : .blocked ∉ x.outcomes) (hs : .stuckLoop ∉ x.outcomes) :
    .blocked ∉ x.releasedOutcomes ∧ .stuckLoop ∉ x.releasedOutcomes ∧
      (x.kind = .releaseOnly → .released ∈ x.releasedOutcomes) := by
  unfold Context.releasedOutcomes
  by_cases hk : x.kind = .releaseOnly <;> simp [hk, hb, hs]

theorem withOutcomes_released (x : Context) :
    (if x.kind = .releaseOnly then { x with outcomes := x.outcomes ++ [.released] } else x) = x.withOutcomes x.releasedOutcomes := by
  unfold Context.withOutcomes Context.releasedOutcomes
  by_cases hk : x.kind = .releaseOnly <;> simp [hk]

end

/-- Settles O58: the release end is a grading on a state ready for it, behind which the probe ends. -/
theorem releaseEndGradesTheProbe : Obligations.ReleaseEndGradesTheProbe := by
  intro e s x hx g
  refine ⟨fun hst hnone hdue => ?check,
    fun n c step hn hnlt hc hclt _ hb hs _ hstep => ?ends⟩
  case check =>
    have hmoves := engineMoves_startCheck s e.isLt
    refine ⟨s.startCheck e.val, exec_releaseHoldEnd hst hx hnone hdue, ?_⟩
    rw [startCheck_self s e.isLt]
    exact ⟨rfl, rfl, rfl, rfl, hst, hx, rfl, hmoves.only, hmoves.rest⟩
  case ends =>
    obtain ⟨u, hexec, R, hnodes, hloops⟩ := exec_releaseEnd hx hstep
    rw [R.releaseEnd hn] at hexec
    replace R := R.returnSlot n
    have G := graded_gradeProbe (u.returnSlot n) e.val
    intro y v writes
    have hy : y = x.withOutcomes x.releasedOutcomes := withOutcomes_released x
    have hv : v = s.gradedVerdict e.val c x x.releasedOutcomes := by simp only [v, hy]; rfl
    clear_value v y
    subst hy hv
    obtain ⟨hbo, hso, hro⟩ := releasedOutcomes_clear hb hs
    obtain ⟨-, -, hplain⟩ := verdictOf_grade (x.withOutcomes x.releasedOutcomes) e.val (handedOver s e.val x)
      (gradedBy s e.val c x)
    obtain ⟨hgb, hgs⟩ := hplain hbo hso
    obtain ⟨hcircuits, htnodes, hpoints, hopen, hspot, hrun⟩ := G.tables (x := x)
    obtain ⟨hgraded, hothers⟩ := R.circuit_graded hc hclt
    have hcircuit := (circuit_congr hcircuits c).trans (hgraded.trans (graded_idle _ _ _ hgb hgs))
    obtain ⟨hnode, hnodeOthers⟩ := node_returnSlot u hnlt
    obtain ⟨hcounted, huncounted⟩ := R.counted G hc
    obtain ⟨hstate, hctx, hmeas, honly, hasks⟩ := R.disconnecting G e.isLt
    obtain ⟨-, -, hrunDue⟩ := R.graded hc
    have hwrites := writesBaselines_gradedBy s e.val c x (s.gradedVerdict e.val c x x.releasedOutcomes).grade
    refine ⟨_, s.verdictRecords x c (s.circuit c).last _, hexec, ?_, fun m hm => ?_, fun d hd => ?_, ?_, fun hw => ?_,
      fun hw => ?_, fun hk => grade_released _ _ _ hbo hso (hro hk), verdictGoesOut s x c _, fun hlen => ?_,
      fun i d hk hi hd hp => R.slot_ended G hc hk hi hd hp, hcounted, huncounted, hstate, hctx, hmeas, honly, hasks, ?_, ?_,
      ?_, ?_⟩
    · rw [node_congr htnodes, hnode, node_congr hnodes]
    · rw [node_congr htnodes, hnodeOthers m hm, node_congr hnodes]
    · rw [circuit_congr hcircuits, hothers d hd]
    · rw [hcircuit]
    · rw [hcircuit]
      exact newBaselines_of_writes (hwrites.2 hw) _ _
    · rw [hcircuit]
      exact newBaselines_of_not_writes (by simpa using mt hwrites.1 hw) _ _
    · obtain ⟨ended, hends, htx⟩ := R.records G hc hlen
      exact ⟨ended, hends, fun _ => by rw [htx, List.append_nil]⟩
    · rw [hpoints, R.rest]
    · rw [hopen]; exact hloops
    · rw [hspot, R.rest]
    · rw [hrun]; exact hrunDue rfl

end Sys2Proof.Machine
end


section
/-! SUPPORT. O59: a sync gain in the check of a release attempt (R61, R62, R64, R70, R148, R149). -/

namespace Sys2Proof.Machine

/-! ## The lead on whose check the gain falls -/

/-- Engine `e` is `l`, or the follower that the engine `l` leads with the probe `x` (R25). -/
def Reports (s : State) (e l : Nat) (x : Context) : Prop :=
  e = l ∨ (e = l + 1 ∧ l % 2 = 0 ∧ (s.engine e).state = .following ∧ x.rate = .wide)

theorem leadOf_of_reports {s : State} {e l : Nat} {x : Context} (h : Reports s e l x) (hst : (s.engine l).state ≠ .following) :
    s.leadOf e = l := by
  rcases h with rfl | ⟨rfl, heven, hfollows, -⟩
  · exact leadOf_self hst
  · have hodd : ¬(l + 1) % 2 = 0 := by omega
    simp [State.leadOf, hfollows, partner, hodd]

theorem lt_of_reports {s : State} {e l : Nat} {x : Context} (h : Reports s e l x) (he : e < 16) : l < 16 := by
  rcases h with rfl | ⟨rfl, -⟩ <;> omega

/-- `s` with its lanes moved to a moment and the bits received up to it, as the lane of `e` reports a gain (log 6). -/
def State.heardBy (s : State) (e : Nat) (rx : List Bool) (m : Nat) : State :=
  (s.moveTo m).setEngine e (((s.moveTo m).engine e).receive rx)

/-- The same with the gain taken. -/
def State.gainTakenBy (s : State) (e : Nat) (rx : List Bool) (m : Nat) : State :=
  (s.moveTo m).setEngine e (((s.moveTo m).engine e).receive rx).gainTaken

section
variable {s : State} {e l m : Nat} {x : Context} {rx : List Bool}

theorem engine_heardBy (s : State) (he : e < 16) (rx : List Bool) (m : Nat) :
    (s.heardBy e rx m).engine e = ((s.moveTo m).engine e).receive rx ∧
      (s.gainTakenBy e rx m).engine e = (((s.moveTo m).engine e).receive rx).gainTaken ∧
      ∀ d, d ≠ e → (s.heardBy e rx m).engine d = (s.moveTo m).engine d ∧
        (s.gainTakenBy e rx m).engine d = (s.moveTo m).engine d :=
  ⟨engine_setEngine_self _ _ _ he, engine_setEngine_self _ _ _ he,
    fun _ hd => ⟨engine_setEngine_ne _ _ _ _ hd.symm, engine_setEngine_ne _ _ _ _ hd.symm⟩⟩

/-- Neither the bits nor the taking of the gain move the lead's phase. -/
theorem lead_heardBy (h : Reports s e l x) (he : e < 16) (rx : List Bool) (m : Nat) :
    ((s.heardBy e rx m).engine l).context = (s.engine l).context ∧
      ((s.gainTakenBy e rx m).engine l).state = (s.engine l).state ∧
      ((s.gainTakenBy e rx m).engine l).checkFrom = (s.engine l).checkFrom ∧
      ((s.gainTakenBy e rx m).engine l).context = (s.engine l).context ∧
      ((s.gainTakenBy e rx m).engine l).meas = ((s.heardBy e rx m).engine l).meas ∧
      ((s.gainTakenBy e rx m).engine l).localOffset = ((s.heardBy e rx m).engine l).localOffset := by
  have hl := lt_of_reports h he
  obtain ⟨hself, hself', hothers⟩ := engine_heardBy s he rx m
  have hmoved := moveTo_engine s m l hl
  rcases h with rfl | ⟨rfl, -⟩
  · obtain ⟨hst, hctx, -, -, hcheck, -⟩ := receive_listens rx ((s.moveTo m).engine e)
    rw [hself, hself']
    rw [hmoved] at hst hctx hcheck ⊢
    exact ⟨hctx, hst, hcheck, hctx, rfl, rfl⟩
  · obtain ⟨hb, ha⟩ := hothers l (by omega)
    rw [ha, hb, hmoved]
    exact ⟨rfl, rfl, rfl, rfl, rfl, rfl⟩

/-- Taking the gain of a follower moves nothing but its lane. -/
theorem engineMoves_gainTakenBy (h : Reports s e l x) (he : e < 16) (hx : (s.engine l).context = some x) (rx : List Bool)
    (m : Nat) : EngineMoves (s.heardBy e rx m) (s.gainTakenBy e rx m) l := by
  obtain ⟨hbx, -, -, hax, -⟩ := lead_heardBy h he rx m
  obtain ⟨hself, hself', hothers⟩ := engine_heardBy s he rx m
  refine ⟨wide_congr (hax.trans hbx.symm), fun d hd => ?_, rfl⟩
  by_cases hde : d = e
  · subst hde
    rw [hself, hself']
    refine ⟨rfl, rfl, rfl, rfl, rfl, fun hor => ?_⟩
    obtain ⟨hfollower, -, -, hrate⟩ := h.resolve_left hd
    have hwide : ((s.heardBy d rx m).engine l).wide = true := by
      rw [wide_of_context (hbx.trans hx), hrate]
      rfl
    rcases hor with hne | hnot
    · exact absurd hfollower hne
    · exact absurd (hwide.symm.trans hnot) (by decide)
  · obtain ⟨hb, ha⟩ := hothers d hde
    rw [ha, hb]
    exact ⟨rfl, rfl, rfl, rfl, rfl, fun _ => rfl⟩

/-- The gain in the check of a release attempt is its failure (R61). -/
theorem exec_checkFails {e : Fin 16} {u : Nat} (h : Reports s e.val l x) (hst : (s.engine l).state = .loopDown)
    (hcheck : (s.engine l).checkFrom = some u) (hm : s.laneTime ≤ m) (hlt : m < 1250000)
    (hg : ((s.heardBy e.val rx m).engine e.val).lane.checker.gain = true) :
    exec (.checkerSyncGain e rx m) s = .next ((s.gainTakenBy e.val rx m).releaseAttemptFailed l) := by
  obtain ⟨hself, -⟩ := engine_heardBy s e.isLt rx m
  obtain ⟨-, hast, hacheck, -⟩ := lead_heardBy h e.isLt rx m
  have hexec := exec_checkerSyncGain hm hlt (by rwa [hself] at hg)
  rw [leadOf_of_reports h (by simp [hst])] at hexec
  refine hexec.trans (congrArg _ ?_)
  change (s.gainTakenBy e.val rx m).syncGained e.val l = _
  simp [State.syncGained, hast, hst, hacheck, hcheck]

end

/-! ## The last attempt has failed (R62, R148, R149) -/

/-- The STUCK_LOOP notice of a probe on circuit `c`, by node `n` and point `p`, with `k` entries then in the list
(section 11.6). -/
def stuckRecord (x : Context) (c n p k : Nat) : TxRecord :=
  ⟨.notice, 0x83, 0, .ok, false, false,
    be16 c ++ be8 n ++ be8 p ++ be8 x.kind.byte ++ be16 x.campaignNumber ++ be8 x.releaseAttempts ++
      be8 (min (x.releaseTotal.getD 0 + x.releaseAttempts) 255) ++ be8 k, none⟩

section
variable {s a : State} {l c n p : Nat} {x : Context}

theorem stuckNotice_eq (hc : x.circuit = some c) (hn : x.farNode = some n) (hp : x.accessPoint = some p) (k : Nat) :
    noticeRecord noticeStuckLoop (stuckPayload x k) = stuckRecord x c n p k := by
  simp [noticeRecord, noticeStuckLoop, stuckPayload, stuckRecord, circuitField, Context.stuckTotal, satAdd, hc, hn, hp]

/-- `s` as a stuck loop is graded: the outcome is written and the slot has passed to a new entry. -/
def State.stuckOn (s : State) (l : Nat) (x : Context) : State :=
  (s.writeOutcome l .stuckLoop).joinOpenLoops (x.openLoop s.now x.stuckTotal)

theorem stuckEnd_eq (hx : (s.engine l).context = some x) : s.stuckEnd l =
    (((s.stuckOn l x).gradeProbe l).offer noticeStuckLoop (stuckPayload x (s.openLoops.length + 1))).probeEnds l x := by
  simp only [State.stuckEnd, hx, State.probeEnds]
  congr 3
  simp [State.joinOpenLoops]

theorem readyToGrade_stuckOn (hl : l < 16) (hm : EngineMoves s a l) (hx : (s.engine l).context = some x)
    (hax : (a.engine l).context = some x) (hmeas : (a.engine l).meas = (s.engine l).meas)
    (hoff : (a.engine l).localOffset = (s.engine l).localOffset) :
    ReadyToGrade s (a.stuckOn l x) l x (x.outcomes ++ [.stuckLoop]) := by
  have hself : (a.stuckOn l x).engine l = _ := writeOutcome_self a l .stuckLoop hl x hax
  refine ⟨hx, by rw [hself]; rfl, by rw [hself]; exact hmeas, by rw [hself]; exact hoff, ?_, ?_⟩
  · exact OnlyEngine_trans hm.wide hm.only (writeOutcome_only a l .stuckLoop)
  · have hrest := hm.rest
    generalize a.engines = E at hrest
    subst hrest
    rfl

end

/-- Settles O59: the gain is a failed attempt of the lead; behind the last one the probe ends with its loop in the list. -/
theorem standingLoopJoinsTheList : Obligations.StandingLoopJoinsTheList := by
  intro e l s x rx m u hm hlt b hreports hst hcheck hx hgain
  replace hreports : Reports s e.val l x := hreports
  have hl := lt_of_reports hreports e.isLt
  have hexec := exec_checkFails hreports hst hcheck hm hlt hgain
  have hmoves := engineMoves_gainTakenBy hreports e.isLt hx rx m
  obtain ⟨hbx, -, -, hax, hmeas, hoff⟩ := lead_heardBy hreports e.isLt rx m
  rw [hx] at hbx hax
  generalize hgen : s.gainTakenBy e.val rx m = a at hexec hmoves hax hmeas hoff
  refine ⟨fun hleft => ?next, fun n p c hnone hn hp hc hclt _ hb => ?stuck⟩
  case next =>
    have hfails : a.releaseAttemptFailed l = a.startRelease l := by simp [State.releaseAttemptFailed, hax, hleft]
    have htrans := hmoves.trans (engineMoves_startRelease a hl)
    refine ⟨a.startRelease l, hexec.trans (congrArg _ hfails), ?_⟩
    rw [startRelease_self a l hl x hax]
    exact ⟨rfl, rfl, rfl, rfl, rfl, hmeas, htrans.only, htrans.rest⟩
  case stuck =>
    intro y v total
    have hfails : a.releaseAttemptFailed l = a.stuckEnd l := by simp [State.releaseAttemptFailed, hax, Nat.not_lt.2 hnone]
    rw [hfails, stuckEnd_eq hax] at hexec
    have R : ReadyToGrade (s.heardBy e.val rx m) (a.stuckOn l x) l x (x.outcomes ++ [.stuckLoop]) :=
      readyToGrade_stuckOn hl hmoves hbx hax hmeas hoff
    have hlist : a.openLoops = s.openLoops := by rw [hmoves.rest]; rfl
    have hnow : a.now = s.now := by rw [hmoves.rest]; rfl
    have G := graded_offer (a.stuckOn l x) l noticeStuckLoop (stuckPayload x (a.openLoops.length + 1))
    rw [stuckNotice_eq hc hn hp, hlist] at G
    rw [hlist] at hexec
    have hgrade : v.grade = .stuckLoop := by
      obtain ⟨-, hstuck, -⟩ := verdictOf_grade y l (handedOver b l x) (gradedBy b l c x)
      exact hstuck (by simp [y, hb]) (by simp [y])
    obtain ⟨hcircuits, htnodes, hpoints, hopen, hspot, -⟩ := G.tables (x := x)
    obtain ⟨hgraded, hothers⟩ := R.circuit_graded hc hclt
    have hcircuit := (circuit_congr hcircuits c).trans (hgraded.trans (graded_stuck _ _ _ hgrade))
    obtain ⟨hcounted, huncounted⟩ := R.counted G hc
    obtain ⟨hstate, hctx, htmeas, honly, hasks⟩ := R.disconnecting G hl
    refine ⟨_, s.verdictRecords x c (s.circuit c).last v, hexec, ?_, hcircuit, hgrade, fun d hd => ?_, ?_,
      verdictGoesOut s x c v, fun hlen => ?_, hcounted, huncounted, hstate, hctx, htmeas, honly, ?_, ?_, ?_⟩
    · rw [hopen]
      simp [State.stuckOn, State.joinOpenLoops, Context.openLoop, Context.stuckTotal, satAdd, hlist, hnow, hc, hn, hp, total]
    · exact (circuit_congr hcircuits d).trans (hothers d hd)
    · exact htnodes.trans (show a.nodes = s.nodes by rw [hmoves.rest]; rfl)
    · obtain ⟨ended, hends, htx⟩ := R.records G hc (Nat.succ_lt_succ hlen)
      exact ⟨ended, hends, fun _ => htx.trans (List.append_assoc _ [_] _)⟩
    · exact hp ▸ hasks
    · rw [hpoints, R.rest]
      rfl
    · rw [hspot, R.rest]
      rfl

end Sys2Proof.Machine
end


section
/-! SUPPORT. Entries that leave the class queues and the spot queue together: the hold of a node, the drain (R118, R124, R125, R133,
R140). -/

namespace Sys2Proof.Machine

/-! ## Class entries that leave (R118) -/

theorem offer_tx_prefix (s : State) (code : Byte) (p : List Byte) : s.mli.tx <+: (s.offer code p).mli.tx := by
  rw [offer_tx]
  split
  · exact List.prefix_append _ _
  · exact List.prefix_rfl

/-- From `s` to `t` the circuits `l` have left the class queues, each entry counted under `r`. -/
structure EntriesLeft (s t : State) (r : NotTested) (l : List Nat) : Prop where
  classes  : ∀ k, t.cls k = { s.cls k with queue := (s.cls k).queue.filter (fun c => !l.contains c) }
  campaign : t.campaign = { s.campaign with
    summary := { s.campaign.summary with notTested := t.campaign.summary.notTested } }
  counts   : CountsNotTested s t r.index l.length

/-- Outside the table a record is vacant, whose status is IDLE. -/
theorem circuit_setStatus_idle (s : State) (c d : Nat) :
    (s.setStatus c .idle).circuit d = if c = d then { s.circuit d with status := .idle } else s.circuit d := by
  rw [circuit_setStatus]
  by_cases hd : c = d
  · subst hd
    by_cases hlt : c < 2048
    · rw [if_pos ⟨rfl, hlt⟩, if_pos rfl]
    · rw [if_neg (fun h => hlt h.2), if_pos rfl]
      simp [State.circuit, Circuit.vacant, hlt]
  · rw [if_neg (fun h => hd h.1), if_neg hd]

theorem countsNotTested_removeQueued (s : State) (r : NotTested) (c : Nat) :
    CountsNotTested s (s.removeQueued r c) r.index 1 := fun i _ => bump_get _ _ i

theorem entriesLeft_removals (r : NotTested) (l : List Nat) (s : State) :
    EntriesLeft s (l.foldl (fun u c => u.removeQueued r c) s) r l := by
  induction l generalizing s with
  | nil =>
    exact ⟨fun k => by simp, rfl, fun i hi => by simp only [List.foldl_nil, List.length_nil]; split <;> omega⟩
  | cons c rest ih =>
    obtain ⟨hcls, hcamp, hcounts⟩ := ih (s.removeQueued r c)
    rw [List.foldl_cons]
    refine ⟨fun k => ?_, ?_, ?_⟩
    · have hboth (d : Nat) : (!rest.contains d && d != c) = !(c :: rest).contains d := by
        rw [List.contains_cons, Bool.not_or, Bool.and_comm]
        rfl
      rw [hcls, cls_removeQueued, List.filter_filter]
      simp only [hboth]
    · rw [hcamp]
      rfl
    · rw [List.length_cons, Nat.add_comm]
      exact countsNotTested_trans (countsNotTested_removeQueued s r c) hcounts

theorem circuit_removals (r : NotTested) (l : List Nat) (s : State) (d : Nat) :
    (l.foldl (fun u c => u.removeQueued r c) s).circuit d =
      if d ∈ l then { s.circuit d with status := .idle } else s.circuit d := by
  induction l generalizing s with
  | nil => simp
  | cons c rest ih =>
    have hone : (s.removeQueued r c).circuit d = (s.setStatus c .idle).circuit d := rfl
    rw [List.foldl_cons, ih, hone, circuit_setStatus_idle]
    by_cases hd : c = d
    · simp [hd]
    · simp [hd, Ne.symm hd]

section
variable {s t u : State} {r : NotTested} {l : List Nat}

theorem EntriesLeft.congr (h : EntriesLeft s t r l) (hcls : u.classes = t.classes) (hcamp : u.campaign = t.campaign) :
    EntriesLeft s u r l where
  classes k := (cls_congr hcls k).trans (h.classes k)
  campaign := by rw [hcamp]; exact h.campaign
  counts i hi := by rw [hcamp]; exact h.counts i hi

theorem queue_testEnd (s : State) (k : Nat) : (s.testEnd.cls k).queue = (s.cls k).queue := by
  by_cases h : CampaignOver s s
  · rw [testEnd_of_over h, cls_endCampaign]
  · rw [testEnd_of_not_over h]

theorem summary_testEnd (s : State) : s.testEnd.campaign.summary = s.campaign.summary := by
  by_cases h : CampaignOver s s
  · rw [testEnd_of_over h, campaign_endCampaign]
  · rw [testEnd_of_not_over h]

theorem EntriesLeft.queue_testEnd (h : EntriesLeft s t r l) (k : Nat) :
    (t.testEnd.cls k).queue = (s.cls k).queue.filter (fun c => !l.contains c) := by
  rw [Machine.queue_testEnd, h.classes]

theorem EntriesLeft.counts_testEnd (h : EntriesLeft s t r l) : CountsNotTested s t.testEnd r.index l.length := fun i hi => by
  rw [summary_testEnd]
  exact h.counts i hi

theorem EntriesLeft.campaignOver_iff (h : EntriesLeft s t r l) : CampaignOver s t.testEnd ↔ CampaignOver t t := by
  have hstate : t.campaign.state = s.campaign.state := by rw [h.campaign]
  have hflight : t.campaign.inFlight = s.campaign.inFlight := by rw [h.campaign]
  simp only [CampaignOver, Machine.queue_testEnd, hstate, hflight]

/-- Entries that leave and one test of the end (R127). -/
theorem EntriesLeft.endTested (h : EntriesLeft s t r l) : EndTested s t.testEnd := by
  refine ⟨fun hover => ?_, fun hover => ?_⟩ <;> rw [h.campaignOver_iff] at hover
  · rw [testEnd_of_over hover, campaign_endCampaign]
    refine ⟨by rw [h.campaign], fun k _ => by rw [cls_endCampaign, h.classes]⟩
  · rw [testEnd_of_not_over hover]
    exact ⟨h.campaign, fun k _ => by rw [h.classes]⟩

/-- CAMPAIGN_END is offered where the end is reached. -/
theorem tx_testEnd (s : State) : (CampaignOver s s → s.mli.tx.length < 48 →
      s.testEnd.mli.tx = s.mli.tx ++ [endRecord s.testEnd]) ∧ (¬CampaignOver s s → s.testEnd.mli.tx = s.mli.tx) := by
  refine ⟨fun h hlen => ?_, fun h => by rw [testEnd_of_not_over h]⟩
  rw [testEnd_of_over h, tx_endCampaign, if_pos hlen]

theorem tx_prefix_testEnd (s : State) : s.mli.tx <+: s.testEnd.mli.tx := by
  by_cases h : CampaignOver s s
  · rw [testEnd_of_over h, tx_endCampaign]
    split
    · exact List.prefix_append _ _
    · exact List.prefix_rfl
  · rw [testEnd_of_not_over h]

end

/-! ## Spot entries that leave (R133) -/

/-- The entry is a calibration, which no removal of this kind touches. -/
def SpotEntry.calibrates : SpotEntry → Bool
  | .calibration _ _ => true
  | .probe _ _ => false
  | .releaseOnly _ => false

section
variable {s : State} {st : Status} {x : SpotEntry}

theorem spot_removeSpot (hx : x.calibrates = false) : (s.removeSpot st x).spot = s.spot.erase x := by
  match x with
  | .probe c none => simp [State.removeSpot, State.leaveSpot]
  | .probe c (some i) => simp [State.removeSpot, State.leaveSpot]
  | .releaseOnly c => simp [State.removeSpot, State.leaveSpot]
  | .calibration _ _ => cases hx

/-- Only a probe entry's circuit becomes IDLE. -/
theorem circuit_removeSpot (s : State) (st : Status) (x : SpotEntry) (d : Nat) : (s.removeSpot st x).circuit d =
    if x.probes d = true then { s.circuit d with status := .idle } else s.circuit d := by
  have hidle (c : Nat) (y : SpotEntry) : ((s.leaveSpot y).setStatus c .idle).circuit d =
      if (c == d) = true then { s.circuit d with status := .idle } else s.circuit d := by
    simp only [beq_iff_eq]
    exact circuit_setStatus_idle (s.leaveSpot y) c d
  match x with
  | .probe c none => exact (circuit_congr (by simp [State.removeSpot]) d).trans (hidle c (.probe c none))
  | .probe c (some i) => exact (circuit_congr (by simp [State.removeSpot]) d).trans (hidle c (.probe c (some i)))
  | .releaseOnly c => exact circuit_congr (by simp [State.removeSpot]) d
  | .calibration _ _ => rfl

/-- The host's answer to a removed entry joins the tail, or nothing does. -/
theorem tx_prefix_removeSpot (s : State) (st : Status) (x : SpotEntry) : s.mli.tx <+: (s.removeSpot st x).mli.tx := by
  match x with
  | .probe c none => exact offer_tx_prefix ((s.leaveSpot (.probe c none)).setStatus c .idle) _ _
  | .probe c (some i) => exact answer_tx_prefix ((s.leaveSpot (.probe c (some i))).setStatus c .idle) i st false (be16 c)
  | .releaseOnly c => exact offer_tx_prefix (s.leaveSpot (.releaseOnly c)) _ _
  | .calibration _ _ => exact List.prefix_rfl

theorem slot_removeSpot {j : Nat} (s : State) (st : Status) (hj : entrySlot x ≠ some j) : (s.removeSpot st x).slot j = s.slot j := by
  match x with
  | .probe c none => simp [State.removeSpot, State.slot]
  | .probe c (some i) => exact slot_answer_ne _ _ _ _ (fun h => hj (congrArg some h))
  | .releaseOnly c => simp [State.removeSpot, State.slot]
  | .calibration _ _ => rfl

theorem tx_removeSpot (hx : x.calibrates = false) (hlen : s.mli.tx.length < 48)
    (hw : ∀ i, entrySlot x = some i → ∃ d, s.slot i = some d ∧ d.placed = false) :
    (s.removeSpot st x).mli.tx = s.mli.tx ++ removedAnswer s st x := by
  match x with
  | .probe c none => exact (offer_tx ((s.leaveSpot (.probe c none)).setStatus c .idle) _ _).trans (if_pos hlen)
  | .probe c (some i) =>
    obtain ⟨d, hd, hp⟩ := hw i rfl
    have htx := answer_tx_held ((s.leaveSpot (.probe c (some i))).setStatus c .idle) i st false (be16 c) d hd hp
    simpa [State.removeSpot, removedAnswer, hd] using htx
  | .releaseOnly c => exact (offer_tx (s.leaveSpot (.releaseOnly c)) _ _).trans (if_pos hlen)
  | .calibration _ _ => cases hx

theorem removedAnswer_length (s : State) (st : Status) (x : SpotEntry) : (removedAnswer s st x).length ≤ 1 := by
  unfold removedAnswer
  repeat' split
  all_goals simp

end

section
variable {p : SpotEntry → Bool} (hp : ∀ x, p x = true → x.calibrates = false)
include hp

/-- The entries of `todo` that `p` takes leave the spot queue, behind entries that stay. -/
theorem spot_removeSpots (st : Status) (todo : List SpotEntry) :
    ∀ (s : State) (done : List SpotEntry), s.spot = done ++ todo → (∀ x ∈ done, p x = false) →
      ((todo.filter p).foldl (fun u x => u.removeSpot st x) s).spot = done ++ todo.filter (fun x => !p x) := by
  induction todo with
  | nil => intro s done hs _; simpa using hs
  | cons x rest ih =>
    intro s done hs hdone
    cases hx : p x with
    | true =>
      have hnot : x ∉ done := fun hmem => absurd ((hdone x hmem).symm.trans hx) (by decide)
      have hs' : (s.removeSpot st x).spot = done ++ rest := by
        rw [spot_removeSpot (hp x hx), hs, erase_append_cons hnot]
      simpa [hx] using ih _ done hs' hdone
    | false =>
      have hdone' : ∀ y ∈ done ++ [x], p y = false := by
        intro y hy
        rcases List.mem_append.1 hy with hy | hy
        · exact hdone y hy
        · rwa [List.mem_singleton.1 hy]
      simpa [hx] using ih s (done ++ [x]) (by simp [hs]) hdone'

end

theorem circuit_removeSpots (st : Status) (l : List SpotEntry) (s : State) (d : Nat) :
    (l.foldl (fun u x => u.removeSpot st x) s).circuit d =
      if l.any (fun x => x.probes d) = true then { s.circuit d with status := .idle } else s.circuit d := by
  induction l generalizing s with
  | nil => simp
  | cons x rest ih =>
    rw [List.foldl_cons, ih, circuit_removeSpot, List.any_cons]
    cases x.probes d <;> cases rest.any (fun x => x.probes d) <;> simp

theorem tx_prefix_removeSpots (st : Status) (l : List SpotEntry) (s : State) :
    s.mli.tx <+: (l.foldl (fun u x => u.removeSpot st x) s).mli.tx :=
  foldl_inv _ (fun t => s.mli.tx <+: t.mli.tx) (fun t x h => h.trans (tx_prefix_removeSpot t st x)) l s List.prefix_rfl

/-- The answer to an entry that is no calibration reads its slot alone. -/
theorem removedAnswer_of_slot {s t : State} {st : Status} {x : SpotEntry} (hx : x.calibrates = false)
    (hslot : ∀ i, entrySlot x = some i → t.slot i = s.slot i) : removedAnswer t st x = removedAnswer s st x := by
  match x with
  | .probe c none => rfl
  | .probe c (some i) => simp only [removedAnswer, hslot i rfl]
  | .releaseOnly c => rfl
  | .calibration _ _ => cases hx

/-- Where each removed entry that answers a slot has one of its own, the answers stand in the order of the entries. -/
theorem tx_removeSpots (st : Status) (l : List SpotEntry) (hl : ∀ x ∈ l, x.calibrates = false) (s : State)
    (hn : (l.filterMap entrySlot).Nodup)
    (hw : ∀ i ∈ l.filterMap entrySlot, ∃ d, s.slot i = some d ∧ d.placed = false) (hlen : s.mli.tx.length + l.length ≤ 48) :
    (l.foldl (fun u x => u.removeSpot st x) s).mli.tx = s.mli.tx ++ l.flatMap (removedAnswer s st) := by
  induction l generalizing s with
  | nil => simp
  | cons x rest ih =>
    rw [List.length_cons] at hlen
    have hrest : ∀ y ∈ rest, y.calibrates = false := fun y hy => hl y (List.mem_cons_of_mem _ hy)
    have hone : (s.removeSpot st x).mli.tx = s.mli.tx ++ removedAnswer s st x :=
      tx_removeSpot (hl x List.mem_cons_self) (by omega)
        (fun i hi => hw i (List.mem_filterMap.2 ⟨x, List.mem_cons_self, hi⟩))
    have hslot : ∀ j ∈ rest.filterMap entrySlot, (s.removeSpot st x).slot j = s.slot j := by
      refine fun j hj => slot_removeSpot s st (fun hxj => ?_)
      rw [List.filterMap_cons_some hxj] at hn
      exact (List.nodup_cons.1 hn).1 hj
    have hsub : (rest.filterMap entrySlot).Sublist ((x :: rest).filterMap entrySlot) :=
      (List.sublist_cons_self x rest).filterMap entrySlot
    have hsame : rest.flatMap (removedAnswer (s.removeSpot st x) st) = rest.flatMap (removedAnswer s st) :=
      List.flatMap_congr (fun y hy =>
        removedAnswer_of_slot (hrest y hy) (fun j hj => hslot j (List.mem_filterMap.2 ⟨y, hy, hj⟩)))
    have hshort := removedAnswer_length s st x
    rw [List.foldl_cons, ih hrest _ (hsub.nodup hn) (fun j hj => by rw [hslot j hj]; exact hw j (hsub.subset hj))
      (by rw [hone, List.length_append]; omega), hone, hsame, List.flatMap_cons, List.append_assoc]

end Sys2Proof.Machine
end


section
/-! SUPPORT. O54: the reports of a loop-up to the far node, and the hold that a NO_LOOP may begin (R136 to R140, R144). -/

namespace Sys2Proof.Machine

/-! ## The hold of a node (R140) -/

section
variable {s a : State} {n : Nat}

/-- The class and spot entries of node `n` have left, none of them answered yet for the hold itself. -/
def State.workGone (a : State) (n : Nat) : State :=
  (a.heldSpotEntries n).foldl (fun u x => u.removeSpot .nodeHeld x)
    ((a.heldClassEntries n).foldl (fun u c => u.removeQueued .held c) a)

/-- The same with the NODE_HOLD notice offered. -/
def State.holdOffered (a : State) (n : Nat) (cause : HoldCause) : State :=
  (a.workGone n).offer noticeNodeHold
    ((a.workGone n).holdPayload n cause (a.heldClassEntries n).length (a.heldSpotEntries n).length)

theorem contains_heldClassEntries (a : State) (n : Nat) {k c : Nat} (hc : c ∈ (a.cls k).queue) :
    (a.heldClassEntries n).contains c = (a.farNodeOf c == n) := by
  rw [Bool.eq_iff_iff, List.contains_iff_mem, State.heldClassEntries, List.mem_filter]
  exact and_iff_right (mem_queuedCircuits hc)

theorem entriesLeft_workGone (a : State) (n : Nat) : EntriesLeft a (a.workGone n) .held (a.heldClassEntries n) :=
  (entriesLeft_removals .held (a.heldClassEntries n) a).congr (by simp [State.workGone, spotRemovals_frame])
    (by simp [State.workGone, spotRemovals_frame])

theorem entriesLeft_holdOffered (a : State) (n : Nat) (cause : HoldCause) :
    EntriesLeft a (a.holdOffered n cause) .held (a.heldClassEntries n) :=
  (entriesLeft_workGone a n).congr (by simp [State.holdOffered]) (by simp [State.holdOffered])

theorem calibrates_of_spotAtNode (x : SpotEntry) (h : a.spotAtNode n x = true) : x.calibrates = false := by
  cases x with
  | calibration _ _ => cases h
  | probe _ _ => rfl
  | releaseOnly _ => rfl

theorem spot_workGone (a : State) (n : Nat) : (a.workGone n).spot = a.spot.filter (fun x => !a.spotAtNode n x) :=
  spot_removeSpots calibrates_of_spotAtNode .nodeHeld a.spot _ [] (by simp [removals_frame]) (by simp)

theorem mem_queuedCircuits_iff (s : State) (c : Nat) : c ∈ s.queuedCircuits ↔ ∃ k, k < 4 ∧ c ∈ (s.cls k).queue := by
  refine ⟨fun h => ?_, fun ⟨_, _, hc⟩ => mem_queuedCircuits hc⟩
  rw [queuedCircuits_eq, List.mem_append, List.mem_append, List.mem_append] at h
  rcases h with ((h | h) | h) | h
  exacts [⟨0, by decide, h⟩, ⟨1, by decide, h⟩, ⟨2, by decide, h⟩, ⟨3, by decide, h⟩]

theorem any_probes_iff (l : List SpotEntry) (d : Nat) :
    l.any (fun x => x.probes d) = true ↔ ∃ slot, SpotEntry.probe d slot ∈ l := by
  rw [List.any_eq_true]
  refine ⟨fun ⟨x, hx, hd⟩ => ?_, fun ⟨slot, h⟩ => ⟨_, h, beq_self_eq_true d⟩⟩
  match x with
  | .probe c slot => exact ⟨slot, eq_of_beq hd ▸ hx⟩
  | .releaseOnly _ => cases hd
  | .calibration _ _ => cases hd

/-- A circuit of which an entry leaves. -/
def State.HoldTakes (a : State) (n d : Nat) : Prop :=
  a.farNodeOf d = n ∧ ((∃ k, k < 4 ∧ d ∈ (a.cls k).queue) ∨ ∃ slot, SpotEntry.probe d slot ∈ a.spot)

/-- The circuits of the entries that leave are IDLE, every other stands. -/
theorem circuit_workGone (a : State) (n d : Nat) :
    (a.HoldTakes n d → (a.workGone n).circuit d = { a.circuit d with status := .idle }) ∧
      (¬a.HoldTakes n d → (a.workGone n).circuit d = a.circuit d) := by
  have hqueued : d ∈ a.heldClassEntries n ↔ a.farNodeOf d = n ∧ ∃ k, k < 4 ∧ d ∈ (a.cls k).queue := by
    rw [State.heldClassEntries, List.mem_filter, mem_queuedCircuits_iff, beq_iff_eq, and_comm]
  have hspot : (a.heldSpotEntries n).any (fun x => x.probes d) = true ↔
      a.farNodeOf d = n ∧ ∃ slot, SpotEntry.probe d slot ∈ a.spot := by
    simp only [any_probes_iff, State.heldSpotEntries, List.mem_filter, State.spotAtNode, beq_iff_eq, exists_and_right, and_comm]
  have htakes : a.HoldTakes n d ↔ d ∈ a.heldClassEntries n ∨ (a.heldSpotEntries n).any (fun x => x.probes d) = true := by
    rw [hqueued, hspot, State.HoldTakes, and_or_left]
  rw [htakes, State.workGone, circuit_removeSpots, circuit_removals]
  by_cases hq : d ∈ a.heldClassEntries n <;> by_cases hs : (a.heldSpotEntries n).any (fun x => x.probes d) = true <;>
    simp [hq, hs]

theorem tx_prefix_holdOffered (a : State) (n : Nat) (cause : HoldCause) : a.mli.tx <+: (a.holdOffered n cause).mli.tx := by
  have hgone : a.mli.tx <+: (a.workGone n).mli.tx := by
    have h := tx_prefix_removeSpots .nodeHeld (a.heldSpotEntries n)
      ((a.heldClassEntries n).foldl (fun u c => u.removeQueued .held c) a)
    simp only [removals_frame] at h
    exact h
  exact hgone.trans (offer_tx_prefix _ _ _)

/-- Each entry that leaves the spot queue has one answer at most. -/
theorem heldAnswers_length (a : State) (n : Nat) :
    ((a.heldSpotEntries n).flatMap (removedAnswer a .nodeHeld)).length ≤ a.spot.countP (a.spotAtNode n) := by
  rw [List.length_flatMap, List.countP_eq_length_filter]
  exact (List.sum_le_card_nsmul _ 1 (by simpa using fun x _ => removedAnswer_length a .nodeHeld x)).trans
    (by simp [State.heldSpotEntries])

/-- The answers stand in the order of the entries, behind them NODE_HOLD (R140, R144). -/
theorem tx_holdOffered (hw : RepliesWait a) (hlen : a.mli.tx.length + a.spot.countP (a.spotAtNode n) < 48) (cause : HoldCause) :
    (a.holdOffered n cause).mli.tx =
      a.mli.tx ++ (a.heldSpotEntries n).flatMap (removedAnswer a .nodeHeld) ++ [noticeRecord noticeNodeHold
        (a.holdPayload n cause (a.heldClassEntries n).length (a.heldSpotEntries n).length)] := by
  let b := (a.heldClassEntries n).foldl (fun u c => u.removeQueued .held c) a
  have hmli : b.mli = a.mli := by simp only [b, removals_frame]
  obtain ⟨hn, hslots⟩ := hw
  have hsub : ((a.heldSpotEntries n).filterMap entrySlot).Sublist (a.spot.filterMap entrySlot) :=
    List.filter_sublist.filterMap entrySlot
  have hcalm : ∀ x ∈ a.heldSpotEntries n, x.calibrates = false := fun x hx =>
    calibrates_of_spotAtNode x (List.mem_filter.1 hx).2
  have hcount : (a.heldSpotEntries n).length = a.spot.countP (a.spotAtNode n) := List.countP_eq_length_filter.symm
  have hgone : (a.workGone n).mli.tx = a.mli.tx ++ (a.heldSpotEntries n).flatMap (removedAnswer a .nodeHeld) := by
    have h := tx_removeSpots .nodeHeld (a.heldSpotEntries n) hcalm b (hsub.nodup hn)
      (fun i hi => by rw [State.slot, hmli]; exact hslots i (hsub.subset hi)) (by rw [hmli]; omega)
    rw [hmli] at h
    refine h.trans (congrArg _ (List.flatMap_congr (fun x hx => ?_)))
    exact removedAnswer_of_slot (hcalm x hx) (fun i _ => by rw [State.slot, hmli]; rfl)
  have hpayload : (a.workGone n).holdPayload n cause (a.heldClassEntries n).length (a.heldSpotEntries n).length =
      a.holdPayload n cause (a.heldClassEntries n).length (a.heldSpotEntries n).length := by
    simp only [State.holdPayload, State.openLoopsAt, State.node, State.workGone, spotRemovals_frame, removals_frame]
  have hshort := heldAnswers_length a n
  rw [State.holdOffered, offer_tx, hpayload, hgone, if_pos (by rw [List.length_append]; omega)]

/-- The work of a hold done: the end condition is tested where a class entry left. -/
def State.holdDone (a : State) (n : Nat) (cause : HoldCause) : State :=
  if (a.heldClassEntries n).isEmpty then a.holdOffered n cause else (a.holdOffered n cause).testEnd

theorem holdNode_eq (s : State) (n : Nat) (cause : HoldCause) :
    s.holdNode n cause = (s.setNode n { s.node n with state := .held }).holdDone n cause := rfl

theorem holdDone_of_none {cause : HoldCause} (h : (a.heldClassEntries n).length = 0) : a.holdDone n cause = a.holdOffered n cause :=
  if_pos (List.isEmpty_iff.2 (List.eq_nil_of_length_eq_zero h))

theorem holdDone_of_some {cause : HoldCause} (h : 1 ≤ (a.heldClassEntries n).length) :
    a.holdDone n cause = (a.holdOffered n cause).testEnd :=
  if_neg (fun he => by rw [List.isEmpty_iff.1 he] at h; exact absurd h (by decide))

theorem holdDone_frame (a : State) (n : Nat) (cause : HoldCause) :
    (a.holdDone n cause).engines = a.engines ∧ (a.holdDone n cause).nodes = a.nodes ∧ (a.holdDone n cause).points = a.points ∧
      (a.holdDone n cause).openLoops = a.openLoops ∧ (a.holdDone n cause).amc = a.amc ∧ (a.holdDone n cause).now = a.now := by
  unfold State.holdDone State.holdOffered State.workGone
  split <;> simp [spotRemovals_frame, removals_frame]

theorem holdDone_tables (a : State) (n : Nat) (cause : HoldCause) :
    (a.holdDone n cause).circuits = (a.workGone n).circuits ∧ (a.holdDone n cause).spot = (a.workGone n).spot ∧
      (∀ k, ((a.holdDone n cause).cls k).queue = ((a.holdOffered n cause).cls k).queue) ∧
      (a.holdDone n cause).campaign.summary = (a.holdOffered n cause).campaign.summary := by
  unfold State.holdDone
  split
  · exact ⟨by simp [State.holdOffered], by simp [State.holdOffered], fun _ => rfl, rfl⟩
  · exact ⟨by simp [State.holdOffered], by simp [State.holdOffered], fun k => queue_testEnd _ k, summary_testEnd _⟩

theorem queue_holdDone (a : State) (n : Nat) (cause : HoldCause) (k : Nat) :
    ((a.holdDone n cause).cls k).queue = (a.cls k).queue.filter (fun c => !(a.farNodeOf c == n)) := by
  obtain ⟨-, -, hqueue, -⟩ := holdDone_tables a n cause
  rw [hqueue, (entriesLeft_holdOffered a n cause).classes]
  exact List.filter_congr (fun c hc => by rw [contains_heldClassEntries a n hc])

theorem campaignOver_holdDone {cause : HoldCause} (h : 1 ≤ (a.heldClassEntries n).length) :
    CampaignOver a (a.holdDone n cause) ↔ CampaignOver (a.holdOffered n cause) (a.holdOffered n cause) := by
  rw [holdDone_of_some h, (entriesLeft_holdOffered a n cause).campaignOver_iff]

/-- Behind NODE_HOLD goes CAMPAIGN_END where the last class entry to leave ends the campaign. -/
theorem tx_holdDone {cause : HoldCause} (hlen : (a.holdOffered n cause).mli.tx.length < 48) :
    ∃ ended, (a.holdDone n cause).mli.tx = (a.holdOffered n cause).mli.tx ++ ended ∧
      (1 ≤ (a.heldClassEntries n).length → CampaignOver a (a.holdDone n cause) → ended = [endRecord (a.holdDone n cause)]) ∧
      ((a.heldClassEntries n).length = 0 ∨ ¬CampaignOver a (a.holdDone n cause) → ended = []) := by
  rcases Nat.eq_zero_or_pos (a.heldClassEntries n).length with hzero | hpos
  · exact ⟨[], by rw [holdDone_of_none hzero, List.append_nil], fun h => by omega, fun _ => rfl⟩
  · rw [campaignOver_holdDone hpos, holdDone_of_some hpos]
    obtain ⟨hends, hstands⟩ := tx_testEnd (a.holdOffered n cause)
    by_cases hover : CampaignOver (a.holdOffered n cause) (a.holdOffered n cause)
    · exact ⟨_, hends hover hlen, fun _ _ => rfl, fun h => absurd hover (h.resolve_left (by omega))⟩
    · exact ⟨[], by rw [hstands hover, List.append_nil], fun _ h => absurd h hover, fun _ => rfl⟩

/-- The NODE_HOLD notice, its counts those of the work taken (R144). -/
theorem holdRecord_eq (a : State) (n : Nat) (cause : HoldCause) :
    noticeRecord noticeNodeHold (a.holdPayload n cause (a.heldClassEntries n).length (a.heldSpotEntries n).length) =
      ⟨.notice, 0x84, 0, .ok, false, false,
        be8 n ++ be8 cause.byte ++ be8 (a.node n).level ++ be8 (a.node n).occupancy ++
          be8 (a.openLoops.countP (fun o => o.farNode == n)) ++ be16 (a.queuedCircuits.countP (fun c => a.farNodeOf c == n)) ++
          be8 (a.spot.countP (a.spotAtNode n)), none⟩ := by
  rw [List.countP_eq_length_filter (p := fun c => a.farNodeOf c == n), List.countP_eq_length_filter (p := a.spotAtNode n)]
  rfl

theorem holdDone_unmoved {cause : HoldCause} (h : (a.heldClassEntries n).length = 0) :
    (a.holdDone n cause).campaign = a.campaign ∧ (a.holdDone n cause).classes = a.classes := by
  rw [holdDone_of_none h]
  simp [State.holdOffered, State.workGone, List.eq_nil_of_length_eq_zero h, spotRemovals_frame]

theorem tx_prefix_holdDone (a : State) (n : Nat) (cause : HoldCause) : a.mli.tx <+: (a.holdDone n cause).mli.tx := by
  have hoffered := tx_prefix_holdOffered a n cause
  unfold State.holdDone
  split
  · exact hoffered
  · exact hoffered.trans (tx_prefix_testEnd _)

/-- A hold takes the work of its node (R140). -/
theorem holdTakesTheWork (a : State) (n : Nat) (cause : HoldCause) :
    HoldTakesTheWork a (a.holdDone n cause) n [] (noticeRecord noticeNodeHold
      (a.holdPayload n cause (a.heldClassEntries n).length (a.heldSpotEntries n).length)) := by
  obtain ⟨hcircuits, hspot, -, hsummary⟩ := holdDone_tables a n cause
  have E := entriesLeft_holdOffered a n cause
  unfold HoldTakesTheWork
  intro here spotHere left
  have hspotHere : spotHere = a.spotAtNode n := by funext y; cases y <;> rfl
  have hleft : left = (a.heldClassEntries n).length := List.countP_eq_length_filter
  clear_value spotHere left
  subst hspotHere hleft
  refine ⟨fun k _ => queue_holdDone a n cause k, hspot.trans (spot_workGone a n), fun c hc hin => ?_, fun c hout => ?_,
    fun i hi => by rw [hsummary]; exact E.counts i hi, fun h => ?_, fun h => ?_, ?_, fun hw hlen => ?_⟩
  · obtain ⟨hidle, -⟩ := circuit_workGone a n c
    exact (circuit_congr hcircuits c).trans (hidle ⟨eq_of_beq hc, hin⟩)
  · obtain ⟨-, hstands⟩ := circuit_workGone a n c
    refine (circuit_congr hcircuits c).trans (hstands ?_)
    rintro ⟨hnode, hin⟩
    rcases hout with hfar | ⟨hqueue, hprobe⟩
    · exact absurd hnode (beq_eq_false_iff_ne.1 hfar)
    · rcases hin with ⟨k, hk, hc⟩ | ⟨slot, hc⟩
      exacts [hqueue k hk hc, hprobe slot hc]
  · rw [holdDone_of_some h]
    exact E.endTested
  · exact holdDone_unmoved h
  · obtain ⟨more, hmore⟩ := tx_prefix_holdDone a n cause
    exact ⟨more, by rw [List.append_nil, hmore]⟩
  · have hlen : a.mli.tx.length + a.spot.countP (a.spotAtNode n) + 1 < 48 := hlen
    have hoffered := tx_holdOffered (n := n) hw (by omega) cause
    have hshort := heldAnswers_length a n
    obtain ⟨ended, htx, hends⟩ := tx_holdDone (a := a) (n := n) (cause := cause)
      (by rw [hoffered]; simp only [List.length_append, List.length_singleton]; omega)
    exact ⟨ended, by rw [htx, hoffered]; simp [State.heldSpotEntries], hends⟩

/-- A state in which the host and the queues stand as in `s`. -/
structure SameWork (s a : State) : Prop where
  circuits : a.circuits = s.circuits
  classes  : a.classes = s.classes
  spot     : a.spot = s.spot
  campaign : a.campaign = s.campaign
  mli      : a.mli = s.mli

/-- What a hold takes reads the queues, the circuits, the campaign's record and the replies that wait. -/
theorem holdTakesTheWork_of_same {t : State} {first : List TxRecord} {hold : TxRecord} (h : SameWork s a)
    (H : HoldTakesTheWork a t n first hold) : HoldTakesTheWork s t n first hold := by
  obtain ⟨hcircuits, hclasses, hspot, hcampaign, hmli⟩ := h
  have hanswer (x : SpotEntry) (hx : x.calibrates = false) : removedAnswer a .nodeHeld x = removedAnswer s .nodeHeld x :=
    removedAnswer_of_slot hx (fun i _ => by simp only [State.slot, hmli])
  unfold HoldTakesTheWork RepliesWait EndTested CampaignOver CountsNotTested State.queuedCircuits State.slot at H ⊢
  simp only [circuit_congr hcircuits, cls_congr hclasses, hclasses, hspot, hcampaign, hmli] at H
  obtain ⟨hqueues, hleft, hidle, hstands, hcounts, htested, hunmoved, hprefix, hrecords⟩ := H
  refine ⟨hqueues, hleft, hidle, hstands, hcounts, htested, hunmoved, hprefix, fun hw hlen => ?_⟩
  obtain ⟨ended, htx, hends⟩ := hrecords hw hlen
  refine ⟨ended, htx.trans ?_, hends⟩
  congr 2
  refine List.flatMap_congr (fun x hx => hanswer x ?_)
  cases x with
  | calibration _ _ => exact absurd (List.mem_filter.1 hx).2 Bool.false_ne_true
  | probe _ _ => rfl
  | releaseOnly _ => rfl

/-- The same of a state with the end of the hold's tables. -/
theorem holdTakesTheWork_congr {t u : State} {first : List TxRecord} {hold : TxRecord} (h : SameWork t u)
    (H : HoldTakesTheWork s t n first hold) : HoldTakesTheWork s u n first hold := by
  obtain ⟨hcircuits, hclasses, hspot, hcampaign, hmli⟩ := h
  simpa only [HoldTakesTheWork, EndTested, CampaignOver, CountsNotTested, endRecord_congr hcampaign hclasses,
    circuit_congr hcircuits, cls_congr hclasses, hclasses, hspot, hcampaign, hmli] using H

end

/-! ## The reports to the node (R136, R137) -/

theorem node_reportConfirmed (s : State) {n : Nat} (hn : n < 64) : (s.reportConfirmed n).node n = (s.node n).confirmed ∧
    ∀ m, m ≠ n → (s.reportConfirmed n).node m = s.node m :=
  ⟨node_setNode_self _ _ _ hn, fun _ hm => node_setNode_ne _ _ _ _ hm.symm⟩

/-- Where no hold begins, the report moves its node alone. -/
theorem reportNoLoop_of_no_hold {s : State} {n : Nat} (h : (s.node n).autoHolds = false) :
    s.reportNoLoop n = s.setNode n ((s.node n).noLoop s.now) := by simp [State.reportNoLoop, h]

/-- The report that holds its node: the counts at 0, the node HELD, its work taken (R138, R140). -/
theorem reportNoLoop_of_hold {s : State} {n : Nat} (hn : n < 64) (h : (s.node n).autoHolds = true) :
    s.reportNoLoop n = ((s.setNode n ((s.node n).noLoop s.now)).setNode n
      { (s.node n).noLoop s.now with state := .held }).holdDone n .auto := by
  simp only [State.reportNoLoop, h, if_true, holdNode_eq, node_setNode_self _ _ _ hn]

theorem autoHolds_iff (w : Node) :
    w.autoHolds = true ↔ 1 ≤ w.fails ∧ 4 ≤ w.level ∧ w.autoHold = true ∧ w.state = .active := by
  simp [Node.autoHolds, and_assoc]

/-- The counts, the level and the wait behind a NO_LOOP report (R137, R138). -/
theorem noLoop_cases (w : Node) (now : Nat) :
    (w.fails = 0 → w.noLoop now = { w with successes := 0, fails := 1 }) ∧
    (1 ≤ w.fails → w.level < 4 → w.noLoop now = { w with
      successes := 0, fails := 0, level := w.level + 1, waitPending := true, nextEligible := now + 5000 * 2 ^ (w.level + 1) }) ∧
    (1 ≤ w.fails → 4 ≤ w.level → w.autoHold = false → w.noLoop now =
      { w with successes := 0, fails := 0, waitPending := true, nextEligible := now + 80000 }) ∧
    (1 ≤ w.fails → 4 ≤ w.level → w.autoHold = true → w.noLoop now = { w with successes := 0, fails := 0 }) := by
  unfold Node.noLoop
  refine ⟨fun hf => ?_, fun hf hl => ?_, fun hf hl ha => ?_, fun hf hl ha => ?_⟩
  · rw [if_pos (by omega), hf]
  · rw [if_neg (by omega), if_pos hl]
    rfl
  · rw [if_neg (by omega), if_neg (by omega), ha]
    rfl
  · rw [if_neg (by omega), if_neg (by omega), if_pos ha]

/-! ## The end of LOOP_UP (R52, R53) -/

section
variable {s b : State} {e : Fin 16} {x : Context} {n : Nat}

theorem exec_loopConfirmed (hx : (s.engine e.val).context = some x) (hst : (s.engine e.val).state = .loopUp)
    (hn : x.farNode = some n) (hdue : x.timing.confirmTime ≤ (s.engine e.val).lane.codeDet.count) :
    exec (.loopConfirmed e) s = .next ((s.reportConfirmed n).startSoak e.val) := by
  have hfar : (s.engine e.val).farNode = n := by simp [Engine.farNode, hx, hn]
  rw [← hfar]
  exact event_true _ s (fun t => (t.reportConfirmed (s.engine e.val).farNode).startSoak e.val)
    (by simp [Engine.confirmDue, hst, hx, hdue])

theorem loopUpExpires_of_exhausted (hx : (s.engine e.val).context = some x) (hn : x.farNode = some n)
    (h : x.timing.loopAttempts ≤ x.loopAttempts) :
    s.loopUpExpires e.val = ((s.writeOutcome e.val .noLoop).reportNoLoop n).startCourtesy e.val := by
  have hfar : (s.engine e.val).farNode = n := by simp [Engine.farNode, hx, hn]
  rw [State.loopUpExpires, if_neg (by simp [Engine.attemptsRemain, hx, h]), hfar]

/-- NO_LOOP written and reported, the engine begins its courtesy release. -/
theorem courtesy_behind_noLoop (hx : (s.engine e.val).context = some x)
    (hb : b.engines = (s.writeOutcome e.val .noLoop).engines) :
    let t := b.startCourtesy e.val
    (t.engine e.val).state = .courtesyRelease ∧
      (t.engine e.val).context = some { x with phaseTimer := 0, outcomes := x.outcomes ++ [.noLoop] } ∧
      (t.engine e.val).meas = (s.engine e.val).meas ∧ s.OnlyEngine t e.val := by
  intro t
  have hself := writeOutcome_self s e.val .noLoop e.isLt x hx
  have hwritten := engineMoves_writeOutcome s e.isLt .noLoop
  have hmoves := engineMoves_enterPhase b e.isLt .courtesyRelease Lane.turnToCode
  have hbe := (engine_congr hb e.val).trans hself
  have honly : s.OnlyEngine b e.val := fun d hd => by
    rw [engine_congr hb d]
    exact hwritten.only d hd
  have hwide : (b.engine e.val).wide = (s.engine e.val).wide := by rw [engine_congr hb, hwritten.wide]
  have hctx : (b.engine e.val).context = some { x with outcomes := x.outcomes ++ [.noLoop] } := by rw [hbe]
  simp only [t, startCourtesy_self b e.isLt]
  exact ⟨rfl, context_enter hctx _, by rw [hbe]; rfl, OnlyEngine_trans hwide honly hmoves.only⟩

end

/-- Settles O54: LOOP_UP's two ends are a report to the far node and the phase that the engine begins behind it. -/
theorem loopUpReportsToTheNode : Obligations.LoopUpReportsToTheNode := by
  intro e s x n hx hst hn hlt w here spotHere ends
  refine ⟨fun hdue => ?confirmed, fun hdue hleft => ?exhausted⟩
  case confirmed =>
    let b := s.reportConfirmed n
    have hmoves := engineMoves_startSoak b e.isLt
    have hnodes : (b.startSoak e.val).nodes = b.nodes := by simp
    obtain ⟨hnode, hothers⟩ := node_reportConfirmed s hlt
    refine ⟨b.startSoak e.val, exec_loopConfirmed hx hst hn hdue, ?_⟩
    rw [startSoak_self (s := b) e.isLt hx]
    refine ⟨rfl, rfl, rfl, rfl, rfl, rfl, rfl, rfl, rfl, ?_, fun m hm => ?_, hmoves.only, ?_⟩
    · rw [node_congr hnodes, hnode]
      rfl
    · rw [node_congr hnodes, hothers m hm]
    · rw [hnodes]
      exact hmoves.rest
  case exhausted =>
    let u := s.writeOutcome e.val .noLoop
    have hexec : exec (.loopUpTimeout e) s = .next ((u.reportNoLoop n).startCourtesy e.val) :=
      (exec_loopUpTimeout hst hx hdue).trans (congrArg _ (loopUpExpires_of_exhausted hx hn hleft))
    obtain ⟨hfirst, hup, hwait, hheld⟩ := noLoop_cases w s.now
    refine ⟨fun hno => ?counts, fun hf hl ha hact => ?holds⟩
    case counts =>
      have hauto : w.autoHolds = false := by
        rw [← Bool.not_eq_true, autoHolds_iff]
        rintro ⟨hf, hl, ha, hact⟩
        rcases hno with h | h | h | h
        exacts [by omega, by omega, absurd (h.symm.trans ha) (by decide), absurd (h.symm.trans hact) (by decide)]
      rw [reportNoLoop_of_no_hold (s := u) hauto] at hexec
      let b := u.setNode n (w.noLoop s.now)
      obtain ⟨hstate, hctx, hmeas, honly⟩ := courtesy_behind_noLoop (b := b) hx rfl
      have hnodes : (b.startCourtesy e.val).nodes = b.nodes := by simp
      have hnode : (b.startCourtesy e.val).node n = w.noLoop s.now :=
        (node_congr hnodes n).trans (node_setNode_self _ _ _ hlt)
      refine ⟨b.startCourtesy e.val, ⟨hexec, hstate, hctx, hmeas, fun m hm => ?_, honly⟩, fun hf => ?_, fun hf hl => ?_,
        fun hf hl ha => ?_, fun hf hl ha => ?_, ?_⟩
      · exact (node_congr hnodes m).trans (node_setNode_ne _ _ _ _ hm.symm)
      · rw [hnode, hfirst hf]
      · rw [hnode, hup hf hl]
      · rw [hnode, hwait hf hl ha]
      · rw [hnode, hheld hf hl ha]
      · rw [hnodes]
        exact (engineMoves_enterPhase b e.isLt .courtesyRelease Lane.turnToCode).rest
    case holds =>
      have hauto : w.autoHolds = true := (autoHolds_iff w).2 ⟨hf, hl, ha, hact⟩
      rw [reportNoLoop_of_hold (s := u) hlt hauto] at hexec
      let a := (u.setNode n (w.noLoop s.now)).setNode n { w.noLoop s.now with state := .held }
      have hsame : SameWork s a := ⟨rfl, rfl, rfl, rfl, rfl⟩
      have hnode : a.node n = { w with successes := 0, fails := 0, state := .held } := by
        rw [node_setNode_self _ _ _ hlt, hheld hf hl ha]
      obtain ⟨hengines, hnodes, hpoints, hopen, hamc, hnow⟩ := holdDone_frame a n .auto
      obtain ⟨hstate, hctx, hmeas, honly⟩ := courtesy_behind_noLoop (b := a.holdDone n .auto) hx hengines
      have htnodes : ((a.holdDone n .auto).startCourtesy e.val).nodes = a.nodes := by simp [hnodes]
      refine ⟨(a.holdDone n .auto).startCourtesy e.val, ⟨hexec, hstate, hctx, hmeas, fun m hm => ?_, honly⟩, ?_, ?_,
        by simp [hpoints, a, u], by simp [hopen, a, u], by simp [hamc, a, u], by simp [hnow, a, u]⟩
      · exact (node_congr htnodes m).trans
          ((node_setNode_ne _ _ _ _ hm.symm).trans (node_setNode_ne _ _ _ _ hm.symm))
      · rw [node_congr htnodes, hnode]
      · have hends : SameWork (a.holdDone n .auto) ((a.holdDone n .auto).startCourtesy e.val) :=
          ⟨by simp, by simp, by simp, by simp, by simp⟩
        have hspot : spotHere = s.spotAtNode n := by funext y; cases y <;> rfl
        have H := holdTakesTheWork_congr hends (holdTakesTheWork_of_same hsame (holdTakesTheWork a n .auto))
        rw [holdRecord_eq, hnode] at H
        rw [hspot]
        exact H

end Sys2Proof.Machine
end


section
/-! SUPPORT. O31: what an abort does to the queues and to the probes in flight (R71, R125, R127, R128). -/

namespace Sys2Proof.Machine

/-! ## The probes that an abort shortens (R71) -/

/-- From `g` to `h` an engine's probe has met an abort: a campaign probe not yet marked is shortened by its phase, and any
other engine keeps its state and its context. -/
def Engine.MeetsAbort (g h : Engine) : Prop :=
  (∀ x, g.context = some x → x.kind = .campaign → x.aborted = false →
    (g.state = .connecting → h.state = .connecting ∧ h.context = some { x with aborted := true }) ∧
    ((g.state = .loopUp ∨ g.state = .retryWait) →
      h.state = .courtesyRelease ∧ h.context = some { x with aborted := true, phaseTimer := 0 }) ∧
    (g.state = .soak → h.state = .loopDown ∧ h.context = some { x with
      aborted := true, outcomes := x.outcomes ++ [.soakShortened], phaseTimer := 0
      releaseAttempts := x.releaseAttempts + 1 })) ∧
  ((∀ x, g.context = some x → x.kind ≠ .campaign ∨ x.aborted = true ∨
      (g.state ≠ .connecting ∧ g.state ≠ .loopUp ∧ g.state ≠ .retryWait ∧ g.state ≠ .soak)) →
    h.state = g.state ∧ h.context = g.context)

theorem Engine.MeetsAbort.congr {g g' h h' : Engine} (m : g.MeetsAbort h) (hg : g'.state = g.state ∧ g'.context = g.context)
    (hh : h'.state = h.state ∧ h'.context = h.context) : g'.MeetsAbort h' := by
  obtain ⟨hgs, hgx⟩ := hg
  obtain ⟨hhs, hhx⟩ := hh
  simpa only [Engine.MeetsAbort, hgs, hgx, hhs, hhx] using m

theorem abortable_eq (g : Engine) : g.abortable = (g.context.any (fun x => x.kind == .campaign && !x.aborted) &&
    (g.state == .connecting || g.state == .loopUp || g.state == .retryWait || g.state == .soak)) := by
  have hphase : (match g.state with
      | .connecting | .loopUp | .retryWait | .soak => true
      | _ => false) = (g.state == .connecting || g.state == .loopUp || g.state == .retryWait || g.state == .soak) := by
    cases g.state <;> rfl
  have hcontext : (g.isCampaign && !((g.context.map Context.aborted).getD false)) =
      g.context.any (fun x => x.kind == .campaign && !x.aborted) := by
    unfold Engine.isCampaign Engine.kind?
    cases g.context <;> rfl
  rw [← hcontext, ← hphase]
  rfl

theorem abortable_iff (g : Engine) : g.abortable = true ↔ ∃ x, g.context = some x ∧ x.kind = .campaign ∧ x.aborted = false ∧
    (g.state = .connecting ∨ g.state = .loopUp ∨ g.state = .retryWait ∨ g.state = .soak) := by
  rw [abortable_eq]
  cases g.context <;> simp [and_assoc, or_assoc]

section
variable (s : State) {e : Nat} {x : Context} (he : e < 16)
include he

theorem markAborted_self (hx : (s.engine e).context = some x) :
    (s.markAborted e).engine e = { s.engine e with context := some { x with aborted := true } } := by
  rw [State.markAborted, modEngine_self _ _ _ he, Engine.modContext, hx]
  rfl

theorem engineMoves_markAborted : EngineMoves s (s.markAborted e) e :=
  engineMoves_modContext s he (k := fun x => { x with aborted := true }) (fun _ => rfl) (fun _ => rfl)

/-- An abort moves one engine at a time. -/
theorem engineMoves_abortEngine : EngineMoves s (s.abortEngine e) e := by
  have hmark := engineMoves_markAborted s he
  unfold State.abortEngine
  split
  · split
    · exact hmark.trans (engineMoves_enterPhase _ he _ _)
    · exact hmark.trans (engineMoves_enterPhase _ he _ _)
    · exact (hmark.trans (engineMoves_writeOutcome _ he _)).trans (engineMoves_startRelease _ he)
    · exact hmark
  · exact EngineMoves.refl s e

/-- The phases of a probe that an abort shortens. -/
theorem abortEngine_of_abortable (hx : (s.engine e).context = some x) (hab : (s.engine e).abortable = true) :
    ((s.engine e).state = .connecting → ((s.abortEngine e).engine e).state = .connecting ∧
      ((s.abortEngine e).engine e).context = some { x with aborted := true }) ∧
    ((s.engine e).state = .loopUp ∨ (s.engine e).state = .retryWait →
      ((s.abortEngine e).engine e).state = .courtesyRelease ∧
        ((s.abortEngine e).engine e).context = some { x with aborted := true, phaseTimer := 0 }) ∧
    ((s.engine e).state = .soak → ((s.abortEngine e).engine e).state = .loopDown ∧
      ((s.abortEngine e).engine e).context = some { x with
        aborted := true, outcomes := x.outcomes ++ [.soakShortened], phaseTimer := 0
        releaseAttempts := x.releaseAttempts + 1 }) := by
  have hmarked := markAborted_self s he hx
  have hmx : ((s.markAborted e).engine e).context = some { x with aborted := true } := by rw [hmarked]
  have hcourtesy : (((s.markAborted e).startCourtesy e).engine e).state = .courtesyRelease ∧
      (((s.markAborted e).startCourtesy e).engine e).context = some { x with aborted := true, phaseTimer := 0 } := by
    rw [startCourtesy_self _ he]
    exact ⟨rfl, context_enter hmx _⟩
  unfold State.abortEngine
  rw [if_pos hab]
  refine ⟨fun h => ?_, fun h => ?_, fun h => ?_⟩
  · rw [h]
    dsimp only
    rw [hmarked]
    exact ⟨h, rfl⟩
  · rcases h with h | h <;> (rw [h]; exact hcourtesy)
  · rw [h]
    have hwritten := writeOutcome_self (s.markAborted e) e .soakShortened he _ hmx
    dsimp only
    rw [State.endSoak, startRelease_self _ e he { x with aborted := true, outcomes := x.outcomes ++ [.soakShortened] }
      (by rw [hwritten])]
    exact ⟨rfl, rfl⟩

theorem meetsAbort_abortEngine : (s.engine e).MeetsAbort ((s.abortEngine e).engine e) := by
  by_cases hab : (s.engine e).abortable = true
  · obtain ⟨x, hx, hkind, hmark, hst⟩ := (abortable_iff _).1 hab
    refine ⟨fun y hy _ _ => abortEngine_of_abortable s he hy hab, fun hno => ?_⟩
    obtain h | h | ⟨hc, hl, hr, hs⟩ := hno x hx
    · exact absurd hkind h
    · exact absurd (hmark.symm.trans h) (by decide)
    · exact absurd hst (by simp [hc, hl, hr, hs])
  · have hstays : s.abortEngine e = s := if_neg hab
    rw [hstays]
    refine ⟨fun x hx hk ha => ?_, fun _ => ⟨rfl, rfl⟩⟩
    have hno (h : (s.engine e).state = .connecting ∨ (s.engine e).state = .loopUp ∨ (s.engine e).state = .retryWait ∨
        (s.engine e).state = .soak) : False := hab ((abortable_iff _).2 ⟨x, hx, hk, ha, h⟩)
    exact ⟨fun h => (hno (.inl h)).elim, fun h => (hno (.inr (h.imp_right .inl))).elim,
      fun h => (hno (.inr (.inr (.inr h)))).elim⟩

end

/-- The engines in order: each meets the abort once, and nothing else moves. -/
theorem abortProbes_effect (s : State) : ∃ engines, s.abortProbes = { s with engines := engines } ∧
    ∀ e, e < 16 → (s.engine e).MeetsAbort ({ s with engines := engines }.engine e) := by
  obtain ⟨hmet, -, hrest⟩ := foldl_range_inv State.abortEngine (fun k t =>
    (∀ e, e < k → (s.engine e).MeetsAbort (t.engine e)) ∧
      (∀ e, k ≤ e → (t.engine e).state = (s.engine e).state ∧ (t.engine e).context = (s.engine e).context) ∧
      t = { s with engines := t.engines }) 16 s
    ⟨fun e he => absurd he (Nat.not_lt_zero e), fun _ _ => ⟨rfl, rfl⟩, rfl⟩ (fun k t hk ⟨hmet, hleft, hrest⟩ => by
      obtain ⟨-, honly, hmoves⟩ := engineMoves_abortEngine t hk
      have hother (e : Nat) (he : e ≠ k) : ((t.abortEngine k).engine e).state = (t.engine e).state ∧
          ((t.abortEngine k).engine e).context = (t.engine e).context := by
        obtain ⟨hst, hctx, -⟩ := honly e he
        exact ⟨hst, hctx⟩
      refine ⟨fun e he => ?_, fun e he => ?_, by rw [hmoves, hrest]⟩
      · rcases Nat.lt_succ_iff_lt_or_eq.1 he with hlt | rfl
        · exact (hmet e hlt).congr ⟨rfl, rfl⟩ (hother e (by omega))
        · obtain ⟨hst, hctx⟩ := hleft e le_rfl
          exact (meetsAbort_abortEngine t hk).congr ⟨hst.symm, hctx.symm⟩ ⟨rfl, rfl⟩
      · obtain ⟨hst, hctx⟩ := hother e (by omega)
        obtain ⟨hst', hctx'⟩ := hleft e (by omega)
        exact ⟨hst.trans hst', hctx.trans hctx'⟩)
  rw [State.abortProbes]
  generalize (List.range 16).foldl State.abortEngine s = t at hmet hrest ⊢
  exact ⟨t.engines, hrest, hmet⟩

theorem abortCount_eq (s : State) : s.abortCount = (List.range 16).countP (fun e =>
    (s.engine e).context.any (fun x => x.kind == .campaign && !x.aborted) &&
      ((s.engine e).state == .connecting || (s.engine e).state == .loopUp || (s.engine e).state == .retryWait ||
        (s.engine e).state == .soak)) := by
  rw [State.abortCount, engines_toList, List.countP_map]
  exact List.countP_congr (fun e _ => by rw [Function.comp_apply, abortable_eq])

/-! ## The queues empty (R124, R125) -/

/-- From `s` to `t` every class entry has left, counted under `r`, and the campaign drains with the cause `cause`. -/
structure Drained (s t : State) (r : NotTested) (cause : EndCause) : Prop where
  classes  : ∀ k, t.cls k = { s.cls k with queue := [], credits := 0, timer := 0 }
  campaign : t.campaign = { s.campaign with
    state := .draining, endCause := cause, deadline := none
    summary := { s.campaign.summary with notTested := t.campaign.summary.notTested } }
  counts   : CountsNotTested s t r.index s.queuedCount
  queued   : ∀ c, (∃ k, k < 4 ∧ c ∈ (s.cls k).queue) → t.circuit c = { s.circuit c with status := .idle }
  others   : ∀ c, (∀ k, k < 4 → c ∉ (s.cls k).queue) → t.circuit c = s.circuit c

theorem drained_drain (s : State) (r : NotTested) (cause : EndCause) : Drained s (s.drain r cause) r cause := by
  obtain ⟨hclasses, hcampaign, hcounts⟩ := entriesLeft_removals r s.queuedCircuits s
  have hcircuit (c : Nat) : (s.drain r cause).circuit c =
      if c ∈ s.queuedCircuits then { s.circuit c with status := .idle } else s.circuit c :=
    circuit_removals r s.queuedCircuits s c
  refine ⟨fun k => ?_, ?_, fun i hi => ?_, fun c hc => ?_, fun c hc => ?_⟩
  · have hempty : (s.cls k).queue.filter (fun c => !s.queuedCircuits.contains c) = [] := by
      rw [List.filter_eq_nil_iff]
      intro c hc
      simp [mem_queuedCircuits hc]
    have hflushed : (s.flushQueues r).cls k = { s.cls k with queue := [] } := (hclasses k).trans (by simp only [hempty])
    have hcls : ((s.flushQueues r).modCampaign
        (fun k => { k with state := .draining, endCause := cause, deadline := none })).cls k = (s.flushQueues r).cls k := rfl
    rw [State.drain, cls_zeroCredits, hcls, hflushed]
  · have hdrain : (s.drain r cause).campaign =
        { (s.flushQueues r).campaign with state := .draining, endCause := cause, deadline := none } := rfl
    have hflushed : (s.flushQueues r).campaign = { s.campaign with
      summary := { s.campaign.summary with notTested := (s.flushQueues r).campaign.summary.notTested } } := hcampaign
    rw [hdrain, hflushed]
  · have hlen : s.queuedCount = s.queuedCircuits.length := by
      simp [State.queuedCount, State.queuedCircuits, List.length_flatMap]
    rw [hlen]
    exact hcounts i hi
  · rw [hcircuit, if_pos ((mem_queuedCircuits_iff s c).2 hc)]
  · rw [hcircuit, if_neg (fun h => ?_)]
    obtain ⟨k, hk, hq⟩ := (mem_queuedCircuits_iff s c).1 h
    exact hc k hk hq

section
variable {s b : State} {r : NotTested} {cause : EndCause}

/-- A drained campaign is over where no probe of it is in flight (R127). -/
theorem Drained.over_iff (D : Drained s b r cause) : CampaignOver b b ↔ s.campaign.inFlight = 0 := by
  have hstate : b.campaign.state = .draining := by rw [D.campaign]
  have hflight : b.campaign.inFlight = s.campaign.inFlight := by rw [D.campaign]
  rw [CampaignOver, hflight]
  exact ⟨fun ⟨_, _, h⟩ => h, fun h => ⟨.inr hstate, fun k _ => by rw [D.classes], h⟩⟩

/-- The campaign and the classes behind a drain and its test of the end (R124, R127). -/
theorem Drained.testEnd (D : Drained s b r cause) :
    b.testEnd.campaign.endCause = cause ∧ b.testEnd.campaign.deadline = none ∧
      b.testEnd.campaign.state = (if s.campaign.inFlight = 0 then .idle else .draining) ∧
      b.testEnd.campaign.inFlight = s.campaign.inFlight ∧
      ∀ k, b.testEnd.cls k = { s.cls k with queue := [], credits := 0, timer := 0 } := by
  have hover := D.over_iff
  by_cases h : s.campaign.inFlight = 0
  · rw [testEnd_of_over (hover.2 h), campaign_endCampaign, D.campaign, if_pos h]
    exact ⟨rfl, rfl, rfl, rfl, fun k => by rw [cls_endCampaign, D.classes]⟩
  · rw [testEnd_of_not_over (mt hover.1 h), D.campaign, if_neg h]
    exact ⟨rfl, rfl, rfl, rfl, D.classes⟩

theorem Drained.counts_testEnd (D : Drained s b r cause) : CountsNotTested s b.testEnd r.index s.queuedCount := fun i hi => by
  rw [summary_testEnd]
  exact D.counts i hi

theorem Drained.tx_testEnd (D : Drained s b r cause) : ∃ more, b.testEnd.mli.tx = b.mli.tx ++ more ∧
    (s.campaign.inFlight ≠ 0 → more = []) ∧
    (s.campaign.inFlight = 0 → b.mli.tx.length < 48 → more = [endRecord b.testEnd]) := by
  obtain ⟨hends, hstands⟩ := Machine.tx_testEnd b
  have hover := D.over_iff
  by_cases h : s.campaign.inFlight = 0
  · by_cases hlen : b.mli.tx.length < 48
    · exact ⟨_, hends (hover.2 h) hlen, fun hne => absurd h hne, fun _ _ => rfl⟩
    · obtain ⟨more, hmore⟩ := tx_prefix_testEnd b
      exact ⟨more, hmore.symm, fun hne => absurd h hne, fun _ hlt => absurd hlt hlen⟩
  · exact ⟨[], by rw [hstands (mt hover.1 h), List.append_nil], fun _ => rfl, fun h' => absurd h' h⟩

end

/-! ## CAMPAIGN_ABORT (R125) -/

section
variable {s : State} {tag : Tag} {rest : List Frame}

/-- The reply of CAMPAIGN_ABORT: the entries cancelled and the probes shortened. -/
def State.abortReply (s : State) (tag : Tag) : TxRecord :=
  replyTo 0x35 tag .ok false (be16 (if s.campaign.state = .draining then 0 else s.queuedCount) ++ be8 s.abortCount)

theorem exec_campaignAbort (h : s.Takes 0x35 tag [] rest) :
    (s.campaign.state = .idle →
      exec (.campaignAbort tag []) s = .next (s.answered rest (replyTo 0x35 tag .noCampaign false []))) ∧
    (s.campaign.state ≠ .idle →
      exec (.campaignAbort tag []) s = .next (s.answered rest (s.abortReply tag)).abortQueues.abortProbes) := by
  have hexec : exec (.campaignAbort tag []) s =
      .next (campaignCommand [] ⟨0x35, tag⟩ (campaignAbortBody ⟨0x35, tag⟩) (s.taken rest)) :=
    hostCommand_takes h (fun c => campaignCommand [] c (campaignAbortBody c))
  rw [hexec, campaignCommand, fixedLength_of_eq (n := 0) (p := []) rfl]
  exact ⟨fun hidle => congrArg _ (if_pos hidle), fun hne => congrArg _ (if_neg hne)⟩

/-- What an abort does to the queues leaves alone everything beside the circuits, the classes and the campaign. -/
theorem abortQueues_frame (s : State) : s.abortQueues.engines = s.engines ∧ s.abortQueues.points = s.points ∧
    s.abortQueues.nodes = s.nodes ∧ s.abortQueues.spot = s.spot ∧ s.abortQueues.openLoops = s.openLoops ∧
    s.abortQueues.amc = s.amc := by
  unfold State.abortQueues
  split <;> simp

theorem abortQueues_of_draining (h : s.campaign.state = .draining) :
    s.abortQueues = s.modCampaign (fun k => { k with endCause := .aborted }) := if_pos h

theorem abortQueues_of_active (h : s.campaign.state ≠ .draining) :
    s.abortQueues = (s.drain .cancelled .aborted).testEnd := if_neg h

/-- An abort drains the queues as a cancel does; in DRAINING it sets the cause alone (R125). -/
theorem abortQueues_effect (s : State) :
    s.abortQueues.campaign.endCause = .aborted ∧
    (s.campaign.state ≠ .draining → s.abortQueues.campaign.deadline = none ∧
      s.abortQueues.campaign.state = (if s.campaign.inFlight = 0 then .idle else .draining) ∧
      s.abortQueues.campaign.inFlight = s.campaign.inFlight ∧
      (∀ k, s.abortQueues.cls k = { s.cls k with queue := [], credits := 0, timer := 0 }) ∧
      (∀ c, (∃ k, k < 4 ∧ c ∈ (s.cls k).queue) → s.abortQueues.circuit c = { s.circuit c with status := .idle }) ∧
      (∀ c, (∀ k, k < 4 → c ∉ (s.cls k).queue) → s.abortQueues.circuit c = s.circuit c) ∧
      CountsNotTested s s.abortQueues 3 s.queuedCount) ∧
    ∃ more, s.abortQueues.mli.tx = s.mli.tx ++ more ∧
      (s.campaign.state = .draining ∨ s.campaign.inFlight ≠ 0 → more = []) ∧
      (s.campaign.state ≠ .draining → s.campaign.inFlight = 0 → s.mli.tx.length < 48 → more = [endRecord s.abortQueues]) := by
  by_cases hst : s.campaign.state = .draining
  · rw [abortQueues_of_draining hst]
    exact ⟨rfl, fun h => absurd hst h, [], (List.append_nil _).symm, fun _ => rfl, fun h => absurd hst h⟩
  · have D := drained_drain s .cancelled .aborted
    obtain ⟨hcause, hdeadline, hstate, hflight, hcls⟩ := D.testEnd
    obtain ⟨more, htx, hnone, hends⟩ := D.tx_testEnd
    have hcircuit (c : Nat) := circuit_congr (s := s.drain .cancelled .aborted)
      (t := (s.drain .cancelled .aborted).testEnd) (by simp) c
    have hmli : (s.drain .cancelled .aborted).mli = s.mli := by simp
    rw [hmli] at htx hends
    rw [abortQueues_of_active hst]
    exact ⟨hcause, fun _ => ⟨hdeadline, hstate, hflight, hcls, fun c hc => (hcircuit c).trans (D.queued c hc),
      fun c hc => (hcircuit c).trans (D.others c hc), D.counts_testEnd⟩, more, htx,
      fun h => hnone (h.resolve_left hst), fun _ => hends⟩

end

/-- Settles O31: an abort is a drain with its cause, then each engine in turn. -/
theorem abortShortensTheProbes : Obligations.AbortShortensTheProbes := by
  intro tag rest s htakes
  obtain ⟨hrefused, haborted⟩ := exec_campaignAbort htakes
  refine ⟨hrefused, fun hne => ?_⟩
  let u := s.answered rest (s.abortReply tag)
  let b := u.abortQueues
  obtain ⟨E, hE, hmet⟩ := abortProbes_effect b
  obtain ⟨hcause, hactive, more, htx, hnone, hends⟩ := abortQueues_effect u
  obtain ⟨hengines, hpoints, hnodes, hspot, hopen, hamc⟩ := abortQueues_frame u
  have hmet' (e : Nat) (he : e < 16) : (s.engine e).MeetsAbort ({ b with engines := E }.engine e) :=
    (engine_congr hengines e : b.engine e = s.engine e) ▸ hmet e he
  refine ⟨{ b with engines := E }, (haborted hne).trans (congrArg _ hE), ?_⟩
  refine ⟨hcause, fun hst => ?_, fun hst => ?_, fun e he => ?_, fun e he => ?_, ⟨more, ?_, hnone, fun hst hzero hlen => ?_⟩,
    hpoints, hnodes, hspot, hopen, hamc⟩
  · obtain ⟨hdeadline, hstate, hflight, hcls, hcircuits⟩ := hactive hst
    refine ⟨hdeadline, hstate, hflight, fun k _ => ?_, hcircuits⟩
    have hk : ({ b with engines := E }).cls k = { s.cls k with queue := [], credits := 0, timer := 0 } := hcls k
    rw [hk]
    exact ⟨rfl, rfl, rfl, rfl, rfl⟩
  · have hb : b = u.modCampaign (fun k => { k with endCause := .aborted }) := abortQueues_of_draining hst
    clear_value b
    subst hb
    exact ⟨rfl, rfl, rfl⟩
  · obtain ⟨hshortens, -⟩ := hmet' e he
    exact hshortens
  · obtain ⟨-, hkeeps⟩ := hmet' e he
    exact hkeeps
  · refine htx.trans ?_
    rw [← abortCount_eq]
    exact List.append_assoc _ [_] _
  · rw [hends hst hzero (by simpa [u, State.answered] using hlen)]
    exact congrArg (fun r => [r]) (endRecord_congr rfl rfl)

end Sys2Proof.Machine
end


section
/-! SUPPORT. O60: the arithmetic of the stages and the first case of R87 (R77 to R88, R91). -/

namespace Sys2Proof.Machine

/-! ## Stages 1 and 2 (R78 to R80) -/

section
variable (m : Measured)

theorem saturatedE_eq : saturatedE m = decide (m.errorsE = 4294967295) := rfl

theorem payloadErrors_eq : payloadErrors m =
    if decide (m.errorsE = 4294967295) then 4294967295
    else if m.expectedX - m.hitsH = 0 ∨ m.errorsE - m.hitsH = 0 then m.errorsE - m.hitsH
    else min (m.errorsE - m.hitsH + (m.expectedX - m.hitsH)) 4294967295 := rfl

theorem foreignEcho_iff : foreignEcho m = true ↔
    decide (m.errorsE = 4294967295) = false ∧ 0 < m.expectedX - m.hitsH ∧ m.errorsE - m.hitsH = 0 := by
  simp only [foreignEcho, saturatedE_eq, Bool.and_eq_true, Bool.not_eq_true', decide_eq_true_eq, beq_iff_eq, and_assoc]
  rfl

end

/-! ## Stage 3 (R81, R82) -/

theorem routeFault_eq (dn : Option Nat) (q : GradeLimits) : routeFault dn q =
    (decide (q.windowLow ≤ q.windowHigh) && dn.any (fun d => decide (d < q.windowLow) || decide (q.windowHigh < d))) := by
  cases dn with
  | none => exact (Bool.and_false _).symm
  | some d => rfl

/-- The distance passes a limit when one of the two differences does. -/
theorem decide_lt_distance (t a b : Nat) : decide (t < distance a b) = (decide (t < a - b) || decide (t < b - a)) := by
  rw [← Bool.decide_or]
  refine decide_eq_decide.mpr ?_
  unfold distance
  split <;> omega

/-- The shift test is made in VERIFY mode with both delays present. -/
theorem routeShift_eq (dn : Option Nat) (q : GradeLimits) : routeShift dn q =
    (decide (q.mode = .verify) && dn.any (fun d => q.baseDelay.any (fun b =>
      decide (q.shiftTolerance < d - b) || decide (q.shiftTolerance < b - d)))) := by
  simp only [← decide_lt_distance]
  unfold routeShift
  cases hmode : q.mode with
  | baseline => rfl
  | verify => cases dn with
    | none => rfl
    | some d => cases q.baseDelay with
      | none => rfl
      | some b => rfl

/-! ## Stage 4 (R83, R84) -/

/-- The lowest of the means of the lanes that have samples. -/
theorem meanLevel_eq_min (lanes : List (Int × Nat)) :
    meanLevel lanes = ((lanes.filter (fun lane => decide (0 < lane.2))).map laneMean).min? := by
  induction lanes with
  | nil => rfl
  | cons lane rest ih =>
    by_cases hn : lane.2 = 0
    · simp [meanLevel, hn, ih]
    · rw [meanLevel, if_neg hn, ih, List.filter_cons_of_pos (by simpa using Nat.pos_of_ne_zero hn), List.map_cons,
        List.min?_cons]
      cases ((rest.filter _).map laneMean).min? <;> rfl

/-- The loss is formed in VERIFY mode with both levels present. -/
theorem lossDelta_eq (lm : Option Int) (q : GradeLimits) : lossDelta lm q =
    if q.mode = .verify then q.baseLevel.bind (fun b => lm.map (fun l => b - l)) else none := by
  unfold lossDelta
  cases hmode : q.mode with
  | baseline => rfl
  | verify => cases lm with
    | none => cases q.baseLevel with
      | none => rfl
      | some b => rfl
    | some l => cases q.baseLevel with
      | none => rfl
      | some b => rfl

section
variable (lm : Option Int) (q : GradeLimits)

theorem belowFloor_eq : belowFloor lm q = lm.any (fun l => decide (l < q.minLevel)) := by
  cases lm <;> rfl

theorem lossFault_eq : lossFault lm q = (lm.any (fun l => decide (l < q.minLevel)) ||
    (lossDelta lm q).any (fun d => decide ((q.lossFail : Int) < d))) := by
  unfold lossFault
  rw [belowFloor_eq]
  cases lossDelta lm q <;> rfl

theorem lossRise_eq : lossRise lm q =
    (lossDelta lm q).any (fun d => decide (d ≤ (q.lossFail : Int)) && decide ((q.lossWarn : Int) < d)) := by
  unfold lossRise
  cases lossDelta lm q <;> rfl

theorem levelRise_eq : levelRise lm q = (lossDelta lm q).any (fun d => decide (d < -30)) := by
  unfold levelRise
  cases lossDelta lm q <;> rfl

end

/-! ## Stage 5 (R86, R87) -/

@[simp] theorem getD_worstFault_cons (b : Bool) (g d : Grade) (l : List (Bool × Grade)) :
    (worstFault ((b, g) :: l)).getD d = if b = true then g else (worstFault l).getD d := by
  cases b <;> rfl

/-- A fault takes the place of the cases behind it. -/
theorem chooseGrade_eq_getD (o : List ProbeOutcome) (fault : Option Grade) (ab : Bool) (f : VerdictFlags) (lim : Bool) :
    chooseGrade o fault ab f lim =
      if .blocked ∈ o then .blocked
      else if .stuckLoop ∈ o then .stuckLoop
      else if .released ∈ o then .released
      else fault.getD (if ab = true then .cancelled
        else if (f.routeShift || f.lossRise || f.levelRise) = true then .marginal
        else if lim = true then .limited
        else .pass) := by
  unfold chooseGrade
  simp only [List.contains_iff_mem]
  cases fault <;> rfl

/-- The first case of R87 that applies, its fault the first of R86 in rank order. -/
theorem chooseGrade_firstCase (o : List ProbeOutcome) (foreign route error loss ab : Bool) (f : VerdictFlags) (lim : Bool) :
    chooseGrade o (worstFault (rankedFaults o foreign route error loss)) ab f lim =
      if .blocked ∈ o then .blocked
      else if .stuckLoop ∈ o then .stuckLoop
      else if .released ∈ o then .released
      else if .noLoop ∈ o then .noLoop
      else if .aisReceived ∈ o then .aisReceived
      else if foreign = true then .foreignEcho
      else if .signalDropout ∈ o then .signalDropout
      else if route = true then .routeFault
      else if error = true then .errorFault
      else if loss = true then .lossFault
      else if ab = true then .cancelled
      else if (f.routeShift || f.lossRise || f.levelRise) = true then .marginal
      else if lim = true then .limited
      else .pass := by
  simp only [chooseGrade_eq_getD, rankedFaults, getD_worstFault_cons, List.contains_iff_mem, worstFault, Option.getD_none]

/-! ## The verdict record (R88, R91) -/

section
variable {x : Context} (e : Nat) (m : Measured) (q : GradeLimits)

theorem verdictOf_of_measured (h : x.measured = true) : verdictOf x e m q =
    { grade := gradeMeasured x.outcomes x.aborted m q
      flags := measuredFlags m q (x.outcomes.contains .soakShortened)
      campaignNumber := x.campaignNumber, engine := some e
      loopAttempts := x.loopAttempts, releaseAttempts := x.releaseAttempts
      bitsB := m.bitsB, errorsE := m.errorsE, payloadP := payloadErrors m, hitsH := m.hitsH, expectedX := m.expectedX
      lossesK := m.lossesK, delayDn := delayOf m q, levelLm := meanLevel m.lanes } :=
  if_pos h

theorem verdictOf_of_unmeasured (h : x.measured = false) : verdictOf x e m q =
    { grade := gradeUnmeasured x.outcomes x.aborted, flags := noFlags
      campaignNumber := x.campaignNumber, engine := some e
      loopAttempts := x.loopAttempts, releaseAttempts := x.releaseAttempts
      bitsB := 0, errorsE := 0, payloadP := 0, hitsH := 0, expectedX := 0, lossesK := 0
      delayDn := none, levelLm := none } :=
  if_neg (by simp [h])

theorem verdictOf_attempts : (verdictOf x e m q).loopAttempts = x.loopAttempts ∧
    (verdictOf x e m q).releaseAttempts = x.releaseAttempts := by
  unfold verdictOf; split <;> exact ⟨rfl, rfl⟩

end

/-- Settles O60: each stage by its own equation, the grade by `chooseGrade_firstCase`. -/
theorem gradeIsTheFirstCase : Obligations.GradeIsTheFirstCase := by
  intro x e m q v missed own full payload dn mean lm error berShort windowOn route fall loss shift lossRise levelRise
    marginal limited
  obtain ⟨hnumber, hengine⟩ := verdictOf_frame x e m q
  obtain ⟨hloop, hrelease⟩ := verdictOf_attempts (x := x) e m q
  refine ⟨hnumber, hengine, hloop, hrelease, fun hm => ?_, fun hm => ?_⟩
  · have hv : v = _ := verdictOf_of_measured e m q hm
    have hlm : meanLevel m.lanes = lm := meanLevel_eq_min m.lanes
    have hdelta : lossDelta lm q = fall := lossDelta_eq lm q
    have hflags : measuredFlags m q (x.outcomes.contains .soakShortened) =
        ⟨decide (0 < missed) && (full || decide (0 < own)), berShort, shift, dn.isNone, lossRise, levelRise, lm.isNone,
          decide (.soakShortened ∈ x.outcomes), false⟩ := by
      have hshift : routeShift (delayOf m q) q = shift := routeShift_eq dn q
      have hlossRise : Machine.lossRise lm q = lossRise := (lossRise_eq lm q).trans (by rw [hdelta])
      have hlevelRise : Machine.levelRise lm q = levelRise := (levelRise_eq lm q).trans (by rw [hdelta])
      simp only [measuredFlags, hlm, hshift, hlossRise, hlevelRise, List.contains_eq_mem]
      rfl
    have hroute : routeFault (delayOf m q) q = route := routeFault_eq dn q
    have herror : errorFault m q.exponent = error := rfl
    have hloss : lossFault lm q = loss := (lossFault_eq lm q).trans (by rw [hdelta])
    have hgrade : gradeMeasured x.outcomes x.aborted m q = _ := chooseGrade_firstCase _ _ _ _ _ _ _ _
    simp only [hlm, foreignEcho_iff, hroute, herror, hloss, hflags] at hgrade
    rw [hv]
    exact ⟨rfl, rfl, payloadErrors_eq m, rfl, rfl, rfl, rfl, hlm, hflags, hgrade⟩
  · have hv : v = _ := verdictOf_of_unmeasured e m q hm
    rw [hv]
    exact ⟨rfl, rfl, rfl, rfl, rfl, rfl, rfl, rfl, rfl, chooseGrade_firstCase x.outcomes _ _ _ _ _ _ _⟩

end Sys2Proof.Machine
end


section
/-! SUPPORT. POINT_REPORT, POINT_SET and NODE_SET (R95 to R97, R100). -/

namespace Sys2Proof.Machine

/-! ## POINT_REPORT (R97) -/

theorem points_toList (s : State) : s.points.toList = (List.range 256).map s.point := by
  refine List.ext_getElem (by simp) (fun p h _ => ?_)
  have hp : p < 256 := by simpa using h
  simp [State.point, hp]

theorem pointBlock_eq (x : Point) :
    x.block = [if x.service = .inService then 0x00#8 else 0x01#8, BitVec.ofNat 8 (x.owner.getD 0xFF)] := by
  have hservice : BitVec.ofNat 8 x.service.byte = if x.service = .inService then 0x00#8 else 0x01#8 := by
    cases x.service <;> rfl
  rw [← hservice]
  rfl

theorem pointReport_eq (s : State) : s.pointReport = (List.range 256).flatMap (fun p =>
    [if (s.point p).service = .inService then 0x00#8 else 0x01#8, BitVec.ofNat 8 ((s.point p).owner.getD 0xFF)]) := by
  rw [State.pointReport, points_toList, List.flatMap_map]
  exact List.flatMap_congr (fun p _ => pointBlock_eq (s.point p))

theorem fixedLength_of_ne {n : Nat} {p : List Byte} (h : p.length ≠ n) (c : Cmd) (body : State → State) (s : State) :
    fixedLength n p c body s = s.refuse c .badLength := if_neg h

/-- Settles O11: the report entry by entry, and the refusal of a payload that is not empty. -/
theorem pointReportReadsThePoints : Obligations.PointReportReadsThePoints := by
  refine fun tag rest s => ⟨fun ht => reportCommand_spec ht (pointReport_eq (s.taken rest)), fun payload hne ht => ?_⟩
  refine (hostCommand_takes ht (fun c => fixedLength 0 payload c (fun t => t.reply c .ok t.pointReport false))).trans ?_
  rw [fixedLength_of_ne (fun h => hne (List.eq_nil_of_length_eq_zero h)), State.refuse, taken_reply]

/-! ## POINT_SET (R95, R96) -/

/-- A state byte that names a service state is written behind the reply with the lock's owner. -/
theorem exec_pointSet {s : State} {tag : Tag} {p v : Byte} {rest : List Frame} (ht : s.Takes 0x40 tag [p, v] rest) :
    (∀ x, serviceOf v.toNat = some x → exec (.pointSet tag [p, v]) s = .next
      ((s.answered rest (replyTo 0x40 tag .ok false [BitVec.ofNat 8 ((s.point p.toNat).owner.getD 0xFF)])).setService
        p.toNat x)) ∧
    (serviceOf v.toNat = none →
      exec (.pointSet tag [p, v]) s = .next (s.answered rest (replyTo 0x40 tag .badField false []))) := by
  have hexec : exec (.pointSet tag [p, v]) s = .next (pointSetBody [p, v] ⟨0x40, tag⟩ (s.taken rest)) :=
    hostCommand_takes ht (fun c => fixedLength 2 [p, v] c (pointSetBody [p, v] c))
  have hv : rd8 [p, v] 1 = v.toNat := rfl
  rw [hexec, pointSetBody, hv]
  exact ⟨fun x hx => by rw [hx]; rfl, fun hx => by rw [hx]; rfl⟩

theorem serviceOf_eq_none {n : Nat} (h0 : n ≠ 0) (h1 : n ≠ 1) : serviceOf n = none := by
  match n with
  | 0 => exact absurd rfl h0
  | 1 => exact absurd rfl h1
  | _ + 2 => rfl

/-- A return to IN_SERVICE alone starts a run (R95). -/
theorem setService_inService (s : State) (p : Nat) : s.setService p .inService =
    { s.setPoint p { s.point p with service := .inService } with
      runDue := s.runDue || decide ((s.point p).service = .outOfService) } := by
  unfold State.setService State.startRunIf
  cases (s.point p).service with
  | inService => rw [show decide (Service.inService = .outOfService) = false from rfl, Bool.or_false]; rfl
  | outOfService => rw [show decide (Service.outOfService = .outOfService) = true from rfl, Bool.or_true]; rfl

theorem setService_outOfService (s : State) (p : Nat) :
    s.setService p .outOfService = s.setPoint p { s.point p with service := .outOfService } := by
  simp [State.setService, State.startRunIf]

/-- Settles O35, value by value of the state byte. -/
theorem pointSetWritesTheServiceState : Obligations.PointSetWritesTheServiceState := by
  intro tag p v rest s ht x reply
  obtain ⟨hset, hrefused⟩ := exec_pointSet ht
  refine ⟨?_, ?_, fun h0 h1 => hrefused (serviceOf_eq_none ?_ ?_)⟩
  · rintro rfl
    exact (hset .inService rfl).trans (congrArg _ (setService_inService _ _))
  · rintro rfl
    exact (hset .outOfService rfl).trans (congrArg _ (setService_outOfService _ _))
  · exact fun h => h0 (BitVec.eq_of_toNat_eq h)
  · exact fun h => h1 (BitVec.eq_of_toNat_eq h)

/-! ## NODE_SET (R100) -/

theorem thresholdOk_iff (n : Nat) : thresholdOk n = true ↔ n ∈ [1, 2, 4, 8, 16] := by
  simp [thresholdOk, or_assoc]

/-- Settles O36: the three checks of R100 pass together, or the command is refused. -/
theorem nodeSetWritesThreeFields : Obligations.NodeSetWritesThreeFields := by
  intro tag p rest s ht hlen n limit sound
  have hexec : exec (.nodeSet tag p) s = .next (nodeSetBody p ⟨0x42, tag⟩ (s.taken rest)) :=
    (hostCommand_takes ht (fun c => fixedLength 4 p c (nodeSetBody p c))).trans
      (congrArg _ (fixedLength_of_eq hlen _ _ _))
  have hfault : (63 < rd8 p 0 ∨ (!thresholdOk (rd8 p 2)) = true ∨ 1 < rd8 p 3) ↔ ¬sound := by
    simp only [sound, n, Bool.not_eq_true', ← Bool.not_eq_true, thresholdOk_iff, ← not_le, ← not_and_or]
  rw [hexec, nodeSetBody]
  exact ⟨fun h => congrArg _ (if_neg (fun hf => hfault.1 hf h)), fun h => congrArg _ (if_pos (hfault.2 h))⟩

end Sys2Proof.Machine
end


section
/-! SUPPORT. O52: the arbiter's choice of an engine, and a run that empties the spot queue of an entry that O52 says stays
(R103, R105, R108, R109; log 29). -/

namespace Sys2Proof.Machine

/-! ## What can be launched, and on which engine (R103, R108) -/

section
variable {s : State}

theorem chooseEngine_of_chooses {e : Nat} {r : RateClass} (h : Chooses s e r) : s.chooseEngine r = some e := by
  cases r with
  | base =>
    obtain ⟨he, ⟨hlone, hfirst⟩ | ⟨hnone, hidle, hfirst⟩⟩ := h
    · have hfind : (List.range 16).find? (fun j => s.idleEngine j && !s.idleEngine (partner j)) = some e := by
        simpa [List.find?_range_eq_some, State.idleEngine, he, hlone, imp_iff_not_or] using hfirst
      simp only [State.chooseEngine, State.chooseBase, hfind]
    · have hfind : (List.range 16).find? (fun j => s.idleEngine j && !s.idleEngine (partner j)) = none := by
        simpa [List.find?_eq_none, State.idleEngine] using hnone
      simp only [State.chooseEngine, State.chooseBase, hfind]
      simpa [List.find?_range_eq_some, State.idleEngine, he, hidle] using hfirst
  | wide =>
    obtain ⟨he, heven, hidle, hnext, hfirst⟩ := h
    have hhalf : 2 * (e / 2) = e := by omega
    have hfind : (List.range 8).find? s.pairIdle = some (e / 2) := by
      simp only [List.find?_range_eq_some, State.pairIdle, State.idleEngine, hhalf, hidle, hnext, List.mem_range]
      refine ⟨by decide, by omega, fun j hj => ?_⟩
      simpa [imp_iff_not_or] using hfirst (2 * j) (by omega) (by omega)
    rw [State.chooseEngine, State.chooseWide, hfind, Option.map_some, hhalf]

theorem circuitMayLaunch_of_mayLaunch {c : Nat} (h : MayLaunch s c) : s.circuitMayLaunch c = true := by
  obtain ⟨hlink, hpoint, hactive, htime, hroom, hflight⟩ := h
  have hflight : s.flightRoom = true := decide_eq_true hflight
  simp [State.circuitMayLaunch, State.pointFree, State.nodeOpen, State.nodeHasRoom, hlink, hpoint, hactive, htime, hroom, hflight]

theorem circuitEngine_of_mayLaunch {c e : Nat} (h : MayLaunch s c) (he : Chooses s e (s.circuit c).definition.rate) :
    s.circuitEngine c = some e :=
  (if_pos (circuitMayLaunch_of_mayLaunch h)).trans (chooseEngine_of_chooses he)

/-- An engine number above 15 reads the entry of a cold reset, which is IDLE (log 29). -/
theorem calibrationEngine_outside {e : Nat} (he : 16 ≤ e) (hlink : s.amc.link = .synced) : s.calibrationEngine e = some e := by
  have hidle : s.idleEngine e = true := by simp [State.idleEngine, State.engine, he, Engine.reset]
  simp [State.calibrationEngine, hlink, hidle]

/-! ## The spot queue in a run (R105) -/

theorem serveSpot_of_launch {x : SpotEntry} {rest : List SpotEntry} {e : Nat} (fuel : Nat) (hs : s.spot = x :: rest)
    (hin : (s.spotPoint x).any s.pointOut = false) (he : s.spotEngine x = some e) :
    State.serveSpot (fuel + 1) s = State.serveSpot fuel (s.launchSpot x e) := by
  simp [State.serveSpot, State.scanSpot, hs, hin, he]

theorem serveSpot_of_empty (fuel : Nat) (hs : s.spot = []) : State.serveSpot fuel s = s := by
  cases fuel with
  | zero => rfl
  | succ fuel => simp [State.serveSpot, State.scanSpot, hs]

theorem serveBank_of_not_running (fuel a b : Nat) (h : s.campaign.state ≠ .running) : State.serveBank fuel a b s = s := by
  have hturn (k : Nat) : s.classTurn k = (false, s) := by simp [State.classTurn, State.examinable, h]
  cases fuel with
  | zero => rfl
  | succ fuel => cases fuel <;> simp [State.serveBank, State.serveAlone, hturn]

/-- While no campaign runs, a run serves the spot queue alone. -/
theorem runArbiter_of_not_running
    (h : (State.serveSpot runFuel { s with runDue := false }).campaign.state ≠ .running) :
    s.runArbiter = State.serveSpot runFuel { s with runDue := false } := by
  simp [State.runArbiter, State.servePriority, State.serveStandard, serveBank_of_not_running _ _ _ h]

end

/-! ## An entry pinned to no engine -/

@[simp] theorem seat_campaign (s : State) (e : Nat) (st : EngineState) (x : Context) :
    (s.seat e st x).campaign = s.campaign := by
  unfold State.seat
  dsimp only
  split <;> simp

theorem link_issue (s : State) {r : Request} (h : r.op ≠ .resetAll) : (s.issue r).amc.link = s.amc.link := by
  unfold State.issue State.pump
  split <;> simp_all

/-- The launch of a spot probe takes its entry and leaves link and campaign. -/
theorem launchSpot_probe_frame (s : State) (c e : Nat) (slot : Option Nat) :
    (s.launchSpot (.probe c slot) e).spot = s.spot.erase (.probe c slot) ∧
      (s.launchSpot (.probe c slot) e).campaign = s.campaign ∧ (s.launchSpot (.probe c slot) e).amc.link = s.amc.link := by
  simp [State.launchSpot, State.launchProbe, State.takeLock, State.claimSlot, State.leaveSpot, link_issue]

theorem launchSpot_calibration_frame (s : State) (e d i : Nat) :
    (s.launchSpot (.calibration d i) e).spot = s.spot.erase (.calibration d i) ∧
      (s.launchSpot (.calibration d i) e).campaign = s.campaign := by
  simp [State.launchSpot, State.leaveSpot]

/-- Behind a probe that is launched, a calibration entry pinned above the table is launched in the same run. -/
theorem spot_runArbiter_of_strayPin {s : State} {c e d i : Nat} {slot : Option Nat} (hst : s.campaign.state ≠ .running)
    (hspot : s.spot = [.probe c slot, .calibration d i]) (hd : 16 ≤ d) (hm : MayLaunch s c)
    (hch : Chooses s e (s.circuit c).definition.rate) : s.runArbiter.spot = [] := by
  let u : State := { s with runDue := false }
  let v := u.launchSpot (.probe c slot) e
  let w := v.launchSpot (.calibration d i) d
  obtain ⟨hvspot, hvcamp, hvlink⟩ := launchSpot_probe_frame u c e slot
  obtain ⟨hwspot, hwcamp⟩ := launchSpot_calibration_frame v d d i
  obtain ⟨hlink, hpoint, -⟩ := id hm
  have hv : v.spot = [.calibration d i] := hvspot.trans (by rw [hspot, List.erase_cons_head])
  have hw : w.spot = [] := hwspot.trans (by rw [hv, List.erase_cons_head])
  have hin : u.pointOut (u.circuit c).definition.accessPoint = false := congrArg (fun x => x.service == .outOfService) hpoint
  have hfirst : State.serveSpot runFuel u = State.serveSpot 19 v :=
    serveSpot_of_launch 19 hspot hin (circuitEngine_of_mayLaunch (s := u) hm hch)
  have hsecond : State.serveSpot 19 v = State.serveSpot 18 w :=
    serveSpot_of_launch 18 hv rfl (calibrationEngine_outside hd (hvlink.trans hlink))
  have hserved : State.serveSpot runFuel u = w := by rw [hfirst, hsecond, serveSpot_of_empty 18 hw]
  have hcamp : w.campaign = s.campaign := hwcamp.trans hvcamp
  rw [runArbiter_of_not_running (by rw [hserved, hcamp]; exact hst), hserved, hw]

/-- A state in which engine 0 alone is IDLE, and behind a spot probe of circuit 0 waits a calibration entry pinned to an engine 16.
No run of the part reaches it: `PinsAccounted` excludes the entry. -/
def State.strayPin : State :=
  { State.reset with
    engines := Vector.ofFn (fun e : Fin 16 => if e.val = 0 then Engine.reset else Engine.reset.resting .offline)
    amc := { Amc.reset with link := .synced }
    spot := [.probe 0 none, .calibration 16 0]
    runDue := true }

theorem state_engine_strayPin {e : Nat} (he : e < 16) :
    (State.strayPin.engine e).state = if e = 0 then .idle else .offline := by
  simp only [State.engine, State.strayPin, Vector.getElem?_ofFn, he, dite_true, Option.getD_some]
  split <;> rfl

theorem point_strayPin (p : Nat) : State.strayPin.point p = ⟨.inService, none⟩ := point_coldFrom false false State.reset p

theorem circuit_strayPin (c : Nat) : State.strayPin.circuit c = Circuit.vacant := circuit_coldFrom false false State.reset c

theorem mayLaunch_strayPin : MayLaunch State.strayPin 0 := by
  have hnode : State.strayPin.node 0 = Node.reset := node_coldFrom false false State.reset 0 (by decide)
  have hflight : State.strayPin.engines.toList.countP (fun g => g.state.inFlight) = 0 := by
    rw [engines_toList, List.countP_eq_zero]
    simp only [List.mem_map, List.mem_range, forall_exists_index, and_imp, forall_apply_eq_imp_iff₂]
    intro e he
    rw [state_engine_strayPin he]
    split <;> decide
  rw [MayLaunch, circuit_strayPin, hflight]
  refine ⟨rfl, point_strayPin _, ?_⟩
  change (State.strayPin.node 0).state = .active ∧ (State.strayPin.node 0).nextEligible ≤ 0 ∧
    (State.strayPin.node 0).occupancy < (State.strayPin.node 0).limit ∧ _
  rw [hnode]
  decide

theorem lastIdle_strayPin : LastIdle State.strayPin 0 .base := by
  intro d hd hne _
  rw [state_engine_strayPin hd, if_neg hne]
  decide

theorem chooses_strayPin : Chooses State.strayPin 0 .base :=
  ⟨by decide, .inl ⟨⟨by rw [state_engine_strayPin (by decide), if_pos rfl],
    lastIdle_strayPin 1 (by decide) (by decide) (.inl rfl)⟩, fun _ h => absurd h (Nat.not_lt_zero _)⟩⟩

/-- Refutes O52: the case of a probe behind entries that stay does not ask that a calibration entry behind the probe be pinned to
an engine of the table. In `State.strayPin` the probe takes the last IDLE engine; the entry behind it names engine 16, which the
model reads as IDLE (log 29), so it is launched in the same run, where O52 leaves it in the queue. -/
theorem not_runLaunchesASpotProbe : ¬ Obligations.RunLaunchesASpotProbe := by
  intro h
  obtain ⟨hrun, -⟩ := h
  obtain ⟨-, -, -, hbehind, -⟩ := hrun State.strayPin rfl
  have hrate : (State.strayPin.circuit 0).definition.rate = .base := by rw [circuit_strayPin]; rfl
  obtain ⟨t, ht, hstays, -⟩ := hbehind 0 0 none [] [.calibration 16 0] rfl (by decide) (fun _ hy => absurd hy List.not_mem_nil)
    (fun p _ => by rw [point_strayPin]) (by rw [circuit_strayPin]; decide) (by rw [circuit_strayPin]; decide)
    mayLaunch_strayPin (by rw [hrate]; exact chooses_strayPin) (by rw [hrate]; exact lastIdle_strayPin)
  have htaken : exec .arbiterRun State.strayPin = .next State.strayPin.runArbiter := event_true _ _ _ rfl
  obtain rfl : State.strayPin.runArbiter = t := Host.Outcome.next.inj (htaken.symm.trans ht)
  have hleaves : State.strayPin.runArbiter.spot = [] :=
    spot_runArbiter_of_strayPin (by decide) rfl le_rfl mayLaunch_strayPin (by rw [hrate]; exact chooses_strayPin)
  rw [hleaves] at hstays
  exact absurd hstays (by decide)

end Sys2Proof.Machine
end


section
/-! SUPPORT. No class leaves its ranges, and the spot queue does not pass its bound (R119, R120, R131). -/

namespace Sys2Proof.Machine

/-- From `s` to `t` the classes stay in their ranges and the spot queue stays within its bound. -/
structure State.KeepsBounds (s t : State) : Prop where
  classes : ClassesInRange s → ClassesInRange t
  spot : SpotInRange s → SpotInRange t

theorem State.KeepsBounds.refl (s : State) : s.KeepsBounds s := ⟨id, id⟩

theorem State.KeepsBounds.trans {s t u : State} (a : s.KeepsBounds t) (b : t.KeepsBounds u) : s.KeepsBounds u :=
  ⟨b.classes ∘ a.classes, b.spot ∘ a.spot⟩

/-! ## What the classes become -/

theorem classesInRange_congr {s t : State} (h : t.classes = s.classes) : ClassesInRange s → ClassesInRange t :=
  fun hs k hk => by rw [cls_congr h]; exact hs k hk

theorem spotInRange_congr {s t : State} (h : t.spot = s.spot) : SpotInRange s → SpotInRange t :=
  fun hs => by rw [SpotInRange, h]; exact hs

/-- Neither the classes nor the spot queue change. -/
theorem keepsBounds_of_frame {s t : State} (hc : t.classes = s.classes) (hs : t.spot = s.spot) : s.KeepsBounds t :=
  ⟨classesInRange_congr hc, spotInRange_congr hs⟩

theorem State.KeepsBounds.then_frame {s t u : State} (a : s.KeepsBounds t) (hc : u.classes = t.classes)
    (hs : u.spot = t.spot) : s.KeepsBounds u := a.trans (keepsBounds_of_frame hc hs)

/-- A step of `t`, read from a state of the same classes and spot queue. -/
theorem State.KeepsBounds.after_frame {s t u : State} (b : t.KeepsBounds u) (hc : t.classes = s.classes)
    (hs : t.spot = s.spot) : s.KeepsBounds u := (keepsBounds_of_frame hc hs).trans b

theorem keepsBounds_startRun (s : State) : s.KeepsBounds s.startRun := keepsBounds_of_frame rfl rfl

theorem keepsBounds_modCampaign (s : State) (f : Campaign → Campaign) : s.KeepsBounds (s.modCampaign f) :=
  keepsBounds_of_frame rfl rfl

theorem keepsBounds_offer (s : State) (code : Byte) (p : List Byte) : s.KeepsBounds (s.offer code p) :=
  keepsBounds_of_frame (by simp) (by simp)

theorem keepsBounds_takeSlot (s : State) (i : Nat) (c : Cmd) (op : DeferredOp) : s.KeepsBounds (s.takeSlot i c op) :=
  keepsBounds_of_frame rfl rfl

/-- One class is rewritten. -/
theorem keepsBounds_setCls (s : State) (k : Nat) (x : PacingClass) (hx : (s.cls k).inRange → x.inRange) :
    s.KeepsBounds (s.setCls k x) where
  classes hs j hj := by
    rw [cls_setCls]
    split
    · obtain ⟨rfl, -⟩ := ‹k = j ∧ k < 4›
      exact hx (hs k hj)
    · exact hs j hj
  spot := id

/-- Every class is rewritten by one rule. -/
theorem classesInRange_map {s t : State} (f : PacingClass → PacingClass) (ht : t.classes = s.classes.map f)
    (hf : ∀ k, k.inRange → (f k).inRange) : ClassesInRange s → ClassesInRange t := by
  intro hs k hk
  have hcls : t.cls k = f (s.cls k) := by simp [State.cls, ht, hk]
  rw [hcls]
  exact hf _ (hs k hk)

/-- Credits and timer fall, interval and quota stand. -/
theorem inRange_of_le {k x : PacingClass} (h : k.inRange) (hi : x.interval = k.interval)
    (hq : x.quota = k.quota) (hc : x.credits ≤ k.credits) (ht : x.timer ≤ k.timer) : x.inRange := by
  obtain ⟨h1, h2, h3, h4, h5, h6⟩ := h
  exact ⟨hi ▸ h1, hi ▸ h2, hq ▸ h3, hq ▸ h4, by omega, by omega⟩

/-! ## Entries of the queues -/

theorem keepsBounds_dequeue (s : State) (c : Nat) : s.KeepsBounds (s.dequeue c) :=
  ⟨classesInRange_map _ rfl (fun _ h => h), spotInRange_congr rfl⟩

theorem keepsBounds_enqueue (s : State) (k c : Nat) : s.KeepsBounds (s.enqueue k c) :=
  keepsBounds_setCls s k _ id

theorem keepsBounds_leaveSpot (s : State) (x : SpotEntry) : s.KeepsBounds (s.leaveSpot x) :=
  ⟨classesInRange_congr rfl, fun h => (List.length_erase_le).trans h⟩

/-- An entry joins a spot queue that has room (R131). -/
theorem keepsBounds_joinSpot {s : State} (x : SpotEntry) (h : s.spot.length < 8) : s.KeepsBounds (s.joinSpot x) :=
  ⟨classesInRange_congr (by simp), fun _ => by
    change (s.spot ++ [x]).length ≤ 8
    rw [List.length_append, List.length_singleton]; omega⟩

theorem keepsBounds_zeroCredits (s : State) : s.KeepsBounds s.zeroCredits :=
  ⟨classesInRange_map _ rfl (fun _ h => inRange_of_le h rfl rfl (Nat.zero_le _) (Nat.zero_le _)), spotInRange_congr rfl⟩

theorem keepsBounds_foldl {β : Type} (f : State → β → State) (h : ∀ (s : State) b, s.KeepsBounds (f s b)) (l : List β)
    (s : State) :
    s.KeepsBounds (l.foldl f s) :=
  foldl_inv f (fun t => s.KeepsBounds t) (fun t b ht => ht.trans (h t b)) l s (.refl s)

/-! ## The campaign's end and the entries withdrawn (R118, R124, R127) -/

theorem keepsBounds_removeQueued (s : State) (r : NotTested) (c : Nat) : s.KeepsBounds (s.removeQueued r c) :=
  (keepsBounds_dequeue s c).trans (keepsBounds_of_frame rfl rfl)

theorem keepsBounds_endCampaign (s : State) : s.KeepsBounds s.endCampaign :=
  (keepsBounds_zeroCredits s).then_frame (by simp [State.endCampaign, State.zeroCredits]) (by simp)

theorem keepsBounds_testEnd (s : State) : s.KeepsBounds s.testEnd := by
  unfold State.testEnd
  split
  · exact keepsBounds_endCampaign s
  · exact .refl s

theorem keepsBounds_testEndIf (s : State) (b : Bool) : s.KeepsBounds (s.testEndIf b) := by
  unfold State.testEndIf
  split
  · exact keepsBounds_testEnd s
  · exact .refl s

theorem keepsBounds_withdraw (s : State) (r : NotTested) (c : Nat) : s.KeepsBounds (s.withdraw r c) :=
  (keepsBounds_removeQueued s r c).trans (keepsBounds_testEnd _)

theorem keepsBounds_removals (r : NotTested) (l : List Nat) (s : State) :
    s.KeepsBounds (l.foldl (fun u c => u.removeQueued r c) s) :=
  keepsBounds_foldl _ (fun u c => keepsBounds_removeQueued u r c) l s

theorem keepsBounds_drain (s : State) (r : NotTested) (cause : EndCause) : s.KeepsBounds (s.drain r cause) :=
  (keepsBounds_removals r s.queuedCircuits s).trans ((keepsBounds_zeroCredits _).then_frame rfl rfl)

/-! ## Spot entries removed, holds, engines that go OFFLINE (R28, R133, R140) -/

theorem keepsBounds_removeSpot (s : State) (st : Status) (x : SpotEntry) : s.KeepsBounds (s.removeSpot st x) := by
  cases x with
  | probe c slot =>
    cases slot with
    | none => exact (keepsBounds_leaveSpot s (.probe c none)).then_frame (by simp [State.removeSpot]) (by simp [State.removeSpot])
    | some i =>
      exact (keepsBounds_leaveSpot s (.probe c (some i))).then_frame (by simp [State.removeSpot]) (by simp [State.removeSpot])
  | releaseOnly c =>
    exact (keepsBounds_leaveSpot s (.releaseOnly c)).then_frame (by simp [State.removeSpot]) (by simp [State.removeSpot])
  | calibration e i => exact .refl s

theorem keepsBounds_holdNode (s : State) (n : Nat) (cause : HoldCause) : s.KeepsBounds (s.holdNode n cause) := by
  have hheld (l : List Nat) (m : List SpotEntry) (u : State) (p : List Byte) : u.KeepsBounds
      ((m.foldl (fun u x => u.removeSpot .nodeHeld x) (l.foldl (fun u c => u.removeQueued .held c) u)).offer
        noticeNodeHold p) :=
    ((keepsBounds_removals .held l u).trans
      (keepsBounds_foldl _ (fun u x => keepsBounds_removeSpot u .nodeHeld x) m _)).then_frame
      (by simp) (by simp)
  have hset : s.KeepsBounds (s.setNode n { s.node n with state := .held }) := keepsBounds_of_frame rfl rfl
  unfold State.holdNode
  dsimp only
  split
  · exact hset.trans (hheld _ _ _ _)
  · exact (hset.trans (hheld _ _ _ _)).trans (keepsBounds_testEnd _)

theorem keepsBounds_reportNoLoop (s : State) (n : Nat) : s.KeepsBounds (s.reportNoLoop n) := by
  have hset : s.KeepsBounds (s.setNode n ((s.node n).noLoop s.now)) := keepsBounds_of_frame rfl rfl
  unfold State.reportNoLoop
  dsimp only
  split
  · exact hset.trans (keepsBounds_holdNode _ n .auto)
  · exact hset

theorem keepsBounds_removeCalibration (s : State) (x : SpotEntry) : s.KeepsBounds (s.removeCalibration x) := by
  cases x with
  | calibration e i =>
    exact (keepsBounds_leaveSpot s (.calibration e i)).then_frame (by simp [State.removeCalibration])
      (by simp [State.removeCalibration])
  | probe c slot => exact .refl s
  | releaseOnly c => exact .refl s

theorem keepsBounds_goOffline (s : State) (e : Nat) : s.KeepsBounds (s.goOffline e) :=
  (keepsBounds_foldl _ keepsBounds_removeCalibration _
    (s.setEngine e { (s.engine e).resting .offline with disablePending := false })).after_frame rfl rfl

theorem keepsBounds_goIdle (s : State) (e : Nat) : s.KeepsBounds (s.goIdle e) := keepsBounds_of_frame rfl rfl

theorem keepsBounds_engineLeaves (s : State) (e : Nat) : s.KeepsBounds (s.engineLeaves e) := by
  unfold State.engineLeaves
  split
  · exact keepsBounds_goOffline s e
  · exact keepsBounds_goIdle s e

theorem keepsBounds_pairLeaves (s : State) (e : Nat) : s.KeepsBounds (s.pairLeaves e) := by
  unfold State.pairLeaves
  split
  · exact (keepsBounds_engineLeaves s e).trans (keepsBounds_engineLeaves _ _)
  · exact keepsBounds_engineLeaves s e

/-! ## The end of a probe (R62, R64, R68, R148) -/

theorem keepsBounds_startDisconnect (s : State) (e : Nat) : s.KeepsBounds (s.startDisconnect e) :=
  keepsBounds_of_frame (by simp) (by simp)

theorem keepsBounds_writeOutcome (s : State) (e : Nat) (o : ProbeOutcome) : s.KeepsBounds (s.writeOutcome e o) :=
  keepsBounds_of_frame (by simp) (by simp)

theorem keepsBounds_releaseEnd (s : State) (e : Nat) : s.KeepsBounds (s.releaseEnd e) := by
  unfold State.releaseEnd
  split
  · exact .refl s
  · refine State.KeepsBounds.trans (.trans ?_ (keepsBounds_testEndIf _ _)) (keepsBounds_startDisconnect _ e)
    exact keepsBounds_of_frame (by simp) (by simp)

theorem keepsBounds_stuckEnd (s : State) (e : Nat) : s.KeepsBounds (s.stuckEnd e) := by
  unfold State.stuckEnd
  split
  · exact .refl s
  · refine State.KeepsBounds.trans (.trans ?_ (keepsBounds_testEndIf _ _)) (keepsBounds_startDisconnect _ e)
    exact keepsBounds_of_frame (by simp) (by simp)

theorem keepsBounds_releaseProven (s : State) (e : Nat) : s.KeepsBounds (s.releaseProven e) := by
  unfold State.releaseProven
  split
  · exact (keepsBounds_writeOutcome s e _).trans (keepsBounds_releaseEnd _ e)
  · exact keepsBounds_releaseEnd s e

theorem keepsBounds_startRelease (s : State) (e : Nat) : s.KeepsBounds (s.startRelease e) :=
  keepsBounds_of_frame (by simp) (by simp)

theorem keepsBounds_startCourtesy (s : State) (e : Nat) : s.KeepsBounds (s.startCourtesy e) :=
  keepsBounds_of_frame (by simp) (by simp)

theorem keepsBounds_startLoopUp (s : State) (e : Nat) : s.KeepsBounds (s.startLoopUp e) :=
  keepsBounds_of_frame (by simp) (by simp)

theorem keepsBounds_releaseAttemptFailed (s : State) (e : Nat) : s.KeepsBounds (s.releaseAttemptFailed e) := by
  unfold State.releaseAttemptFailed
  split
  · exact .refl s
  · split
    · exact keepsBounds_startRelease s e
    · exact keepsBounds_stuckEnd s e

/-! ## Completions of matrix requests (R159 to R166) -/

theorem keepsBounds_answer (s : State) (i : Nat) (st : Status) (b : Bool) (p : List Byte) :
    s.KeepsBounds (s.answer i st b p) := keepsBounds_of_frame (by simp) (by simp)

theorem keepsBounds_connectFails (s : State) (e : Nat) (x : Context) : s.KeepsBounds (s.connectFails e x) :=
  .trans (keepsBounds_of_frame (by simp) (by simp)) (keepsBounds_testEndIf _ _)

theorem keepsBounds_connectCompleted (s : State) (e : Nat) (x : Context) (k : Completion) :
    s.KeepsBounds (s.connectCompleted e x k) := by
  cases k with
  | done => exact keepsBounds_of_frame rfl rfl
  | refused r =>
    have hpoint : s.KeepsBounds (s.pointRefused (x.accessPoint.getD 0)) := keepsBounds_of_frame (by simp) (by simp)
    exact (hpoint.trans (keepsBounds_connectFails _ e x)).trans (keepsBounds_pairLeaves _ e)
  | timeout => exact (keepsBounds_connectFails s e x).trans (keepsBounds_startDisconnect _ e)

theorem keepsBounds_answerCalibrationOf (s : State) (e : Nat) (x : Context) (st : EngineState) :
    s.KeepsBounds (s.answerCalibrationOf e x st) := by
  unfold State.answerCalibrationOf
  split
  · exact keepsBounds_answer s _ _ _ _
  · exact .refl s

theorem keepsBounds_loopPortCompleted (s : State) (e : Nat) (x : Context) (k : Completion) :
    s.KeepsBounds (s.loopPortCompleted e x k) := by
  cases k with
  | done => exact keepsBounds_of_frame rfl rfl
  | refused r => exact (keepsBounds_answerCalibrationOf s e x _).trans (keepsBounds_engineLeaves _ e)
  | timeout => exact keepsBounds_startDisconnect s e

theorem keepsBounds_disconnected (s : State) (e : Nat) (x : Context) : s.KeepsBounds (s.disconnected e x) := by
  unfold State.disconnected
  split
  · exact (keepsBounds_answerCalibrationOf s e x _).trans (keepsBounds_engineLeaves _ e)
  · exact .trans (keepsBounds_of_frame (by simp) (by simp)) (keepsBounds_pairLeaves _ e)

theorem keepsBounds_disconnectFails (s : State) (e : Nat) (x : Context) (k : Completion) :
    s.KeepsBounds (s.disconnectFails e x k) := by
  have hoffer (w : Bool) (p : List Byte) :
      s.KeepsBounds ((s.quarantineEngines e w).offer noticeEngineQuarantine p) :=
    keepsBounds_of_frame (by simp) (by simp)
  unfold State.disconnectFails
  dsimp only
  split
  · exact (hoffer _ _).trans (keepsBounds_answerCalibrationOf _ _ _ _)
  · exact hoffer _ _

theorem keepsBounds_disconnectCompleted (s : State) (e : Nat) (x : Context) (k : Completion) :
    s.KeepsBounds (s.disconnectCompleted e x k) := by
  cases k with
  | done => exact keepsBounds_disconnected s e x
  | refused r => exact keepsBounds_disconnectFails s e x _
  | timeout => exact keepsBounds_disconnectFails s e x _

theorem keepsBounds_endQuarantine (s : State) (e : Nat) : s.KeepsBounds (s.endQuarantine e) := by
  unfold State.endQuarantine
  split
  · exact .trans (keepsBounds_of_frame (by simp [State.unlockOwned]) (by simp [State.unlockOwned]))
      (keepsBounds_engineLeaves _ e)
  · exact .refl s

theorem keepsBounds_resetAllCompleted (s : State) (r : Requester) (k : Completion) :
    s.KeepsBounds (s.resetAllCompleted r k) := by
  have hheard : s.KeepsBounds (match r with
      | .resync i => s.resyncAnswer i k
      | .reset => s.startupCompletes
      | .engine _ => s) := by
    cases r with
    | resync i => cases k <;> exact keepsBounds_answer s _ _ _ _
    | reset => exact keepsBounds_of_frame rfl rfl
    | engine e => exact .refl s
  unfold State.resetAllCompleted
  dsimp only
  split
  · exact hheard.trans (keepsBounds_foldl _ keepsBounds_endQuarantine _ _)
  · exact hheard

theorem keepsBounds_requesterActs (s : State) (r : Request) (k : Completion) : s.KeepsBounds (s.requesterActs r k) := by
  unfold State.requesterActs
  split
  · split
    · exact .refl s
    · split
      · exact keepsBounds_connectCompleted s _ _ k
      · exact keepsBounds_loopPortCompleted s _ _ k
      · exact keepsBounds_disconnectCompleted s _ _ k
      · exact .refl s
  · exact keepsBounds_resetAllCompleted s _ k
  · exact keepsBounds_resetAllCompleted s _ k

theorem keepsBounds_complete (s : State) (q : CurrentRequest) (k : Completion) : s.KeepsBounds (s.complete q k) := by
  have hclosed : s.KeepsBounds (s.closeRequest q k) := keepsBounds_of_frame (by simp) (by simp)
  refine State.KeepsBounds.trans ?_ (keepsBounds_requesterActs _ q.request k)
  unfold State.faultNotice
  split
  · exact hclosed
  · exact hclosed.trans (keepsBounds_of_frame (by simp) (by simp))

theorem keepsBounds_timeOut (s : State) : s.KeepsBounds s.timeOut := by
  unfold State.timeOut
  split
  · exact keepsBounds_complete s _ _
  · exact .refl s

theorem keepsBounds_takeAnswer (s : State) (a : Answer) : s.KeepsBounds (s.takeAnswer a) := by
  have hlate : s.KeepsBounds s.countLate := keepsBounds_of_frame rfl rfl
  unfold State.takeAnswer
  split
  · exact hlate
  · split
    · exact hlate
    · split
      · exact .refl s
      · exact keepsBounds_complete s _ _

theorem keepsBounds_takeAnswerByte (s : State) (b : Byte) : s.KeepsBounds (s.takeAnswerByte b) := by
  have hrx (l : List Byte) : s.KeepsBounds (s.setAnswerRx l) := keepsBounds_of_frame rfl rfl
  unfold State.takeAnswerByte
  split
  · split
    · exact hrx _
    · exact .refl s
  · dsimp only
    split
    · exact hrx _
    · split
      · exact (hrx _).trans (keepsBounds_takeAnswer _ _)
      · exact hrx _

theorem keepsBounds_answerByte (s : State) (b : Byte) : s.KeepsBounds (s.answerByte b) := by
  have hdrop : s.KeepsBounds s.dropAnswer := keepsBounds_of_frame rfl rfl
  unfold State.answerByte
  split
  · exact hdrop.trans (keepsBounds_takeAnswerByte _ b)
  · exact keepsBounds_takeAnswerByte s b

end Sys2Proof.Machine
end


section
/-! SUPPORT. O6 and O8: an arbiter run, the commands and the moments keep the classes in their ranges and the spot queue within
its bound (R105 to R109, R119, R120, R131, R134). -/

namespace Sys2Proof.Machine

/-! ## An arbiter run (R105 to R109) -/

/-- A launch takes a credit of its class. -/
theorem keepsBounds_launchClass (s : State) (k c e : Nat) : s.KeepsBounds (s.launchClass k c e) := by
  have hleft : s.KeepsBounds ((s.dequeue c).setStatus c .active) := (keepsBounds_dequeue s c).then_frame (by simp) (by simp)
  have htaken (u : State) : u.KeepsBounds (u.setCls k { u.cls k with credits := (u.cls k).credits - 1 }) :=
    keepsBounds_setCls u k _ (fun h => inRange_of_le h rfl rfl (Nat.sub_le _ _) le_rfl)
  unfold State.launchClass
  exact (hleft.trans (htaken _)).then_frame (by simp [State.claimSlot]) (by simp [State.claimSlot])

theorem keepsBounds_launchSpot (s : State) (x : SpotEntry) (e : Nat) : s.KeepsBounds (s.launchSpot x e) := by
  cases x with
  | probe c slot =>
    exact (keepsBounds_leaveSpot s (.probe c slot)).then_frame (by simp [State.launchSpot, State.claimSlot])
      (by simp [State.launchSpot, State.claimSlot])
  | releaseOnly c =>
    unfold State.launchSpot
    dsimp only
    split
    · exact .refl s
    · exact (keepsBounds_leaveSpot s (.releaseOnly c)).then_frame (by simp) (by simp)
  | calibration e' i =>
    exact (keepsBounds_leaveSpot s (.calibration e' i)).then_frame (by simp [State.launchSpot]) (by simp [State.launchSpot])

theorem keepsBounds_scanSpot (fuel pos : Nat) (s : State) : s.KeepsBounds (State.scanSpot fuel pos s).2 := by
  induction fuel generalizing pos s with
  | zero => exact .refl s
  | succ fuel ih =>
    unfold State.scanSpot
    split
    · exact .refl s
    · split
      · exact .refl s
      · split
        · exact (keepsBounds_removeSpot s .pointOut _).trans (ih pos _)
        · split
          · exact keepsBounds_launchSpot s _ _
          · exact ih (pos + 1) s

theorem keepsBounds_scanClass (k fuel pos : Nat) (s : State) : s.KeepsBounds (State.scanClass k fuel pos s).2 := by
  induction fuel generalizing pos s with
  | zero => exact .refl s
  | succ fuel ih =>
    unfold State.scanClass
    split
    · exact .refl s
    · split
      · exact .refl s
      · split
        · exact (keepsBounds_withdraw s .blocked _).trans (ih pos _)
        · split
          · exact keepsBounds_launchClass s k _ _
          · exact ih (pos + 1) s

theorem keepsBounds_classTurn (s : State) (k : Nat) : s.KeepsBounds (s.classTurn k).2 := by
  unfold State.classTurn
  split
  · exact keepsBounds_scanClass k _ _ s
  · exact .refl s

theorem keepsBounds_serveSpot (fuel : Nat) (s : State) : s.KeepsBounds (State.serveSpot fuel s) := by
  induction fuel generalizing s with
  | zero => exact .refl s
  | succ fuel ih =>
    have hs := keepsBounds_scanSpot (s.spot.length + 1) 0 s
    unfold State.serveSpot
    dsimp only
    split
    · exact hs.trans (ih _)
    · exact hs

theorem keepsBounds_serveAlone (k fuel : Nat) (s : State) : s.KeepsBounds (State.serveAlone k fuel s) := by
  induction fuel generalizing s with
  | zero => exact .refl s
  | succ fuel ih =>
    unfold State.serveAlone
    dsimp only
    split
    · exact (keepsBounds_classTurn s k).trans (ih _)
    · exact keepsBounds_classTurn s k

theorem keepsBounds_serveBank (fuel a b : Nat) (s : State) : s.KeepsBounds (State.serveBank fuel a b s) := by
  induction fuel generalizing a b s with
  | zero => exact .refl s
  | succ fuel ih =>
    unfold State.serveBank
    dsimp only
    split
    · exact (keepsBounds_classTurn s a).trans (ih b a _)
    · exact (keepsBounds_classTurn s a).trans (keepsBounds_serveAlone b fuel _)

theorem keepsBounds_runArbiter (s : State) : s.KeepsBounds s.runArbiter := by
  have hspot : s.KeepsBounds (State.serveSpot runFuel { s with runDue := false }) :=
    (keepsBounds_serveSpot runFuel { s with runDue := false }).after_frame rfl rfl
  have hpriority (t : State) : t.KeepsBounds t.servePriority := by
    unfold State.servePriority
    split
    · exact keepsBounds_serveBank _ _ _ t
    · exact keepsBounds_serveBank _ _ _ t
  have hstandard (t : State) : t.KeepsBounds t.serveStandard := by
    unfold State.serveStandard
    split
    · exact keepsBounds_serveBank _ _ _ t
    · exact keepsBounds_serveBank _ _ _ t
  exact (hspot.trans (hpriority _)).trans (hstandard _)

/-! ## What a step answers -/

/-- The step answers a state in the bounds of `s`. -/
def AnswersBounded (s : State) (r : Result) : Prop := ∀ t, r = .next t → s.KeepsBounds t

theorem answersBounded_next {s t : State} (h : s.KeepsBounds t) : AnswersBounded s (.next t) := fun _ hu => by
  cases hu; exact h

theorem answersBounded_event {b : Bool} {s : State} {f : State → State} (h : ∀ t : State, t.KeepsBounds (f t)) :
    AnswersBounded s (event b s f) := by
  refine answersBounded_next ?_
  split
  · exact h s
  · exact .refl s

/-- A command is bounded as its body is, whatever state the taken frame leaves. -/
theorem answersBounded_command {code : Byte} {tag : Tag} {p : List Byte} {s : State} {body : Cmd → State → State}
    (h : ∀ c (t : State), t.KeepsBounds (body c t)) : AnswersBounded s (hostCommand code tag p s body) := by
  rcases hostCommand_next code tag p s body with heq | ⟨t, ht, heq⟩
  · rw [heq]; exact answersBounded_next (.refl s)
  · rw [heq]
    obtain ⟨-, -, -, rfl⟩ := takeFrame_some s t _ ht
    exact answersBounded_next ((h _ _).after_frame rfl rfl)

theorem keepsBounds_reply (s : State) (c : Cmd) (st : Status) (p : List Byte) (b : Bool) :
    s.KeepsBounds (s.reply c st p b) := keepsBounds_of_frame rfl rfl

theorem keepsBounds_refuse (s : State) (c : Cmd) (st : Status) : s.KeepsBounds (s.refuse c st) :=
  keepsBounds_reply s c st [] false

theorem keepsBounds_fixedLength {n : Nat} {p : List Byte} {c : Cmd} {body : State → State} {s : State}
    (h : s.KeepsBounds (body s)) : s.KeepsBounds (fixedLength n p c body s) := by
  unfold fixedLength
  split
  · exact h
  · exact keepsBounds_refuse s c _

/-- A report writes its reply and nothing else. -/
theorem answersBounded_report {code : Byte} {tag : Tag} {p : List Byte} {s : State} (f : State → List Byte) :
    AnswersBounded s (hostCommand code tag p s (fun c => fixedLength 0 p c (fun t => t.reply c .ok (f t) false))) :=
  answersBounded_command (fun c t => keepsBounds_fixedLength (keepsBounds_reply t c _ _ _))

/-! ## The circuit table (R11 to R19) -/

theorem keepsBounds_rangeCommand {first count : Nat} {c : Cmd} {check : State → Nat → Option Status}
    {carryOut : State → State} {s : State} (h : s.KeepsBounds (carryOut s)) :
    s.KeepsBounds (rangeCommand first count c check carryOut s) := by
  unfold rangeCommand
  split
  · exact keepsBounds_reply s c _ _ _
  · split
    · exact keepsBounds_reply s c _ _ _
    · exact h

/-- The reply, then one step for each circuit of the range. -/
theorem answersBounded_range {code : Byte} {tag : Tag} {p : List Byte} {s : State} (check : State → Nat → Option Status)
    (one : State → Nat → State) (h : ∀ (t : State) c, t.KeepsBounds (one t c)) :
    AnswersBounded s (hostCommand code tag p s (fun c => rangeBody p c check
      (fun first count t => (rangeOf first count).foldl one (t.replyRange c .ok count 0 false)))) :=
  answersBounded_command (fun c t => keepsBounds_fixedLength (keepsBounds_rangeCommand
    ((keepsBounds_reply t c _ _ _).trans (keepsBounds_foldl one h _ _))))

theorem keepsBounds_setCircuit (s : State) (c : Nat) (r : Circuit) : s.KeepsBounds (s.setCircuit c r) :=
  keepsBounds_of_frame rfl rfl

theorem keepsBounds_retireOne (s : State) (c : Nat) : s.KeepsBounds (s.retireOne c) := by
  unfold State.retireOne
  split
  · exact (keepsBounds_withdraw s _ c).trans (keepsBounds_setCircuit _ c _)
  · exact keepsBounds_setCircuit s c _

theorem keepsBounds_suspendOne (s : State) (c : Nat) : s.KeepsBounds (s.suspendOne c) := by
  unfold State.suspendOne
  dsimp only
  split
  · exact (keepsBounds_setCircuit s c _).trans (keepsBounds_withdraw _ _ c)
  · exact keepsBounds_setCircuit s c _

theorem keepsBounds_requeue (s : State) (c old : Nat) : s.KeepsBounds (s.requeue c old) := by
  unfold State.requeue
  dsimp only
  split
  · exact keepsBounds_withdraw s .held c
  · split
    · exact .refl s
    · exact ((keepsBounds_dequeue s c).trans (keepsBounds_enqueue _ _ c)).then_frame rfl rfl

theorem keepsBounds_defineOne (s : State) (c : Nat) (d : Definition) : s.KeepsBounds (s.defineOne c d) := by
  unfold State.defineOne
  dsimp only
  split
  · exact (keepsBounds_setCircuit s c _).trans (keepsBounds_requeue _ c _)
  · exact keepsBounds_setCircuit s c _

theorem circuitDefine_bounded (s : State) (tag : Tag) (p : List Byte) : AnswersBounded s (execCircuitDefine tag p s) :=
  answersBounded_command (fun c t => by
    unfold circuitDefineBody
    split
    · exact keepsBounds_rangeCommand ((keepsBounds_reply t c _ _ _).trans
        (keepsBounds_foldl _ (fun u k => keepsBounds_defineOne u _ _) _ _))
    · exact keepsBounds_refuse t c _)

/-! ## Engines, points, nodes, loops and the matrix -/

/-- A command of one engine, refused outside the table. -/
theorem answersBounded_engine {code : Byte} {tag : Tag} {p : List Byte} {s : State} (body : Cmd → Nat → State → State)
    (h : ∀ c e (t : State), t.KeepsBounds (body c e t)) :
    AnswersBounded s (hostCommand code tag p s (fun c => engineCommand p c (body c))) :=
  answersBounded_command (fun c t => keepsBounds_fixedLength (by
    split
    · exact h c _ t
    · exact keepsBounds_refuse t c _))

theorem keepsBounds_enable (s : State) (e : Nat) : s.KeepsBounds (s.enable e) := by
  unfold State.enable
  split
  · exact keepsBounds_goIdle s e
  · exact keepsBounds_of_frame rfl rfl

theorem keepsBounds_disable (s : State) (e : Nat) : s.KeepsBounds (s.disable e) := by
  unfold State.disable
  split
  · exact keepsBounds_goOffline s e
  · exact .refl s
  · exact keepsBounds_of_frame rfl rfl

/-- The checks of R39 leave room in the spot queue. -/
theorem room_of_calibrateCheck {s : State} {e : Nat} (h : calibrateCheck s e = none) : s.spot.length < 8 := by
  unfold calibrateCheck at h
  split_ifs at h
  omega

theorem keepsBounds_calibrate (c : Cmd) (e : Nat) (s : State) : s.KeepsBounds (engineCalibrateBody c e s) := by
  unfold engineCalibrateBody
  split
  · exact keepsBounds_refuse s c _
  · rename_i hcheck
    unfold State.queueCalibration
    split
    · have hroom := room_of_calibrateCheck hcheck
      exact (keepsBounds_takeSlot s _ c _).trans (keepsBounds_joinSpot _ hroom)
    · exact .refl s

/-- A command of one node, refused outside the table. -/
theorem answersBounded_node {code : Byte} {tag : Tag} {p : List Byte} {s : State} (body : Cmd → Nat → State → State)
    (h : ∀ c n (t : State), t.KeepsBounds (body c n t)) :
    AnswersBounded s (hostCommand code tag p s (fun c => nodeCommand p c (body c))) :=
  answersBounded_command (fun c t => keepsBounds_fixedLength (by
    split
    · exact h c _ t
    · exact keepsBounds_refuse t c _))

theorem keepsBounds_nodeHold (c : Cmd) (n : Nat) (s : State) : s.KeepsBounds (nodeHoldBody c n s) := by
  unfold nodeHoldBody
  split
  · exact keepsBounds_reply s c _ _ _
  · exact (keepsBounds_reply s c _ _ _).trans (keepsBounds_holdNode _ n .command)

theorem pointSet_bounded (s : State) (tag : Tag) (p : List Byte) : AnswersBounded s (execPointSet tag p s) :=
  answersBounded_command (fun c t => keepsBounds_fixedLength (by
    unfold pointSetBody
    split
    · exact keepsBounds_of_frame (by simp [State.setService]) (by simp [State.setService])
    · exact keepsBounds_refuse t c _))

theorem nodeSet_bounded (s : State) (tag : Tag) (p : List Byte) : AnswersBounded s (execNodeSet tag p s) :=
  answersBounded_command (fun c t => keepsBounds_fixedLength (by
    unfold nodeSetBody
    dsimp only
    split
    · exact keepsBounds_refuse t c _
    · exact keepsBounds_of_frame rfl rfl))

/-- The checks of R150 leave room in the spot queue. -/
theorem room_of_retryCheck {s : State} {c : Nat} (h : retryCheck s c = none) : s.spot.length < 8 := by
  unfold retryCheck at h
  split at h
  · cases h
  · split at h
    · cases h
    · split at h
      · cases h
      · split_ifs at h
        omega

theorem releaseRetry_bounded (s : State) (tag : Tag) (p : List Byte) : AnswersBounded s (execReleaseRetry tag p s) :=
  answersBounded_command (fun c t => keepsBounds_fixedLength (by
    unfold releaseRetryBody
    split
    · exact keepsBounds_refuse t c _
    · exact (keepsBounds_reply t c _ _ _).trans (keepsBounds_joinSpot _ (room_of_retryCheck ‹_›))))

theorem keepsBounds_clearLoop (s : State) (c : Nat) (o : OpenLoop) : s.KeepsBounds (s.clearLoop c o) :=
  (keepsBounds_leaveSpot s (.releaseOnly c)).then_frame rfl rfl

theorem openLoopClear_bounded (s : State) (tag : Tag) (p : List Byte) : AnswersBounded s (execOpenLoopClear tag p s) :=
  answersBounded_command (fun c t => keepsBounds_fixedLength (by
    unfold openLoopClearBody
    split
    · exact keepsBounds_refuse t c _
    · split
      · exact .refl t
      · exact ((keepsBounds_reply t c _ _ _).trans (keepsBounds_clearLoop _ _ _)).trans (keepsBounds_offer _ _ _)))

theorem matrixResync_bounded (s : State) (tag : Tag) (p : List Byte) : AnswersBounded s (execMatrixResync tag p s) :=
  answersBounded_command (fun c t => keepsBounds_fixedLength (by
    unfold matrixResyncBody
    split
    · exact keepsBounds_refuse t c _
    · split
      · exact keepsBounds_refuse t c _
      · exact keepsBounds_of_frame (by simp) (by simp)))

/-! ## Campaigns (R115 to R132) -/

theorem keepsBounds_queueCircuit (s : State) (c : Nat) : s.KeepsBounds (s.queueCircuit c) :=
  (keepsBounds_enqueue (s.setStatus c .queued) _ c).after_frame rfl rfl

/-- A start gives each class the credits of its quota (R117). -/
theorem keepsBounds_fillCredits (s : State) : s.KeepsBounds s.fillCredits := by
  refine ⟨classesInRange_map _ rfl (fun k h => ?_), spotInRange_congr rfl⟩
  obtain ⟨h1, h2, h3, h4, -, -⟩ := h
  exact ⟨h1, h2, h3, h4, le_rfl, Nat.zero_le _⟩

theorem keepsBounds_carryStart (c : Cmd) (kind : CampaignKind) (carried : Params) (x : Selection) (s : State) :
    s.KeepsBounds (carryStart c kind carried x s) := by
  have hfilled (p : List Byte) (b : Bool) (f g : Campaign → Campaign) : s.KeepsBounds
      ((((s.toQueue x).foldl State.queueCircuit ((s.reply c .ok p b).modCampaign f)).fillCredits).modCampaign g) :=
    ((((keepsBounds_reply s c .ok p b).trans (keepsBounds_modCampaign _ f)).trans
      (keepsBounds_foldl _ keepsBounds_queueCircuit _ _)).trans (keepsBounds_fillCredits _)).trans (keepsBounds_modCampaign _ g)
  unfold carryStart
  dsimp only
  refine State.KeepsBounds.trans ?_ (keepsBounds_startRun _)
  split
  · exact (hfilled _ _ _ _).trans (keepsBounds_endCampaign _)
  · exact hfilled _ _ _ _

theorem campaignStart_bounded (s : State) (tag : Tag) (p : List Byte) : AnswersBounded s (execCampaignStart tag p s) :=
  answersBounded_command (fun c t => by
    unfold campaignStartBody
    split
    · exact keepsBounds_refuse t c _
    · split
      · exact keepsBounds_refuse t c _
      · split
        · exact keepsBounds_carryStart c _ _ _ t
        · exact .refl t)

theorem keepsBounds_addOne (s : State) (c : Nat) : s.KeepsBounds (s.addOne c) := by
  have hcount : s.KeepsBounds (s.modSummary (fun m => m.countAdd (s.disposition c))) := keepsBounds_of_frame rfl rfl
  unfold State.addOne
  dsimp only
  split
  · exact (hcount.trans (keepsBounds_queueCircuit _ c)).then_frame rfl rfl
  · exact hcount

theorem campaignAdd_bounded (s : State) (tag : Tag) (p : List Byte) : AnswersBounded s (execCampaignAdd tag p s) :=
  answersBounded_command (fun c t => by
    unfold campaignAddBody
    split_ifs
    · exact keepsBounds_refuse t c _
    · exact keepsBounds_refuse t c _
    · exact keepsBounds_refuse t c _
    · exact (keepsBounds_reply t c _ _ _).trans (keepsBounds_foldl _ keepsBounds_addOne _ _))

/-- A campaign command without fields. -/
theorem answersBounded_campaign {code : Byte} {tag : Tag} {p : List Byte} {s : State} (body : Cmd → State → State)
    (h : ∀ c (t : State), t.KeepsBounds (body c t)) :
    AnswersBounded s (hostCommand code tag p s (fun c => campaignCommand p c (body c))) :=
  answersBounded_command (fun c t => keepsBounds_fixedLength (by
    split
    · exact keepsBounds_refuse t c _
    · exact h c t))

theorem keepsBounds_resume (c : Cmd) (s : State) : s.KeepsBounds (campaignResumeBody c s) := by
  have hreply := keepsBounds_reply s c .ok (be8 s.afterResume.byte) false
  unfold campaignResumeBody
  dsimp only
  split
  · exact ((hreply.trans (keepsBounds_modCampaign _ _)).trans (keepsBounds_testEnd _)).trans (keepsBounds_startRun _)
  · exact hreply.trans (keepsBounds_startRun _)

/-- CANCEL, ABORT and the deadline (R124 to R126). -/
theorem keepsBounds_drained (s : State) (r : NotTested) (cause : EndCause) : s.KeepsBounds (s.drain r cause).testEnd :=
  (keepsBounds_drain s r cause).trans (keepsBounds_testEnd _)

theorem keepsBounds_cancel (c : Cmd) (s : State) : s.KeepsBounds (campaignCancelBody c s) := by
  unfold campaignCancelBody
  split
  · exact keepsBounds_reply s c _ _ _
  · exact (keepsBounds_reply s c _ _ _).trans (keepsBounds_drained _ _ _)

theorem keepsBounds_abortEngine (s : State) (e : Nat) : s.KeepsBounds (s.abortEngine e) := by
  have hmark : s.KeepsBounds (s.markAborted e) := keepsBounds_of_frame rfl rfl
  unfold State.abortEngine
  split
  · split
    · exact hmark.trans (keepsBounds_startCourtesy _ e)
    · exact hmark.trans (keepsBounds_startCourtesy _ e)
    · exact (hmark.trans (keepsBounds_writeOutcome _ e _)).trans (keepsBounds_startRelease _ e)
    · exact hmark
  · exact .refl s

theorem keepsBounds_abort (c : Cmd) (s : State) : s.KeepsBounds (campaignAbortBody c s) := by
  have hqueues (t : State) : t.KeepsBounds t.abortQueues := by
    unfold State.abortQueues
    split
    · exact keepsBounds_of_frame rfl rfl
    · exact keepsBounds_drained t _ _
  exact ((keepsBounds_reply s c _ _ _).trans (hqueues _)).trans (keepsBounds_foldl _ keepsBounds_abortEngine _ _)

/-- CLASS_SET clamps interval and quota and cuts the credits (R120). -/
theorem inRange_configured (k : PacingClass) (interval quota : Nat) :
    (k.configured (clampNat 1 60000 interval) (clampNat 1 32 quota)).inRange := by
  simp only [PacingClass.inRange, PacingClass.configured, clampNat]
  omega

theorem classSet_bounded (s : State) (tag : Tag) (p : List Byte) : AnswersBounded s (execClassSet tag p s) :=
  answersBounded_command (fun c t => keepsBounds_fixedLength (by
    unfold classSetBody
    dsimp only
    split
    · exact keepsBounds_refuse t c _
    · exact ((keepsBounds_reply t c _ _ _).trans
        (keepsBounds_setCls _ _ _ (fun _ => inRange_configured _ _ _))).then_frame rfl rfl))

/-- The checks of R132 leave room in the spot queue. -/
theorem room_of_probeCheck {s : State} {c mode : Nat} (h : probeCheck s c mode = none) : s.spot.length < 8 := by
  unfold probeCheck at h
  split_ifs at h
  omega

theorem keepsBounds_queueProbe (s : State) (cmd : Cmd) (c mode : Nat) (h : s.spot.length < 8) :
    s.KeepsBounds (s.queueProbe cmd c mode) := by
  unfold State.queueProbe
  split
  · split
    · exact ((keepsBounds_takeSlot s _ cmd _).trans (keepsBounds_setCircuit _ c _)).trans (keepsBounds_joinSpot _ h)
    · exact .refl s
  · exact ((keepsBounds_reply s cmd _ _ _).trans (keepsBounds_setCircuit _ c _)).trans (keepsBounds_joinSpot _ h)

theorem probeCircuit_bounded (s : State) (tag : Tag) (p : List Byte) : AnswersBounded s (execProbeCircuit tag p s) :=
  answersBounded_command (fun c t => keepsBounds_fixedLength (by
    unfold probeCircuitBody
    split
    · exact keepsBounds_refuse t c _
    · exact keepsBounds_queueProbe t c _ _ (room_of_probeCheck ‹_›)))

/-- A class below its quota gains one credit (R119). -/
theorem keepsBounds_accrue (s : State) (k : Nat) : s.KeepsBounds (s.accrue k) := by
  refine State.KeepsBounds.then_frame (keepsBounds_setCls s k _ (fun h => ?_)) (by simp [State.accrue]; rfl)
    (by simp [State.accrue])
  obtain ⟨h1, h2, h3, h4, h5, -⟩ := h
  refine ⟨h1, h2, h3, h4, ?_, Nat.zero_le _⟩
  dsimp only
  split <;> omega

/-! ## Resets, the link and the tick -/

theorem keepsBounds_softReset (s : State) (loops : Nat) : s.KeepsBounds (s.softReset loops) := by
  have hempty : s.KeepsBounds (s.emptied loops) :=
    ⟨classesInRange_map _ rfl (fun k h => inRange_of_le h rfl rfl (Nat.zero_le _) (Nat.zero_le _)), fun _ => Nat.zero_le _⟩
  rw [softReset_eq]
  exact hempty.then_frame (by simp) (by simp)

theorem deviceReset_bounded (s : State) (tag : Tag) (p : List Byte) : AnswersBounded s (execDeviceReset tag p s) :=
  answersBounded_command (fun c t => keepsBounds_fixedLength (by
    have habandon (u : State) (d : DeferredSlot) (i : Nat) : u.KeepsBounds (u.abandon d i) := by
      unfold State.abandon
      split <;> exact keepsBounds_answer u i _ _ _
    unfold deviceResetBody
    split
    · exact keepsBounds_refuse t c _
    · exact ((keepsBounds_reply t c _ _ _).trans
        (keepsBounds_foldl _ (fun u (q : DeferredSlot × Nat) => habandon u q.1 q.2) _ _)).trans
        (keepsBounds_softReset _ _)))

/-- The classes and the spot queue of a cold reset (R119, R131). -/
theorem keepsBounds_coldFrom (a b : Bool) (s : State) : s.KeepsBounds (State.coldFrom a b s) :=
  ⟨fun _ => classesInRange_coldFrom a b s, fun _ => Nat.zero_le _⟩

theorem unknownCommand_bounded (s : State) (kind code : Byte) (tag : Tag) (p : List Byte) :
    AnswersBounded s (execUnknownCommand kind code tag p s) := by
  unfold execUnknownCommand
  split
  · exact answersBounded_next (.refl s)
  · rename_i t ht
    obtain ⟨-, -, -, rfl⟩ := takeFrame_some s t _ ht
    split_ifs
    · exact answersBounded_next (keepsBounds_of_frame rfl rfl)
    · exact answersBounded_next (.refl s)
    · exact answersBounded_next (keepsBounds_of_frame rfl rfl)

/-! ## The link and the tick (R1, R119, R168 to R178) -/

theorem keepsBounds_setReceiver (s : State) (r : Receiver) : s.KeepsBounds (s.setReceiver r) := keepsBounds_of_frame rfl rfl

theorem keepsBounds_frameError (s : State) : s.KeepsBounds s.frameError := keepsBounds_of_frame rfl rfl

theorem keepsBounds_frameArrived (s : State) (f : Frame) : s.KeepsBounds (s.frameArrived f) := by
  unfold State.frameArrived
  split <;> exact keepsBounds_of_frame rfl rfl

theorem keepsBounds_linkByte (s : State) (b : Byte) : s.KeepsBounds (s.linkByte b) := by
  unfold State.linkByte
  split
  · split
    · exact keepsBounds_setReceiver s _
    · exact .refl s
  · split
    · exact keepsBounds_setReceiver s _
    · split
      · exact keepsBounds_setReceiver s _
      · exact (keepsBounds_setReceiver s _).trans (keepsBounds_frameError _)
  · split <;> exact keepsBounds_setReceiver s _
  · split
    · exact keepsBounds_setReceiver s _
    · unfold State.judgeFrame
      dsimp only
      split
      · exact (keepsBounds_setReceiver s _).trans (keepsBounds_frameArrived _ _)
      · exact (keepsBounds_setReceiver s _).trans (keepsBounds_frameError _)

theorem keepsBounds_recordLeaves (s : State) : s.KeepsBounds s.recordLeaves := by
  unfold State.recordLeaves
  split
  · exact .refl s
  · dsimp only
    split <;> exact keepsBounds_of_frame rfl rfl

theorem keepsBounds_placeReady (s : State) : s.KeepsBounds s.placeReady := by
  unfold State.placeReady
  split
  · exact .refl s
  · split
    · exact .refl s
    · exact keepsBounds_of_frame rfl rfl

/-- In RUNNING a timer counts up to its interval (R119). -/
theorem keepsBounds_tick (s : State) (lanes : Vector LaneInput 16) : s.KeepsBounds (s.tick lanes) := by
  refine ⟨?_, spotInRange_congr rfl⟩
  by_cases hr : s.campaign.state = .running
  · refine classesInRange_map PacingClass.tick (by simp [State.tick, hr]) (fun k h => ?_)
    obtain ⟨h1, h2, h3, h4, h5, -⟩ := h
    exact ⟨h1, h2, h3, h4, h5, Nat.min_le_right _ _⟩
  · exact classesInRange_congr (by simp [State.tick, hr])

/-! ## The moments of the lanes (chapters 2 and 3) -/

theorem keepsBounds_modEngine (s : State) (e : Nat) (f : Engine → Engine) : s.KeepsBounds (s.modEngine e f) :=
  keepsBounds_of_frame rfl rfl

theorem keepsBounds_onLanes (s : State) (e : Nat) (f : Engine → Engine) : s.KeepsBounds (s.onLanes e f) :=
  keepsBounds_of_frame (by simp) (by simp)

theorem keepsBounds_setNode (s : State) (n : Nat) (x : Node) : s.KeepsBounds (s.setNode n x) := keepsBounds_of_frame rfl rfl

theorem keepsBounds_reportConfirmed (s : State) (n : Nat) : s.KeepsBounds (s.reportConfirmed n) :=
  keepsBounds_setNode s n _

theorem keepsBounds_startSoak (s : State) (e : Nat) : s.KeepsBounds (s.startSoak e) := keepsBounds_of_frame (by simp) (by simp)

theorem keepsBounds_startCheck (s : State) (e : Nat) : s.KeepsBounds (s.startCheck e) :=
  keepsBounds_of_frame (by simp) (by simp)

theorem keepsBounds_takeGain (s : State) (e : Nat) : s.KeepsBounds (s.takeGain e) := keepsBounds_modEngine s e _

theorem keepsBounds_placeMarker (s : State) (e : Nat) : s.KeepsBounds (s.placeMarker e) :=
  (keepsBounds_modEngine s e _).trans (keepsBounds_onLanes _ e _)

theorem keepsBounds_moveTo (s : State) (m : Nat) : s.KeepsBounds (s.moveTo m) := keepsBounds_of_frame rfl rfl

theorem keepsBounds_hear (s : State) (e : Nat) (rx : List Bool) (m : Nat) : s.KeepsBounds (s.hear e rx m) :=
  (keepsBounds_moveTo s m).trans (keepsBounds_modEngine (s.moveTo m) e (fun g => g.receive rx))

theorem keepsBounds_settleEnds (s : State) (e : Nat) : s.KeepsBounds (s.settleEnds e) := by
  unfold State.settleEnds
  split
  · exact .refl s
  · split
    · exact keepsBounds_modEngine s e _
    · exact keepsBounds_startRelease s e
    · split
      · exact keepsBounds_startCourtesy s e
      · exact keepsBounds_startLoopUp s e
    · exact keepsBounds_startLoopUp s e

theorem keepsBounds_loopUpExpires (s : State) (e : Nat) : s.KeepsBounds (s.loopUpExpires e) := by
  unfold State.loopUpExpires
  split
  · exact keepsBounds_of_frame (by simp) (by simp)
  · exact ((keepsBounds_writeOutcome s e _).trans (keepsBounds_reportNoLoop _ _)).trans (keepsBounds_startCourtesy _ e)

theorem keepsBounds_aisEnds (s : State) (l : Nat) : s.KeepsBounds (s.aisEnds l) := by
  have hwritten := keepsBounds_writeOutcome s l .aisReceived
  unfold State.aisEnds
  split
  · exact hwritten.trans (keepsBounds_startRelease _ l)
  · exact hwritten.trans (keepsBounds_startCourtesy _ l)

theorem keepsBounds_syncGained (s : State) (e l : Nat) : s.KeepsBounds (s.syncGained e l) := by
  have hword : s.KeepsBounds (s.sendWord l) := keepsBounds_of_frame (by simp) (by simp)
  unfold State.syncGained
  split
  · split
    · exact hword.trans (keepsBounds_onLanes _ l _)
    · exact .refl s
  · split
    · exact keepsBounds_releaseAttemptFailed s l
    · exact .refl s
  · split
    · exact hword.trans (keepsBounds_modEngine _ l _)
    · exact .refl s
  · exact .refl s

theorem keepsBounds_wordFound (s : State) (e : Nat) : s.KeepsBounds (s.wordFound e) := by
  unfold State.wordFound
  split
  · exact .refl s
  · dsimp only
    split
    · exact ((keepsBounds_modEngine s e _).trans (keepsBounds_modEngine _ e _)).trans (keepsBounds_startDisconnect _ e)
    · exact keepsBounds_modEngine s e _

theorem keepsBounds_wordLost (s : State) (e : Nat) : s.KeepsBounds (s.wordLost e) := by
  unfold State.wordLost
  dsimp only
  split
  · exact (keepsBounds_modEngine s e _).trans (keepsBounds_startDisconnect _ e)
  · exact keepsBounds_modEngine s e _

/-! ## Every instruction -/

theorem exec_bounded (i : Instr) (s : State) : AnswersBounded s (exec i s) := by
  cases i with
  | circuitDefine tag p => exact circuitDefine_bounded s tag p
  | circuitReport tag p =>
    exact answersBounded_command (fun c t => keepsBounds_fixedLength (keepsBounds_rangeCommand
      (carryOut := carryReport c _ _) (keepsBounds_of_frame rfl rfl)))
  | circuitRetire tag p => exact answersBounded_range retireCheck _ keepsBounds_retireOne
  | circuitSuspend tag p => exact answersBounded_range suspendCheck _ keepsBounds_suspendOne
  | circuitResume tag p => exact answersBounded_range definedCheck _ (fun t c => keepsBounds_setCircuit t c _)
  | circuitBaselineClear tag p => exact answersBounded_range definedCheck _ (fun t c => keepsBounds_setCircuit t c _)
  | engineEnable tag p =>
    exact answersBounded_engine _ (fun c e t => (keepsBounds_reply t c .ok [] false).trans (keepsBounds_enable _ e))
  | engineDisable tag p =>
    exact answersBounded_engine _ (fun c e t => (keepsBounds_reply t c .ok [] false).trans (keepsBounds_disable _ e))
  | engineCalibrate tag p => exact answersBounded_engine _ keepsBounds_calibrate
  | engineReport tag p => exact answersBounded_engine _ (fun c e t => keepsBounds_reply t c .ok (t.engineReport e) false)
  | campaignStart tag p => exact campaignStart_bounded s tag p
  | campaignAdd tag p => exact campaignAdd_bounded s tag p
  | campaignPause tag p =>
    exact answersBounded_campaign campaignPauseBody (fun c t => (keepsBounds_reply t c _ _ _).trans (keepsBounds_modCampaign _ _))
  | campaignResume tag p => exact answersBounded_campaign _ keepsBounds_resume
  | campaignCancel tag p => exact answersBounded_campaign _ keepsBounds_cancel
  | campaignAbort tag p => exact answersBounded_campaign _ keepsBounds_abort
  | campaignReport tag p => exact answersBounded_report State.campaignReport
  | classSet tag p => exact classSet_bounded s tag p
  | probeCircuit tag p => exact probeCircuit_bounded s tag p
  | pointSet tag p => exact pointSet_bounded s tag p
  | pointReport tag p => exact answersBounded_report State.pointReport
  | nodeSet tag p => exact nodeSet_bounded s tag p
  | nodeReport tag p => exact answersBounded_report State.nodeReport
  | nodeHold tag p => exact answersBounded_node _ keepsBounds_nodeHold
  | nodeRelease tag p => exact answersBounded_node nodeReleaseBody (fun c n t => keepsBounds_of_frame rfl rfl)
  | releaseRetry tag p => exact releaseRetry_bounded s tag p
  | openLoopClear tag p => exact openLoopClear_bounded s tag p
  | openLoopReport tag p => exact answersBounded_report State.openLoopReport
  | matrixSet tag p =>
    exact answersBounded_command (fun c t => keepsBounds_fixedLength (body := matrixSetBody p c) (keepsBounds_of_frame rfl rfl))
  | matrixResync tag p => exact matrixResync_bounded s tag p
  | deviceStatus tag p => exact answersBounded_report State.deviceStatus
  | deviceReset tag p => exact deviceReset_bounded s tag p
  | unknownCommand kind code tag p => exact unknownCommand_bounded s kind code tag p
  | coldReset a b => exact answersBounded_next (keepsBounds_coldFrom a b s)
  | frameReceived bytes => exact answersBounded_event (keepsBounds_foldl _ keepsBounds_linkByte bytes)
  | lineError => exact answersBounded_event (f := State.discardFrame) (fun t => keepsBounds_of_frame rfl rfl)
  | frameGap => exact answersBounded_event (f := State.discardFrame) (fun t => keepsBounds_of_frame rfl rfl)
  | recordSent => exact answersBounded_event keepsBounds_recordLeaves
  | ready => exact answersBounded_event keepsBounds_placeReady
  | timeBaseTick lanes => exact answersBounded_next (keepsBounds_tick s lanes)
  | arbiterRun => exact answersBounded_event keepsBounds_runArbiter
  | requestSent => exact answersBounded_event (f := State.noteSent) (fun t => keepsBounds_of_frame rfl rfl)
  | matrixAnswer bytes => exact answersBounded_next (keepsBounds_foldl _ keepsBounds_answerByte bytes s)
  | matrixAnswerGap => exact answersBounded_event (f := State.dropAnswer) (fun t => keepsBounds_of_frame rfl rfl)
  | matrixTimeout => exact answersBounded_event keepsBounds_timeOut
  | settleEnd ev => exact answersBounded_event (fun t => (keepsBounds_moveTo t _).trans (keepsBounds_settleEnds _ _))
  | loopConfirmed e =>
    exact answersBounded_event (fun t => (keepsBounds_reportConfirmed t _).trans (keepsBounds_startSoak _ e.val))
  | loopUpTimeout e => exact answersBounded_event (fun t => keepsBounds_loopUpExpires t e.val)
  | retrySpacingEnd e => exact answersBounded_event (fun t => keepsBounds_startLoopUp t e.val)
  | aisRaised e => exact answersBounded_event (fun t => keepsBounds_aisEnds t _)
  | signalDropout e =>
    exact answersBounded_event (fun t => (keepsBounds_writeOutcome t _ .signalDropout).trans (keepsBounds_startRelease _ _))
  | checkerSyncGain e rx m =>
    exact answersBounded_event (fun t => ((keepsBounds_hear t e.val rx m).trans (keepsBounds_takeGain _ e.val)).trans
      (keepsBounds_syncGained _ _ _))
  | syncLoss ev rx => exact answersBounded_event (fun t => keepsBounds_hear t _ rx _)
  | marker e => exact answersBounded_event (fun t => keepsBounds_placeMarker t e.val)
  | delayWordFound e rx m =>
    exact answersBounded_event (fun t => (keepsBounds_hear t e.val rx m).trans (keepsBounds_wordFound _ _))
  | delayWordTimeout ev => exact answersBounded_event (fun t => (keepsBounds_moveTo t _).trans (keepsBounds_wordLost _ _))
  | calibrationLimit e => exact answersBounded_event (fun t => keepsBounds_startDisconnect t e.val)
  | soakTimeEnd e => exact answersBounded_event (fun t => keepsBounds_startRelease t e.val)
  | releaseHoldEnd e => exact answersBounded_event (fun t => keepsBounds_startCheck t e.val)
  | releaseCheckEnd e => exact answersBounded_event (fun t => keepsBounds_releaseProven t e.val)
  | courtesyHoldEnd e => exact answersBounded_event (fun t => keepsBounds_releaseEnd t e.val)
  | creditAccrual k => exact answersBounded_event (fun t => keepsBounds_accrue t k.val)
  | deadlineExpiry => exact answersBounded_event (fun t => keepsBounds_drained t _ _)
  | nextEligibleReached n => exact answersBounded_event (fun t => (keepsBounds_setNode t _ _).trans (keepsBounds_startRun _))

/-- A step keeps the bounds: the queue of pending steps is none of them. -/
theorem step_keepsBounds {s t : State} (h : step s = .next t) : s.KeepsBounds t := by
  unfold step at h
  split at h
  · cases h; exact .refl s
  · rename_i c rest _
    exact (exec_bounded c { s with pending := rest } t h).after_frame rfl rfl

/-- Settles O6: every step keeps the classes in their ranges. -/
theorem creditsStayWithinQuota : Obligations.CreditsStayWithinQuota :=
  fun _ _ hs h => (step_keepsBounds h).classes hs

/-- Settles O8: an entry joins the spot queue behind a check that it has room, and every other step leaves it or shortens it. -/
theorem spotQueueStaysInRange : Obligations.SpotQueueStaysInRange :=
  fun _ _ hs h => (step_keepsBounds h).spot hs

end Sys2Proof.Machine
end


section
/-! SUPPORT. CLASS_SET, PROBE_CIRCUIT and the clocks of a campaign (R119, R120, R132, R139), and the checks of OPEN_LOOP_CLEAR
(R153). -/

namespace Sys2Proof.Machine

/-! ## CLASS_SET (R120) -/

/-- Settles O32: the body's two branches on the carried class. -/
theorem classSetStoresIntervalAndQuota : Obligations.ClassSetStoresIntervalAndQuota := by
  intro tag p rest s ht hlen interval quota credits
  have hexec : exec (.classSet tag p) s = .next (classSetBody p ⟨0x37, tag⟩ (s.taken rest)) :=
    (hostCommand_takes ht (fun c => fixedLength 4 p c (classSetBody p c))).trans
      (congrArg _ (fixedLength_of_eq hlen _ _ _))
  rw [hexec, classSetBody]
  exact ⟨fun h => congrArg _ (if_pos h), fun h => congrArg _ (if_neg (Nat.not_lt.2 h))⟩

/-! ## The clocks (R119, R139) -/

theorem accrue_of_lt {s : State} {k : Nat} (h : (s.cls k).credits < (s.cls k).quota) :
    s.accrue k = (s.setCls k { s.cls k with timer := 0, credits := (s.cls k).credits + 1 }).startRun := by
  simp [State.accrue, State.startRunIf, h]

theorem accrue_of_le {s : State} {k : Nat} (h : (s.cls k).quota ≤ (s.cls k).credits) :
    s.accrue k = s.setCls k { s.cls k with timer := 0 } := by
  simp [State.accrue, State.startRunIf, Nat.not_lt.2 h]

/-- Settles O34: each event is due, and an accrual has a case for a class below its quota and one at it. -/
theorem clocksStartRuns : Obligations.ClocksStartRuns := by
  refine ⟨fun k s hrun htimer => ?_, fun n s hwait htime => ?_⟩
  · have hdue : s.accrualDue k.val = true := by simp [State.accrualDue, hrun, htimer]
    have hexec : exec (.creditAccrual k) s = .next (s.accrue k.val) :=
      event_true _ s (fun t => t.accrue k.val) hdue
    exact ⟨fun h => hexec.trans (congrArg _ (accrue_of_lt h)), fun h => hexec.trans (congrArg _ (accrue_of_le h))⟩
  · have hdue : s.eligibleDue n.val = true := by simp [State.eligibleDue, hwait, htime]
    exact event_true _ s (fun t => (t.setNode n.val { t.node n.val with waitPending := false }).startRun) hdue

/-! ## PROBE_CIRCUIT (R132) -/

section
variable {s : State} {tag : Tag} {p : List Byte} {rest : List Frame}

theorem exec_probeCircuit (ht : s.Takes 0x38 tag p rest) (hlen : p.length = 3) :
    exec (.probeCircuit tag p) s = .next (probeCircuitBody p ⟨0x38, tag⟩ (s.taken rest)) :=
  (hostCommand_takes ht (fun c => fixedLength 3 p c (probeCircuitBody p c))).trans
    (congrArg _ (fixedLength_of_eq hlen _ _ _))

/-- The checks read nothing of the receive buffer. -/
theorem probeCheck_taken (s : State) (rest : List Frame) (c mode : Nat) :
    probeCheck (s.taken rest) c mode = probeCheck s c mode := rfl

theorem exec_probeCircuit_refused (ht : s.Takes 0x38 tag p rest) (hlen : p.length = 3) {st : Status}
    (h : probeCheck s (rd16 p 0) (rd8 p 2) = some st) :
    exec (.probeCircuit tag p) s = .next (s.answered rest (replyTo 0x38 tag st false [])) := by
  rw [exec_probeCircuit ht hlen, probeCircuitBody, probeCheck_taken, h]
  rfl

theorem exec_probeCircuit_accepted (ht : s.Takes 0x38 tag p rest) (hlen : p.length = 3)
    (h : probeCheck s (rd16 p 0) (rd8 p 2) = none) :
    exec (.probeCircuit tag p) s = .next ((s.taken rest).queueProbe ⟨0x38, tag⟩ (rd16 p 0) (rd8 p 2)) := by
  rw [exec_probeCircuit ht hlen, probeCircuitBody, probeCheck_taken, h]

end

section
variable {s : State} {c mode : Nat}

theorem probeCheck_circuit (h : 2047 < c) : probeCheck s c mode = some .badField := if_pos h

theorem probeCheck_mode (hc : c ≤ 2047) (h : 1 < mode) : probeCheck s c mode = some .badField := by
  simp [probeCheck, Nat.not_lt.2 hc, h]

/-- Behind the checks of the two fields. -/
theorem probeCheck_fields (hc : c ≤ 2047) (hm : mode ≤ 1) : probeCheck s c mode =
    if (s.circuit c).defState ≠ .defined then some .notDefined
    else if (s.circuit c).status ≠ .idle then some .circuitBusy
    else if s.heldNode (s.farNodeOf c) then some .nodeHeld
    else if (s.point (s.circuit c).definition.accessPoint).service = .outOfService then some .pointOut
    else if mode = 1 ∧ s.freeSlot = none then some .queueFull
    else if 8 ≤ s.spot.length then some .queueFull
    else none := by
  rw [probeCheck, if_neg (Nat.not_lt.2 hc), if_neg (Nat.not_lt.2 hm)]

/-- Behind the checks of the circuit and its node. -/
theorem probeCheck_open (hc : c ≤ 2047) (hm : mode ≤ 1) (hdef : (s.circuit c).defState = .defined)
    (hidle : (s.circuit c).status = .idle) (hopen : (s.node (s.circuit c).definition.farNode).state ≠ .held) :
    probeCheck s c mode =
      if (s.point (s.circuit c).definition.accessPoint).service = .outOfService then some .pointOut
      else if mode = 1 ∧ s.freeSlot = none then some .queueFull
      else if 8 ≤ s.spot.length then some .queueFull
      else none := by
  rw [probeCheck_fields hc hm, if_neg (not_not.2 hdef), if_neg (not_not.2 hidle),
    if_neg (fun h => hopen ((heldNode_iff s (s.farNodeOf c)).1 h))]

/-- Behind all checks but those of the queues. -/
theorem probeCheck_reachable (hc : c ≤ 2047) (hm : mode ≤ 1) (hdef : (s.circuit c).defState = .defined)
    (hidle : (s.circuit c).status = .idle) (hopen : (s.node (s.circuit c).definition.farNode).state ≠ .held)
    (hpoint : (s.point (s.circuit c).definition.accessPoint).service = .inService) :
    probeCheck s c mode =
      if mode = 1 ∧ s.freeSlot = none then some .queueFull else if 8 ≤ s.spot.length then some .queueFull else none := by
  rw [probeCheck_open hc hm hdef hidle hopen, if_neg (by rw [hpoint]; decide)]

end

/-- In ACCEPT mode the reply goes out at once. -/
theorem queueProbe_accept (s : State) (cmd : Cmd) (c : Nat) : s.queueProbe cmd c 0 =
    ((s.reply cmd .ok [] false).setStatus c .spot).joinSpot (.probe c none) := rfl

/-- In COMPLETE mode the free slot waits for the reply. -/
theorem queueProbe_complete {s : State} {i : Nat} (h : s.freeSlot = some i) (cmd : Cmd) (c : Nat) : s.queueProbe cmd c 1 =
    ((s.takeSlot i cmd (.spotProbe c)).setStatus c .spot).joinSpot (.probe c (some i)) := by
  simp only [State.queueProbe, if_true, h]

/-- Settles O33: the checks of R132 pass, and each mode has its way to queue the entry. -/
theorem probeQueuesTheEntry : Obligations.ProbeQueuesTheEntry := by
  intro tag p rest s ht hlen c r hc hdef hidle hopen hpoint hroom
  have hcheck (hm : rd8 p 2 ≤ 1) := probeCheck_reachable hc hm hdef hidle hopen hpoint
  rw [if_neg (Nat.not_le.2 hroom)] at hcheck
  refine ⟨fun hmode => ?_, fun hmode i hi hfree hlow => ?_⟩
  · have hpass : probeCheck s (rd16 p 0) (rd8 p 2) = none :=
      (hcheck (by omega)).trans (if_neg (fun h => by omega))
    rw [exec_probeCircuit_accepted ht hlen hpass, hmode, queueProbe_accept]
    rfl
  · have hslot := freeSlot_spec s i hi hfree hlow
    have hpass : probeCheck s (rd16 p 0) (rd8 p 2) = none :=
      (hcheck (by omega)).trans (if_neg (fun h => by simp [hslot] at h))
    rw [exec_probeCircuit_accepted ht hlen hpass, hmode, queueProbe_complete (s := s.taken rest) hslot,
      State.takeSlot, State.setSlot, State.setStatus, State.setCircuit, State.setCircuit]
    rfl

/-- The checks of R132, each behind those before it (R132). -/
theorem probeChecks_inOrder {s : State} {tag : Tag} {p : List Byte} {rest : List Frame} (ht : s.Takes 0x38 tag p rest)
    (hlen : p.length = 3) :
    let c := rd16 p 0
    let r := s.circuit c
    let refused (st : Status) := exec (.probeCircuit tag p) s = .next (s.answered rest (replyTo 0x38 tag st false []))
    let fields := c ≤ 2047 ∧ rd8 p 2 ≤ 1
    let idle := fields ∧ r.defState = .defined ∧ r.status = .idle
    let reachableNode := idle ∧ (s.node r.definition.farNode).state ≠ .held
    let reachable := reachableNode ∧ (s.point r.definition.accessPoint).service = .inService
    (2047 < c → refused .badField) ∧ (c ≤ 2047 → 1 < rd8 p 2 → refused .badField) ∧
    (fields → r.defState ≠ .defined → refused .notDefined) ∧
    (fields → r.defState = .defined → r.status ≠ .idle → refused .circuitBusy) ∧
    (idle → (s.node r.definition.farNode).state = .held → refused .nodeHeld) ∧
    (reachableNode → (s.point r.definition.accessPoint).service = .outOfService → refused .pointOut) ∧
    (reachable → rd8 p 2 = 1 → (∀ i, i < 8 → s.slot i ≠ none) → refused .queueFull) ∧
    (reachable → (rd8 p 2 = 0 ∨ ∃ i, i < 8 ∧ s.slot i = none) → 8 ≤ s.spot.length → refused .queueFull) := by
  intro c r refused fields idle reachableNode reachable
  have hrefuse (st : Status) (h : probeCheck s c (rd8 p 2) = some st) : refused st := exec_probeCircuit_refused ht hlen h
  refine ⟨fun h => hrefuse _ (probeCheck_circuit h), fun hc h => hrefuse _ (probeCheck_mode hc h), ?_, ?_, ?_, ?_, ?_, ?_⟩
  · rintro ⟨hc, hm⟩ hdef
    exact hrefuse _ ((probeCheck_fields hc hm).trans (if_pos hdef))
  · rintro ⟨hc, hm⟩ hdef hbusy
    exact hrefuse _ (by rw [probeCheck_fields hc hm, if_neg (not_not.2 hdef), if_pos hbusy])
  · rintro ⟨⟨hc, hm⟩, hdef, hidle⟩ hheld
    exact hrefuse _ (by rw [probeCheck_fields hc hm, if_neg (not_not.2 hdef), if_neg (not_not.2 hidle),
      if_pos ((heldNode_iff s (s.farNodeOf c)).2 hheld)])
  · rintro ⟨⟨⟨hc, hm⟩, hdef, hidle⟩, hopen⟩ hout
    exact hrefuse _ ((probeCheck_open hc hm hdef hidle hopen).trans (if_pos hout))
  · rintro ⟨⟨⟨⟨hc, hm⟩, hdef, hidle⟩, hopen⟩, hpoint⟩ hmode hfull
    exact hrefuse _ ((probeCheck_reachable hc hm hdef hidle hopen hpoint).trans (if_pos ⟨hmode, freeSlot_none s hfull⟩))
  · rintro ⟨⟨⟨⟨hc, hm⟩, hdef, hidle⟩, hopen⟩, hpoint⟩ - hspot
    refine hrefuse _ ((probeCheck_reachable hc hm hdef hidle hopen hpoint).trans ?_)
    rw [if_pos hspot, ite_self]

/-! ## OPEN_LOOP_CLEAR (R153) -/

theorem exec_openLoopClear_refused {s : State} {tag : Tag} {p : List Byte} {rest : List Frame}
    (ht : s.Takes 0x51 tag p rest) (hlen : p.length = 2) {st : Status} (h : clearCheck s (rd16 p 0) = some st) :
    exec (.openLoopClear tag p) s = .next (s.answered rest (replyTo 0x51 tag st false [])) := by
  have hexec : exec (.openLoopClear tag p) s = .next (openLoopClearBody p ⟨0x51, tag⟩ (s.taken rest)) :=
    (hostCommand_takes ht (fun c => fixedLength 2 p c (openLoopClearBody p c))).trans
      (congrArg _ (fixedLength_of_eq hlen _ _ _))
  have hcheck : clearCheck (s.taken rest) (rd16 p 0) = some st := h
  rw [hexec, openLoopClearBody, hcheck]
  rfl

theorem openLoopOf_eq_none (s : State) (c : Nat) : s.openLoopOf c = none ↔ ∀ o ∈ s.openLoops, o.circuit ≠ c := by
  simp [State.openLoopOf]

/-- The checks of R153, each behind those before it. -/
theorem clearChecks_inOrder {s : State} {tag : Tag} {p : List Byte} {rest : List Frame} (ht : s.Takes 0x51 tag p rest)
    (hlen : p.length = 2) :
    let c := rd16 p 0
    let refused (st : Status) := exec (.openLoopClear tag p) s = .next (s.answered rest (replyTo 0x51 tag st false []))
    (2047 < c → refused .badField) ∧ (c ≤ 2047 → (s.circuit c).status = .active → refused .circuitBusy) ∧
    (c ≤ 2047 → (s.circuit c).status ≠ .active → (∀ o ∈ s.openLoops, o.circuit ≠ c) → refused .notOpen) := by
  intro c refused
  have hrefuse (st : Status) (h : clearCheck s c = some st) : refused st := exec_openLoopClear_refused ht hlen h
  refine ⟨fun h => hrefuse _ (if_pos h), fun hc h => hrefuse _ ?_, fun hc h hnone => hrefuse _ ?_⟩
  · rw [clearCheck, if_neg (Nat.not_lt.2 hc), if_pos h]
  · rw [clearCheck, if_neg (Nat.not_lt.2 hc), if_neg h, if_pos ((openLoopOf_eq_none s c).2 hnone)]

end Sys2Proof.Machine
end


section
/-! SUPPORT. CAMPAIGN_START: the filters of a selection, the length of the payload and the checks of R115 (R115, R116, R181). -/

namespace Sys2Proof.Machine

/-! ## The selection (R116) -/

/-- No window is on, or one that is on holds the number. -/
theorem windows_pass_iff (l : List Window) (c : Nat) : (!l.any Window.on || l.any (fun w => w.admits c)) = true ↔
    (∀ w ∈ l, w.limit < w.base) ∨ ∃ w ∈ l, w.base ≤ c ∧ c ≤ w.limit := by
  have hadmits (w : Window) : w.admits c = true ↔ w.base ≤ c ∧ c ≤ w.limit := by
    simp only [Window.admits, Window.on, Bool.and_eq_true, decide_eq_true_eq]
    omega
  have hoff : (!l.any Window.on) = true ↔ ∀ w ∈ l, w.limit < w.base := by simp [Window.on]
  simp only [Bool.or_eq_true, hoff, List.any_eq_true, hadmits]

/-- Settles O25, test by test. -/
theorem filtersOfAStart : Obligations.FiltersOfAStart := by
  intro x c d
  have hspans : (x.spans.isEmpty || d.segments.any (fun k => x.spans.contains k)) = true ↔
      x.spans = [] ∨ ∃ k ∈ d.segments, k ∈ x.spans := by simp
  have hnodes : (x.nodes.isEmpty || x.nodes.contains d.farNode) = true ↔ x.nodes = [] ∨ d.farNode ∈ x.nodes := by simp
  rw [Selection.passes, Bool.and_eq_true, Bool.and_eq_true, windows_pass_iff, hspans, hnodes, and_assoc]

/-- A DEFINED circuit that passes the filters. -/
def State.passing (s : State) (x : Selection) (c : Nat) : Bool :=
  (s.circuit c).defState == .defined && x.passes c (s.circuit c).definition

def State.picks (s : State) (x : Selection) (c : Nat) : Bool := s.passing x c && (s.circuit c).status == .idle

theorem filtered_eq (s : State) (x : Selection) : s.filtered x = (List.range 2048).filter (s.passing x) := by
  have htable : s.circuits.toList.zipIdx = (List.range 2048).map (fun c => (s.circuit c, c)) := by
    refine List.ext_getElem (by simp) (fun c hc _ => ?_)
    have hc : c < 2048 := by simpa using hc
    simp [State.circuit, hc]
  rw [State.filtered, htable, List.filter_map, List.map_map]
  exact List.map_id _

theorem picked_eq (s : State) (x : Selection) : s.picked x = (List.range 2048).filter (s.picks x) := by
  rw [State.picked, filtered_eq, List.filter_filter]
  exact List.filter_congr (fun c _ => Bool.and_comm _ _)

/-- Outside the table a record is VACANT and passes no filter. -/
theorem lt_of_picks {s : State} {x : Selection} {c : Nat} (h : s.picks x c = true) : c < 2048 := by
  by_contra hc
  simp [State.picks, State.passing, circuit_of_le s c (Nat.le_of_not_lt hc), Circuit.vacant] at h

theorem mem_picked (s : State) (x : Selection) (c : Nat) : c ∈ s.picked x ↔ s.picks x c = true := by
  rw [picked_eq, List.mem_filter, List.mem_range]
  exact ⟨fun h => h.2, fun h => ⟨lt_of_picks h, h⟩⟩

/-! ## The length of the payload (R181) -/

theorem startLengthOk_iff {p : List Byte} (h : 42 ≤ p.length) : startLengthOk p = true ↔
    16 < rd8 p 41 ∨ (43 + 2 * rd8 p 41 ≤ p.length ∧
      (64 < rd8 p (42 + 2 * rd8 p 41) ∨ p.length = 43 + 2 * rd8 p 41 + rd8 p (42 + 2 * rd8 p 41))) := by
  have hcounts : startLengthOk p = true ↔ 16 < spanCount p ∨ (43 + 2 * spanCount p ≤ p.length ∧
      (64 < nodeCount p ∨ p.length = 43 + 2 * spanCount p + nodeCount p)) := by simp [startLengthOk, h]
  exact hcounts

/-! ## The checks (R115) -/

theorem campaignKindOf_eq_none (n : Nat) : campaignKindOf n = none ↔ 1 < n := by
  match n with
  | 0 | 1 => simp [campaignKindOf]
  | n + 2 => simp [campaignKindOf]

theorem noticeModeOf_eq_none (n : Nat) : noticeModeOf n = none ↔ 2 < n := by
  match n with
  | 0 | 1 | 2 => simp [noticeModeOf]
  | n + 3 => simp [noticeModeOf]

/-- Checks 4 to 6, field by field. -/
theorem selectionSound_iff (p : List Byte) : selectionSound p = true ↔
    (∀ i, i < 4 → rd16 p (25 + 4 * i) ≤ 2047 ∧ rd16 p (27 + 4 * i) ≤ 2047) ∧
    (rd8 p 41 ≤ 16 ∧ ∀ i, i < rd8 p 41 → rd16 p (42 + 2 * i) ≤ 511) ∧
    (rd8 p (42 + 2 * rd8 p 41) ≤ 64 ∧
      ∀ i, i < rd8 p (42 + 2 * rd8 p 41) → rd8 p (43 + 2 * rd8 p 41 + i) ≤ 63) := by
  have hcounts : selectionSound p = true ↔
      (∀ i, i < 4 → rd16 p (25 + 4 * i) ≤ 2047 ∧ rd16 p (27 + 4 * i) ≤ 2047) ∧
      (spanCount p ≤ 16 ∧ ∀ i, i < spanCount p → rd16 p (42 + 2 * i) ≤ 511) ∧
      (nodeCount p ≤ 64 ∧ ∀ i, i < nodeCount p → rd8 p (43 + 2 * spanCount p + i) ≤ 63) := by
    simp only [selectionSound, carriedSelection, List.all_map, List.all_eq_true, List.mem_range, Function.comp_apply,
      Bool.and_eq_true, decide_eq_true_eq, and_assoc]
  exact hcounts

theorem enabled_iff (g : Engine) : g.enabled = true ↔ g.state ≠ .offline ∧ g.disablePending = false := by
  simp [Engine.enabled]

/-- Check 7: an engine is enabled, and where a WIDE circuit is picked a pair is. -/
theorem enginesFor_iff (s : State) (x : Selection) : s.enginesFor x = true ↔
    (∃ e, e < 16 ∧ (s.engine e).enabled = true) ∧
    ((∀ c, s.picks x c = true → (s.circuit c).definition.rate = .base) ∨
      ∃ b, b < 8 ∧ (s.engine (2 * b)).enabled = true ∧ (s.engine (2 * b + 1)).enabled = true) := by
  have hone : s.engines.toList.any Engine.enabled = true ↔ ∃ e, e < 16 ∧ (s.engine e).enabled = true := by
    rw [engines_toList]
    simp
  have hwide : (!(s.picked x).any (fun c => (s.circuit c).definition.rate == .wide)) = true ↔
      ∀ c, s.picks x c = true → (s.circuit c).definition.rate = .base := by
    simp only [Bool.not_eq_true', List.any_eq_false, mem_picked, beq_iff_eq]
    exact forall₂_congr (fun c _ => by cases (s.circuit c).definition.rate <;> decide)
  have hpair : (List.range 8).any (fun b => (s.engine (2 * b)).enabled && (s.engine (2 * b + 1)).enabled) = true ↔
      ∃ b, b < 8 ∧ (s.engine (2 * b)).enabled = true ∧ (s.engine (2 * b + 1)).enabled = true := by
    simp only [List.any_eq_true, List.mem_range, Bool.and_eq_true]
  rw [State.enginesFor, Bool.and_eq_true, Bool.or_eq_true, hone, hwide, hpair]

section
variable {s : State} {p : List Byte}

/-- Behind the checks of the campaign's state, the kind and the notice mode. -/
theorem startCheck_fields (hidle : s.campaign.state = .idle) (hkind : rd8 p 0 ≤ 1) (hmode : rd8 p 20 ≤ 2) : startCheck s p =
    if !selectionSound p then some .badField
    else if !s.enginesFor (carriedSelection p) then some .noEngines
    else none := by
  rw [startCheck, if_neg (not_not.2 hidle), if_neg (fun h => Nat.not_lt.2 hkind ((campaignKindOf_eq_none _).1 h)),
    if_neg (fun h => Nat.not_lt.2 hmode ((noticeModeOf_eq_none _).1 h))]

theorem startCheck_busy (h : s.campaign.state ≠ .idle) : startCheck s p = some .campaignBusy := if_pos h

theorem startCheck_kind (hidle : s.campaign.state = .idle) (h : 1 < rd8 p 0) : startCheck s p = some .badField := by
  rw [startCheck, if_neg (not_not.2 hidle), if_pos ((campaignKindOf_eq_none _).2 h)]

theorem startCheck_mode (hidle : s.campaign.state = .idle) (hkind : rd8 p 0 ≤ 1) (h : 2 < rd8 p 20) :
    startCheck s p = some .badField := by
  rw [startCheck, if_neg (not_not.2 hidle), if_neg (fun h => Nat.not_lt.2 hkind ((campaignKindOf_eq_none _).1 h)),
    if_pos ((noticeModeOf_eq_none _).2 h)]

end

/-! ## A start that is refused -/

section
variable {s : State} {tag : Tag} {p : List Byte} {rest : List Frame}

theorem exec_campaignStart (ht : s.Takes 0x30 tag p rest) :
    exec (.campaignStart tag p) s = .next (campaignStartBody p ⟨0x30, tag⟩ (s.taken rest)) :=
  hostCommand_takes ht (campaignStartBody p)

theorem exec_campaignStart_badLength (ht : s.Takes 0x30 tag p rest) (h : startLengthOk p = false) :
    exec (.campaignStart tag p) s = .next (s.answered rest (replyTo 0x30 tag .badLength false [])) := by
  rw [exec_campaignStart ht, campaignStartBody, h]
  rfl

theorem exec_campaignStart_refused (ht : s.Takes 0x30 tag p rest) (hlen : startLengthOk p = true) {st : Status}
    (h : startCheck s p = some st) :
    exec (.campaignStart tag p) s = .next (s.answered rest (replyTo 0x30 tag st false [])) := by
  have hcheck : startCheck (s.taken rest) p = some st := h
  rw [exec_campaignStart ht, campaignStartBody, hlen, hcheck]
  rfl

/-- The checks of R115 behind the length of R181, each behind those before it. -/
theorem startChecks_inOrder (ht : s.Takes 0x30 tag p rest) (h42 : 42 ≤ p.length) :
    let spans := rd8 p 41
    let nodes := rd8 p (42 + 2 * spans)
    let refused (st : Status) := exec (.campaignStart tag p) s = .next (s.answered rest (replyTo 0x30 tag st false []))
    let windowsFit := ∀ i, i < 4 → rd16 p (25 + 4 * i) ≤ 2047 ∧ rd16 p (27 + 4 * i) ≤ 2047
    let spansFit := spans ≤ 16 ∧ ∀ i, i < spans → rd16 p (42 + 2 * i) ≤ 511
    let nodesFit := nodes ≤ 64 ∧ ∀ i, i < nodes → rd8 p (43 + 2 * spans + i) ≤ 63
    let enabled (e : Nat) : Prop := (s.engine e).state ≠ .offline ∧ (s.engine e).disablePending = false
    let wideWork := ∃ c, (s.circuit c).defState = .defined ∧ (s.circuit c).status = .idle ∧
      (carriedSelection p).passes c (s.circuit c).definition = true ∧ (s.circuit c).definition.rate = .wide
    let busy := s.campaign.state ≠ .idle
    (16 < spans ∨ (43 + 2 * spans ≤ p.length ∧ (64 < nodes ∨ p.length = 43 + 2 * spans + nodes)) →
      (busy → refused .campaignBusy) ∧ (¬busy → 1 < rd8 p 0 → refused .badField) ∧
      (¬busy → rd8 p 0 ≤ 1 → 2 < rd8 p 20 → refused .badField) ∧
      (¬busy → rd8 p 0 ≤ 1 → rd8 p 20 ≤ 2 → ¬(windowsFit ∧ spansFit ∧ nodesFit) → refused .badField) ∧
      (¬busy → rd8 p 0 ≤ 1 → rd8 p 20 ≤ 2 → windowsFit → spansFit → nodesFit →
        ((∀ e, e < 16 → ¬enabled e) ∨ (wideWork ∧ ∀ b, b < 8 → ¬(enabled (2 * b) ∧ enabled (2 * b + 1)))) →
        refused .noEngines)) ∧
    (spans ≤ 16 → (p.length < 43 + 2 * spans ∨ (nodes ≤ 64 ∧ p.length ≠ 43 + 2 * spans + nodes)) →
      refused .badLength) := by
  intro spans nodes refused windowsFit spansFit nodesFit enabled wideWork busy
  have hlength := startLengthOk_iff h42
  refine ⟨fun hlen => ?_, fun hspans hbad => exec_campaignStart_badLength ht ?_⟩
  · have hrefuse (st : Status) (h : startCheck s p = some st) : refused st :=
      exec_campaignStart_refused ht (hlength.2 hlen) h
    refine ⟨fun h => hrefuse _ (startCheck_busy h), fun hidle h => hrefuse _ (startCheck_kind (not_not.1 hidle) h),
      fun hidle hkind h => hrefuse _ (startCheck_mode (not_not.1 hidle) hkind h),
      fun hidle hkind hmode h => hrefuse _ ?_, fun hidle hkind hmode hw hs hn h => hrefuse _ ?_⟩
    · have hunsound : selectionSound p = false := Bool.not_eq_true _ ▸ mt (selectionSound_iff p).1 h
      rw [startCheck_fields (not_not.1 hidle) hkind hmode, hunsound]
      rfl
    · have hsound : selectionSound p = true := (selectionSound_iff p).2 ⟨hw, hs, hn⟩
      have hnone : s.enginesFor (carriedSelection p) = false := by
        rw [← Bool.not_eq_true, enginesFor_iff]
        simp only [enabled_iff]
        rintro ⟨⟨e, he, hon⟩, hpair⟩
        rcases h with hoff | ⟨⟨c, hdef, hstatus, hpass, hrate⟩, hpairs⟩
        · exact hoff e he hon
        · rcases hpair with hbase | ⟨b, hb, hboth⟩
          · have hpicks : s.picks (carriedSelection p) c = true := by simp [State.picks, State.passing, hdef, hstatus, hpass]
            rw [hbase c hpicks] at hrate
            cases hrate
          · exact hpairs b hb hboth
      rw [startCheck_fields (not_not.1 hidle) hkind hmode, hsound, hnone]
      rfl
  · rw [← Bool.not_eq_true, hlength]
    change ¬(16 < spans ∨ (43 + 2 * spans ≤ p.length ∧ (64 < nodes ∨ p.length = 43 + 2 * spans + nodes)))
    omega

end

/-- Settles O41, command by command. -/
theorem checksAreMadeInOrder : Obligations.ChecksAreMadeInOrder :=
  fun _ _ _ _ => ⟨startChecks_inOrder, probeChecks_inOrder, clearChecks_inOrder⟩

end Sys2Proof.Machine
end


section
/-! SUPPORT. O26: an accepted CAMPAIGN_START queues the picked circuits (R112, R113, R116, R117). -/

namespace Sys2Proof.Machine

/-! ## The counts of a start (R117) -/

/-- A picked circuit whose far node is not HELD. -/
def State.queues (s : State) (x : Selection) (c : Nat) : Bool := s.picks x c && !s.heldNode (s.farNodeOf c)

/-- A circuit that passes the filters and is busy elsewhere. -/
def State.excludes (s : State) (x : Selection) (c : Nat) : Bool :=
  s.passing x c && ((s.circuit c).status == .spot || (s.circuit c).status == .active || (s.circuit c).status == .openLoop)

theorem toQueue_eq (s : State) (x : Selection) : s.toQueue x = (List.range 2048).filter (s.queues x) := by
  rw [State.toQueue, picked_eq, List.filter_filter]
  exact List.filter_congr (fun c _ => Bool.and_comm _ _)

theorem length_picked (s : State) (x : Selection) : (s.picked x).length = (List.range 2048).countP (s.picks x) := by
  rw [picked_eq, List.countP_eq_length_filter]

theorem length_excludedBy (s : State) (x : Selection) :
    (s.excludedBy x).length = (List.range 2048).countP (s.excludes x) := by
  rw [State.excludedBy, filtered_eq, List.filter_filter, List.countP_eq_length_filter]
  refine congrArg List.length (List.filter_congr (fun c _ => ?_))
  rw [State.excludes, Bool.and_comm]
  cases (s.circuit c).status <;> rfl

/-- What is picked and not queued is held. -/
theorem length_picked_sub_toQueue (s : State) (x : Selection) : (s.picked x).length - (s.toQueue x).length =
    (List.range 2048).countP (fun c => s.picks x c && s.heldNode (s.farNodeOf c)) := by
  have hsplit := List.countP_eq_countP_filter_add (List.range 2048) (s.picks x) (fun c => s.heldNode (s.farNodeOf c))
  rw [List.countP_filter, List.countP_filter] at hsplit
  rw [length_picked, toQueue_eq, ← List.countP_eq_length_filter, hsplit]
  exact Nat.add_sub_cancel _ _

/-! ## The queues of a start -/

@[simp] theorem queueCircuit_frame (s : State) (c : Nat) :
    (s.queueCircuit c).now = s.now ∧ (s.queueCircuit c).engines = s.engines ∧ (s.queueCircuit c).points = s.points ∧
    (s.queueCircuit c).nodes = s.nodes ∧ (s.queueCircuit c).campaign = s.campaign ∧ (s.queueCircuit c).spot = s.spot ∧
    (s.queueCircuit c).openLoops = s.openLoops ∧ (s.queueCircuit c).amc = s.amc ∧ (s.queueCircuit c).mli = s.mli ∧
    (s.queueCircuit c).runDue = s.runDue :=
  ⟨rfl, rfl, rfl, rfl, rfl, rfl, rfl, rfl, rfl, rfl⟩

theorem circuit_queueCircuit (s : State) {c : Nat} (d : Nat) (hc : c < 2048) :
    (s.queueCircuit c).circuit d = if c = d then { s.circuit d with status := .queued } else s.circuit d := by
  have hset : (s.queueCircuit c).circuit d = (s.setStatus c .queued).circuit d := rfl
  rw [hset, circuit_setStatus]
  by_cases hd : c = d
  · rw [if_pos ⟨hd, hc⟩, if_pos hd, hd]
  · rw [if_neg (fun h => hd h.1), if_neg hd]

theorem cls_queueCircuit (s : State) (c : Nat) {k : Nat} (hk : k < 4) : (s.queueCircuit c).cls k =
    { s.cls k with queue := (s.cls k).queue ++ if (s.circuit c).definition.pacingClass = k then [c] else [] } := by
  rw [State.queueCircuit, State.enqueue, cls_setCls]
  by_cases h : (s.circuit c).definition.pacingClass = k
  · rw [if_pos ⟨h, h ▸ hk⟩, if_pos h, h]
    rfl
  · rw [if_neg (fun hh => h hh.1), if_neg h, List.append_nil]
    rfl

theorem queueAll_frame (l : List Nat) (s : State) :
    let t := l.foldl State.queueCircuit s
    t.now = s.now ∧ t.engines = s.engines ∧ t.points = s.points ∧ t.nodes = s.nodes ∧ t.campaign = s.campaign ∧
    t.spot = s.spot ∧ t.openLoops = s.openLoops ∧ t.amc = s.amc ∧ t.mli = s.mli ∧ t.runDue = s.runDue := by
  have hkeeps {α : Type} (f : State → α) (hf : ∀ s c, f (State.queueCircuit s c) = f s) :
      f (l.foldl State.queueCircuit s) = f s := foldl_keeps _ f hf l s
  exact ⟨hkeeps State.now (fun _ _ => rfl), hkeeps State.engines (fun _ _ => rfl), hkeeps State.points (fun _ _ => rfl),
    hkeeps State.nodes (fun _ _ => rfl), hkeeps State.campaign (fun _ _ => rfl), hkeeps State.spot (fun _ _ => rfl),
    hkeeps State.openLoops (fun _ _ => rfl), hkeeps State.amc (fun _ _ => rfl), hkeeps State.mli (fun _ _ => rfl),
    hkeeps State.runDue (fun _ _ => rfl)⟩

theorem circuit_queueAll {l : List Nat} (hl : ∀ c ∈ l, c < 2048) (s : State) (d : Nat) :
    (l.foldl State.queueCircuit s).circuit d = if d ∈ l then { s.circuit d with status := .queued } else s.circuit d := by
  induction l generalizing s with
  | nil => simp
  | cons c rest ih =>
    obtain ⟨hc, hrest⟩ := List.forall_mem_cons.1 hl
    rw [List.foldl_cons, ih hrest, circuit_queueCircuit s d hc]
    by_cases hd : c = d
    · simp [hd]
    · simp [hd, Ne.symm hd]

/-- Each circuit joins the tail of its class queue, in the order of the list (R118). -/
theorem cls_queueAll {l : List Nat} (hl : ∀ c ∈ l, c < 2048) (s : State) {k : Nat} (hk : k < 4) :
    (l.foldl State.queueCircuit s).cls k = { s.cls k with
      queue := (s.cls k).queue ++ l.filter (fun c => (s.circuit c).definition.pacingClass == k) } := by
  induction l generalizing s with
  | nil => simp
  | cons c rest ih =>
    obtain ⟨hc, hrest⟩ := List.forall_mem_cons.1 hl
    have hdef (d : Nat) : ((s.queueCircuit c).circuit d).definition = (s.circuit d).definition := by
      rw [circuit_queueCircuit s d hc]
      split <;> rfl
    rw [List.foldl_cons, ih hrest, cls_queueCircuit s c hk]
    simp only [hdef, List.filter_cons, beq_iff_eq]
    split <;> simp

/-! ## The accepted start (R117) -/

section
variable (c : Cmd) (kind : CampaignKind) (carried : Params) (x : Selection) (s : State)

def State.startReply : State :=
  s.reply c .ok (be16 s.campaign.nextNumber ++ be16 (s.picked x).length ++ be16 (s.excludedBy x).length ++
    be16 ((s.picked x).length - (s.toQueue x).length)) (decide (carried ≠ carried.limited))

/-- The campaign's record after steps 1 to 4, the deadline with it. -/
def State.startRecord : Campaign :=
  { s.campaign.started kind carried.limited x (s.picked x).length (s.excludedBy x).length
      ((s.picked x).length - (s.toQueue x).length) with
    deadline := if carried.limited.deadline = 0 then none else some (s.now + 1000 * carried.limited.deadline) }

/-- The start with its queues and credits filled, before its end may come. -/
def State.startFilled : State :=
  (((s.toQueue x).foldl State.queueCircuit ((s.startReply c carried x).modCampaign (fun k =>
    k.started kind carried.limited x (s.picked x).length (s.excludedBy x).length
      ((s.picked x).length - (s.toQueue x).length)))).fillCredits).modCampaign (fun k =>
    { k with deadline := if carried.limited.deadline = 0 then none else some (s.now + 1000 * carried.limited.deadline) })

theorem carryStart_eq : carryStart c kind carried x s = (if (s.toQueue x).isEmpty then
    (s.startFilled c kind carried x).endCampaign else s.startFilled c kind carried x).startRun := rfl

theorem startFilled_frame :
    let t := s.startFilled c kind carried x
    t.engines = s.engines ∧ t.points = s.points ∧ t.nodes = s.nodes ∧ t.spot = s.spot ∧ t.openLoops = s.openLoops ∧
    t.amc = s.amc ∧ t.mli = (s.startReply c carried x).mli ∧ t.campaign = s.startRecord kind carried x := by
  obtain ⟨-, he, hp, hn, hk, hs, hl, ha, hm, -⟩ := queueAll_frame (s.toQueue x) ((s.startReply c carried x).modCampaign
    (fun k => k.started kind carried.limited x (s.picked x).length (s.excludedBy x).length
      ((s.picked x).length - (s.toQueue x).length)))
  have hrecord := congrArg (fun k : Campaign => { k with
    deadline := if carried.limited.deadline = 0 then none else some (s.now + 1000 * carried.limited.deadline) }) hk
  rw [State.startFilled, State.modCampaign, State.fillCredits]
  exact ⟨he, hp, hn, hs, hl, ha, hm, hrecord⟩

theorem lt_of_toQueue {s : State} {x : Selection} {d : Nat} (h : d ∈ s.toQueue x) : d < 2048 := by
  obtain ⟨hlt, -⟩ := queueable_of_toQueue h
  exact hlt

theorem circuit_startFilled (d : Nat) : (s.startFilled c kind carried x).circuit d =
    if d ∈ s.toQueue x then { s.circuit d with status := .queued } else s.circuit d :=
  circuit_queueAll (fun _ h => lt_of_toQueue h) _ d

theorem cls_startFilled {k : Nat} (hk : k < 4) : (s.startFilled c kind carried x).cls k = { s.cls k with
    queue := (s.cls k).queue ++ (s.toQueue x).filter (fun d => (s.circuit d).definition.pacingClass == k)
    credits := (s.cls k).quota, timer := 0 } := by
  have hfill (u : State) : u.fillCredits.cls k = { u.cls k with credits := (u.cls k).quota, timer := 0 } := by
    simp [State.fillCredits, State.cls, hk]
  rw [State.startFilled, modCampaign_cls, hfill, cls_queueAll (fun _ h => lt_of_toQueue h) _ hk]
  rfl

/-- What a start leaves alone, and what it writes whether or not it ends at once. -/
theorem carryStart_common :
    let t := carryStart c kind carried x s
    t.engines = s.engines ∧ t.points = s.points ∧ t.nodes = s.nodes ∧ t.spot = s.spot ∧ t.openLoops = s.openLoops ∧
    t.amc = s.amc ∧ t.mli.rxBuffer = s.mli.rxBuffer ∧ (s.startReply c carried x).mli.tx <+: t.mli.tx ∧
    (∀ d, t.circuit d = (s.startFilled c kind carried x).circuit d) ∧
    (∀ k, (t.cls k).queue = ((s.startFilled c kind carried x).cls k).queue) ∧
    t.campaign = { s.startRecord kind carried x with
      state := t.campaign.state, endCause := t.campaign.endCause, deadline := t.campaign.deadline } := by
  obtain ⟨he, hp, hn, hs, hl, ha, hm, hk⟩ := startFilled_frame c kind carried x s
  rw [carryStart_eq]
  split
  · have hends := cls_endCampaign (s.startFilled c kind carried x)
    refine ⟨by simp [he], by simp [hp], by simp [hn], by simp [hs], by simp [hl], by simp [ha], ?_, ?_,
      circuit_congr (by simp), fun k => by rw [startRun_cls, hends], ?_⟩
    · rw [startRun_mli, rxBuffer_endCampaign, hm]
      rfl
    · rw [startRun_mli, tx_endCampaign, hm]
      split
      · exact List.prefix_append _ _
      · exact List.prefix_rfl
    · rw [startRun_campaign, campaign_endCampaign, hk]
  · refine ⟨he, hp, hn, hs, hl, ha, ?_, ?_, fun _ => rfl, fun _ => rfl, ?_⟩
    · rw [startRun_mli, hm]
      rfl
    · rw [startRun_mli, hm]
    · rw [startRun_campaign, hk]

theorem carryStart_of_some (h : s.toQueue x ≠ []) :
    carryStart c kind carried x s = (s.startFilled c kind carried x).startRun := by
  rw [carryStart_eq, if_neg (fun he => h (List.isEmpty_iff.1 he))]

theorem carryStart_of_none (h : s.toQueue x = []) :
    carryStart c kind carried x s = (s.startFilled c kind carried x).endCampaign.startRun := by
  rw [carryStart_eq, if_pos (List.isEmpty_iff.2 h)]

end

theorem exec_campaignStart_accepted {s : State} {tag : Tag} {p : List Byte} {rest : List Frame} {kind : CampaignKind}
    {mode : NoticeMode} (ht : s.Takes 0x30 tag p rest) (hlen : startLengthOk p = true) (hcheck : startCheck s p = none)
    (hkind : campaignKindOf (rd8 p 0) = some kind) (hmode : noticeModeOf (rd8 p 20) = some mode) :
    exec (.campaignStart tag p) s =
      .next (carryStart ⟨0x30, tag⟩ kind (carriedParams p mode) (carriedSelection p) (s.taken rest)) := by
  have hcheck' : startCheck (s.taken rest) p = none := hcheck
  rw [exec_campaignStart ht, campaignStartBody, hlen, hcheck', hkind, hmode]
  rfl

/-! ## What an accepted start leaves -/

section
variable (c : Cmd) (kind : CampaignKind) (carried : Params) (x : Selection) (s : State)

/-- A start that queues a circuit is RUNNING, its credits at their quotas and its deadline armed. -/
theorem carryStart_running (h : s.toQueue x ≠ []) :
    let t := carryStart c kind carried x s
    t.campaign.state = .running ∧ t.campaign.endCause = .none ∧
    (∀ k, k < 4 → (t.cls k).credits = (s.cls k).quota ∧ (t.cls k).timer = 0) ∧
    t.campaign.deadline = (if carried.limited.deadline = 0 then none else some (s.now + 1000 * carried.limited.deadline)) := by
  obtain ⟨-, -, -, -, -, -, -, hk⟩ := startFilled_frame c kind carried x s
  rw [carryStart_of_some c kind carried x s h]
  simp only [startRun_campaign, startRun_cls, hk]
  exact ⟨rfl, rfl, fun k hk => by simp [cls_startFilled c kind carried x s hk], rfl⟩

/-- A start that queues nothing ends at once (R127). -/
theorem carryStart_completed (h : s.toQueue x = []) :
    let t := carryStart c kind carried x s
    t.campaign.state = .idle ∧ t.campaign.endCause = .completed ∧ t.campaign.deadline = none ∧
    ∀ k, (t.cls k).credits = 0 ∧ (t.cls k).timer = 0 := by
  obtain ⟨-, -, -, -, -, -, -, hk⟩ := startFilled_frame c kind carried x s
  rw [carryStart_of_none c kind carried x s h]
  simp [campaign_endCampaign, cls_endCampaign, hk, State.startRecord, Campaign.started]

theorem queue_carryStart {k : Nat} (hk : k < 4) : ((carryStart c kind carried x s).cls k).queue = (s.cls k).queue ++
    (List.range 2048).filter (fun d => s.queues x d && (s.circuit d).definition.pacingClass == k) := by
  obtain ⟨-, -, -, -, -, -, -, -, -, hqueue, -⟩ := carryStart_common c kind carried x s
  rw [hqueue, cls_startFilled c kind carried x s hk, toQueue_eq, List.filter_filter]
  exact congrArg _ (List.filter_congr (fun _ _ => Bool.and_comm _ _))

theorem circuit_carryStart {d : Nat} (hd : d < 2048) : (carryStart c kind carried x s).circuit d =
    if s.queues x d then { s.circuit d with status := .queued } else s.circuit d := by
  obtain ⟨-, -, -, -, -, -, -, -, hcircuit, -⟩ := carryStart_common c kind carried x s
  have hmem : d ∈ s.toQueue x ↔ s.queues x d = true := by
    rw [toQueue_eq, List.mem_filter, List.mem_range, and_iff_right hd]
  rw [hcircuit, circuit_startFilled]
  simp only [hmem]

theorem any_queues_iff : (List.range 2048).any (s.queues x) = true ↔ s.toQueue x ≠ [] := by
  rw [toQueue_eq, Ne, List.filter_eq_nil_iff, List.any_eq_true]
  push Not
  rfl

/-- The reply stands behind what the transmit queue held, and the end notice may follow it. -/
theorem tx_carryStart : ∃ more, (carryStart c kind carried x s).mli.tx = s.mli.tx ++
    replyTo c.code c.tag .ok (decide (carried ≠ carried.limited)) (be16 s.campaign.nextNumber ++
      be16 ((List.range 2048).countP (s.picks x)) ++ be16 ((List.range 2048).countP (s.excludes x)) ++
      be16 ((List.range 2048).countP (fun c => s.picks x c && s.heldNode (s.farNodeOf c)))) :: more := by
  obtain ⟨-, -, -, -, -, -, -, ⟨more, htx⟩, -⟩ := carryStart_common c kind carried x s
  refine ⟨more, ?_⟩
  rw [← htx, ← length_picked_sub_toQueue, ← length_picked, ← length_excludedBy]
  exact List.append_assoc _ _ _

end

/-- The checks of R115 that O26 names, field by field. -/
theorem startCheck_eq_none {s : State} {p : List Byte} (hidle : s.campaign.state = .idle) (hkind : rd8 p 0 ≤ 1)
    (hmode : rd8 p 20 ≤ 2) (hsound : selectionSound p = true) (hengines : s.enginesFor (carriedSelection p) = true) :
    startCheck s p = none := by
  rw [startCheck_fields hidle hkind hmode, hsound, hengines]
  rfl

/-- Settles O26: the checks pass, and the start is the one of R117. -/
theorem startQueuesThePickedCircuits : Obligations.StartQueuesThePickedCircuits := by
  intro tag p kind mode rest s ht spans nodes chosen enabled passing picked excluded held queued all hlength hidle hkinds
    hmodes hwindows hspans hspanNumbers hnodes hnodeNumbers hone hwide carried confirm lossFail stored
  have hlen : startLengthOk p = true := by
    refine (startLengthOk_iff (by omega)).2 (Or.inr ⟨?_, Or.inr hlength⟩)
    exact hlength ▸ Nat.le_add_right _ _
  have hkind : rd8 p 0 ≤ 1 ∧ campaignKindOf (rd8 p 0) = some kind := by
    rcases hkinds with ⟨h, rfl⟩ | ⟨h, rfl⟩ <;> rw [h] <;> decide
  have hmode : rd8 p 20 ≤ 2 ∧ noticeModeOf (rd8 p 20) = some mode := by
    rcases hmodes with ⟨h, rfl⟩ | ⟨h, rfl⟩ | ⟨h, rfl⟩ <;> rw [h] <;> decide
  have hsound : selectionSound p = true :=
    (selectionSound_iff p).2 ⟨hwindows, ⟨hspans, hspanNumbers⟩, hnodes, hnodeNumbers⟩
  have hengines : s.enginesFor chosen = true := by
    rw [enginesFor_iff]
    simp only [enabled_iff]
    exact ⟨hone, hwide⟩
  have hcheck := startCheck_eq_none hidle hkind.1 hmode.1 hsound hengines
  obtain ⟨hes, hps, hns, hspot, hloops, hamc, hrx, -, -, -, hrecord⟩ :=
    carryStart_common ⟨0x30, tag⟩ kind carried chosen (s.taken rest)
  have hsummary {α : Type} (f : Summary → α) := congrArg (fun k => f (Campaign.summary k)) hrecord
  have hany := any_queues_iff chosen (s.taken rest)
  refine ⟨carryStart ⟨0x30, tag⟩ kind carried chosen (s.taken rest),
    exec_campaignStart_accepted ht hlen hcheck hkind.2 hmode.2, ?_⟩
  refine ⟨congrArg Campaign.number hrecord, congrArg Campaign.nextNumber hrecord, congrArg Campaign.kind hrecord,
    congrArg Campaign.params hrecord, rfl, rfl, rfl, congrArg Campaign.selection hrecord, congrArg Campaign.inFlight hrecord,
    (hsummary Summary.selected).trans (length_picked _ _), (hsummary Summary.excluded).trans (length_excludedBy _ _),
    hsummary Summary.added, hsummary Summary.duplicates, hsummary Summary.launched,
    (hsummary (fun m => m.notTested[0])).trans (length_picked_sub_toQueue _ _),
    fun k hk => queue_carryStart _ _ _ _ _ hk, fun c hc => circuit_carryStart _ _ _ _ _ hc, rfl,
    fun h => carryStart_running _ _ _ _ _ (hany.1 h), fun h => ?_, tx_carryStart _ _ _ _ _, rfl, rfl, rfl, rfl, rfl, rfl, rfl,
    hrx, hes, hps, hns, hspot, hloops, hamc⟩
  · have hnone : (s.taken rest).toQueue chosen = [] := by
      by_contra hsome
      exact Bool.false_ne_true (h.symm.trans (hany.2 hsome))
    obtain ⟨hstate, hcause, hdeadline, hcls⟩ := carryStart_completed ⟨0x30, tag⟩ kind carried chosen (s.taken rest) hnone
    exact ⟨hstate, hcause, hdeadline, fun k _ => hcls k⟩

end Sys2Proof.Machine
end


section
/-! SUPPORT. CAMPAIGN_ADD: the order of its checks and what each number does (R122, R181). -/

namespace Sys2Proof.Machine

/-! ## The payload (R122, R181) -/

theorem addLengthOk_iff (p : List Byte) : addLengthOk p = true ↔
    p ≠ [] ∧ (rd8 p 0 = 0 ∨ 32 < rd8 p 0 ∨ p.length = 1 + 2 * rd8 p 0) := by
  simp [addLengthOk, Nat.one_le_iff_ne_zero, or_assoc]

theorem addNumbers_any_iff (p : List Byte) : (addNumbers p).any (fun n => 2047 < n) = true ↔
    ¬∀ i, i < rd8 p 0 → rd16 p (1 + 2 * i) ≤ 2047 := by
  simp [addNumbers]

/-! ## The dispositions -/

/-- Taking a number neither reads nor writes the receive buffer. -/
theorem addOne_taken (s : State) (rest : List Frame) (c : Nat) : (s.taken rest).addOne c = (s.addOne c).taken rest := by
  by_cases h : s.disposition c = .appended
  · rw [State.addOne, State.addOne, if_pos h, if_pos (show (s.taken rest).disposition c = .appended from h)]
    rfl
  · rw [State.addOne, State.addOne, if_neg h, if_neg (show ¬(s.taken rest).disposition c = .appended from h)]
    rfl

theorem dispositions_taken (l : List Nat) (s : State) (rest : List Frame) :
    State.dispositions l (s.taken rest) = State.dispositions l s := by
  induction l generalizing s with
  | nil => rfl
  | cons c l ih =>
    rw [State.dispositions, State.dispositions, addOne_taken, ih]
    rfl

@[simp] theorem length_dispositions (l : List Nat) (s : State) : (State.dispositions l s).length = l.length := by
  induction l generalizing s with
  | nil => rfl
  | cons c l ih => rw [State.dispositions, List.length_cons, List.length_cons, ih]

/-! ## The command -/

section
variable {s : State} {tag : Tag} {p : List Byte} {rest : List Frame}

theorem exec_campaignAdd (ht : s.Takes 0x31 tag p rest) :
    exec (.campaignAdd tag p) s = .next (campaignAddBody p ⟨0x31, tag⟩ (s.taken rest)) :=
  hostCommand_takes ht (campaignAddBody p)

theorem exec_campaignAdd_badLength (ht : s.Takes 0x31 tag p rest) (h : ¬addLengthOk p = true) :
    exec (.campaignAdd tag p) s = .next (s.answered rest (replyTo 0x31 tag .badLength false [])) := by
  rw [exec_campaignAdd ht, campaignAddBody, Bool.eq_false_iff.2 h]
  rfl

theorem exec_campaignAdd_badField (ht : s.Takes 0x31 tag p rest) (hlen : addLengthOk p = true)
    (h : rd8 p 0 = 0 ∨ 32 < rd8 p 0 ∨ ¬∀ i, i < rd8 p 0 → rd16 p (1 + 2 * i) ≤ 2047) :
    exec (.campaignAdd tag p) s = .next (s.answered rest (replyTo 0x31 tag .badField false [])) := by
  rw [← addNumbers_any_iff] at h
  rw [exec_campaignAdd ht, campaignAddBody, hlen, if_neg (by decide), if_pos h]
  rfl

theorem exec_campaignAdd_sound (ht : s.Takes 0x31 tag p rest) (hlow : 1 ≤ rd8 p 0) (hhigh : rd8 p 0 ≤ 32)
    (hlen : p.length = 1 + 2 * rd8 p 0) (hfit : ∀ i, i < rd8 p 0 → rd16 p (1 + 2 * i) ≤ 2047) :
    exec (.campaignAdd tag p) s = .next (if s.campaign.state ≠ .running ∧ s.campaign.state ≠ .paused then
      s.answered rest (replyTo 0x31 tag .noCampaign false [])
    else (addNumbers p).foldl State.addOne (s.answered rest (replyTo 0x31 tag .ok false
      (be8 (rd8 p 0) ++ (State.dispositions (addNumbers p) s).flatMap (fun d => be8 d.byte))))) := by
  have hsome : p ≠ [] := List.ne_nil_of_length_pos (by omega)
  have hsound : ¬(rd8 p 0 = 0 ∨ 32 < rd8 p 0 ∨ (addNumbers p).any (fun n => 2047 < n) = true) := by
    rw [addNumbers_any_iff]
    rintro (h | h | h)
    · omega
    · omega
    · exact h hfit
  rw [exec_campaignAdd ht, campaignAddBody, (addLengthOk_iff p).2 ⟨hsome, Or.inr (Or.inr hlen)⟩, if_neg (by decide),
    if_neg hsound, dispositions_taken]
  rfl

end

/-- Settles O27, check by check. -/
theorem addTakesTheNumbersInOrder : Obligations.AddTakesTheNumbersInOrder := by
  refine ⟨fun s => ⟨rfl, fun _ _ => rfl⟩, fun tag p rest s ht => ?_⟩
  refine ⟨fun hp => ?_, fun hlow hhigh hlen => ?_, fun hp hcount => ?_, fun hlow hhigh hlen => ⟨fun hfit => ?_,
    fun hfit hstate => ⟨?_, ?_⟩, fun hfit hstate => ?_⟩⟩
  · exact exec_campaignAdd_badLength ht (fun h => ((addLengthOk_iff p).1 h).1 hp)
  · refine exec_campaignAdd_badLength ht (fun h => ?_)
    obtain ⟨-, h⟩ := (addLengthOk_iff p).1 h
    omega
  · refine exec_campaignAdd_badField ht ((addLengthOk_iff p).2 ⟨hp, ?_⟩) ?_
    · exact hcount.imp_right Or.inl
    · exact hcount.imp_right Or.inl
  · have hp : p ≠ [] := List.ne_nil_of_length_pos (by omega)
    exact exec_campaignAdd_badField ht ((addLengthOk_iff p).2 ⟨hp, Or.inr (Or.inr hlen)⟩) (Or.inr (Or.inr hfit))
  · rw [exec_campaignAdd_sound ht hlow hhigh hlen hfit, if_neg (fun h => hstate.elim h.1 h.2)]
    rfl
  · simp
  · rw [exec_campaignAdd_sound ht hlow hhigh hlen hfit, if_pos (by rcases hstate with h | h <;> rw [h] <;> decide)]

/-! ## One number (R122) -/

section
variable {s : State} {c : Nat}

theorem addOne_of_appended (h : s.disposition c = .appended) :
    s.addOne c = ((s.modSummary (fun m => m.countAdd .appended)).queueCircuit c).startRun := by
  rw [State.addOne, if_pos h, h]

theorem addOne_of_not_appended (h : s.disposition c ≠ .appended) :
    s.addOne c = s.modSummary (fun m => m.countAdd (s.disposition c)) := if_neg h

theorem disposition_busy (hdef : (s.circuit c).defState = .defined)
    (h : (s.circuit c).status = .spot ∨ (s.circuit c).status = .active ∨ (s.circuit c).status = .openLoop) :
    s.disposition c = .busy := by
  rcases h with h | h | h <;> rw [State.disposition, hdef, h]

theorem disposition_idle (hdef : (s.circuit c).defState = .defined) (h : (s.circuit c).status = .idle) :
    s.disposition c = if (s.node (s.circuit c).definition.farNode).state = .held then .held else .appended := by
  rw [State.disposition, hdef, h]
  simp only [heldNode_iff, State.farNodeOf]

theorem summary_addOne : (s.addOne c).campaign.summary = s.campaign.summary.countAdd (s.disposition c) := by
  by_cases h : s.disposition c = .appended
  · rw [addOne_of_appended h, h]
    rfl
  · rw [addOne_of_not_appended h]
    rfl

theorem addOne_frame : (s.addOne c).engines = s.engines ∧ (s.addOne c).points = s.points ∧ (s.addOne c).nodes = s.nodes ∧
    (s.addOne c).spot = s.spot ∧ (s.addOne c).openLoops = s.openLoops ∧ (s.addOne c).amc = s.amc ∧
    (s.addOne c).mli = s.mli := by
  by_cases h : s.disposition c = .appended
  · simp [addOne_of_appended h]
  · simp [addOne_of_not_appended h]

/-- A number that is not appended writes the summary alone. -/
theorem addOne_same (h : s.disposition c ≠ .appended) : (s.addOne c).circuits = s.circuits ∧
    (s.addOne c).classes = s.classes ∧ (s.addOne c).runDue = s.runDue := by
  rw [addOne_of_not_appended h]
  exact ⟨rfl, rfl, rfl⟩

/-- A number that names no DEFINED circuit does nothing. -/
theorem addOne_undefined (h : s.disposition c = .notDefined ∨ s.disposition c = .suspended) : s.addOne c = s := by
  rw [addOne_of_not_appended (by rcases h with h | h <;> rw [h] <;> decide)]
  rcases h with h | h <;> rw [h] <;> rfl

/-- An appended circuit is QUEUED, at the tail of its class queue (R118). -/
theorem addOne_appended (hc : c < 2048) (h : s.disposition c = .appended) :
    (s.addOne c).circuit c = { s.circuit c with status := .queued } ∧
    (∀ d, d ≠ c → (s.addOne c).circuit d = s.circuit d) ∧
    (∀ k, k < 4 → ((s.addOne c).cls k).queue = (s.cls k).queue ++
      if k = (s.circuit c).definition.pacingClass then [c] else []) ∧
    (s.addOne c).runDue = true := by
  have hcircuit (d : Nat) := circuit_queueCircuit (s.modSummary (fun m => m.countAdd .appended)) d hc
  rw [addOne_of_appended h]
  refine ⟨(hcircuit c).trans (if_pos rfl), fun d hd => (hcircuit d).trans (if_neg (Ne.symm hd)), fun k hk => ?_, rfl⟩
  rw [startRun_cls, cls_queueCircuit _ c hk]
  simp only [eq_comm (a := k)]
  rfl

end

/-- Settles O28, disposition by disposition. -/
theorem addDispositions : Obligations.AddDispositions := by
  intro s c hc _ r held added same
  have hsummary := summary_addOne (s := s) (c := c)
  refine ⟨fun hdef => ?_, fun hdef => ?_, fun hdef hst => ?_, fun hdef hst => ?_, fun hdef hst hheld => ?_,
    fun hdef hst hheld => ?_, addOne_frame⟩
  · have h : s.disposition c = .notDefined := by rw [State.disposition, hdef]
    exact ⟨h, addOne_undefined (Or.inl h)⟩
  · have h : s.disposition c = .suspended := by rw [State.disposition, hdef]
    exact ⟨h, addOne_undefined (Or.inr h)⟩
  · have h : s.disposition c = .duplicate := by rw [State.disposition, hdef, hst]
    rw [h] at hsummary
    exact ⟨h, addOne_same (by rw [h]; decide), congrArg Summary.duplicates hsummary⟩
  · have h := disposition_busy hdef hst
    rw [h] at hsummary
    exact ⟨h, addOne_same (by rw [h]; decide), congrArg Summary.excluded hsummary⟩
  · have h : s.disposition c = .held := (disposition_idle hdef hst).trans (if_pos hheld)
    rw [h] at hsummary
    refine ⟨h, addOne_same (by rw [h]; decide), congrArg Summary.added hsummary, ?_⟩
    exact (congrArg (fun m => m.notTested[0]) hsummary).trans (bump_get s.campaign.summary.notTested 0 0)
  · have h : s.disposition c = .appended := (disposition_idle hdef hst).trans (if_neg hheld)
    rw [h] at hsummary
    exact ⟨h, congrArg Summary.added hsummary, addOne_appended hc h⟩

end Sys2Proof.Machine
end


section
/-! SUPPORT. CAMPAIGN_PAUSE, CAMPAIGN_RESUME, CAMPAIGN_CANCEL and the deadline (R123, R124, R126, R127). -/

namespace Sys2Proof.Machine

/-! ## A campaign command without fields -/

section
variable {s : State} {code : Byte} {tag : Tag} {rest : List Frame} {body : Cmd → State → State}

theorem campaignCommand_of_idle (h : s.campaign.state = .idle) :
    campaignCommand [] ⟨code, tag⟩ (body ⟨code, tag⟩) (s.taken rest) = s.answered rest (replyTo code tag .noCampaign false []) := by
  rw [campaignCommand, fixedLength_of_eq (n := 0) (p := []) rfl]
  exact if_pos h

theorem campaignCommand_of_active (h : s.campaign.state ≠ .idle) :
    campaignCommand [] ⟨code, tag⟩ (body ⟨code, tag⟩) (s.taken rest) = body ⟨code, tag⟩ (s.taken rest) := by
  rw [campaignCommand, fixedLength_of_eq (n := 0) (p := []) rfl]
  exact if_neg h

end

section
variable {s : State} {tag : Tag} {rest : List Frame}

/-! ## CAMPAIGN_PAUSE (R123) -/

theorem exec_campaignPause_idle (ht : s.Takes 0x32 tag [] rest) (h : s.campaign.state = .idle) :
    exec (.campaignPause tag []) s = .next (s.answered rest (replyTo 0x32 tag .noCampaign false [])) :=
  (hostCommand_takes ht (fun c => campaignCommand [] c (campaignPauseBody c))).trans
    (congrArg _ (campaignCommand_of_idle h))

theorem exec_campaignPause_active (ht : s.Takes 0x32 tag [] rest) (h : s.campaign.state ≠ .idle) :
    exec (.campaignPause tag []) s =
      .next { s.answered rest (replyTo 0x32 tag .ok false (be8 s.campaign.state.afterPause.byte)) with
        campaign := { s.campaign with state := s.campaign.state.afterPause } } :=
  (hostCommand_takes ht (fun c => campaignCommand [] c (campaignPauseBody c))).trans
    (congrArg _ (campaignCommand_of_active h))

/-- A pause that finds no campaign running changes no state. -/
theorem exec_campaignPause_stays (ht : s.Takes 0x32 tag [] rest) (h : s.campaign.state ≠ .idle)
    (hsame : s.campaign.state.afterPause = s.campaign.state) :
    exec (.campaignPause tag []) s =
      .next (s.answered rest (replyTo 0x32 tag .ok false (be8 s.campaign.state.byte))) := by
  rw [exec_campaignPause_active ht h, hsame]
  rfl

/-! ## CAMPAIGN_RESUME (R111, R123) -/

/-- The campaign of a resume from PAUSED, RUNNING before its end is tested. -/
def State.resumed (s : State) (rest : List Frame) (tag : Tag) : State :=
  { s.answered rest (replyTo 0x33 tag .ok false (be8 s.afterResume.byte)) with
    campaign := { s.campaign with state := .running } }

theorem exec_campaignResume_idle (ht : s.Takes 0x33 tag [] rest) (h : s.campaign.state = .idle) :
    exec (.campaignResume tag []) s = .next (s.answered rest (replyTo 0x33 tag .noCampaign false [])) :=
  (hostCommand_takes ht (fun c => campaignCommand [] c (campaignResumeBody c))).trans
    (congrArg _ (campaignCommand_of_idle h))

theorem exec_campaignResume_active (ht : s.Takes 0x33 tag [] rest) (h : s.campaign.state ≠ .idle) :
    exec (.campaignResume tag []) s = .next (campaignResumeBody ⟨0x33, tag⟩ (s.taken rest)) :=
  (hostCommand_takes ht (fun c => campaignCommand [] c (campaignResumeBody c))).trans
    (congrArg _ (campaignCommand_of_active h))

theorem exec_campaignResume_paused (ht : s.Takes 0x33 tag [] rest) (h : s.campaign.state = .paused) :
    exec (.campaignResume tag []) s = .next (s.resumed rest tag).testEnd.startRun :=
  (exec_campaignResume_active ht (by rw [h]; decide)).trans (congrArg _ (if_pos h))

/-- In RUNNING and DRAINING a resume starts a run and does nothing else. -/
theorem exec_campaignResume_stays (ht : s.Takes 0x33 tag [] rest) (hidle : s.campaign.state ≠ .idle)
    (h : s.campaign.state ≠ .paused) : exec (.campaignResume tag []) s =
      .next { s.answered rest (replyTo 0x33 tag .ok false (be8 s.campaign.state.byte)) with runDue := true } := by
  have hafter : (s.taken rest).afterResume = s.campaign.state := if_neg h
  refine (exec_campaignResume_active ht hidle).trans (congrArg _ ?_)
  rw [campaignResumeBody, hafter]
  exact if_neg h

theorem campaignOver_resumed_iff : CampaignOver (s.resumed rest tag) (s.resumed rest tag) ↔
    (∀ k, k < 4 → (s.cls k).queue = []) ∧ s.campaign.inFlight = 0 :=
  and_iff_right (Or.inl rfl)

theorem noWork_iff : s.queuesEmpty = true ∧ s.campaign.inFlight = 0 ↔
    (∀ k, k < 4 → (s.cls k).queue = []) ∧ s.campaign.inFlight = 0 := and_congr_left' (queuesEmpty_iff s)

theorem afterResume_of_paused (h : s.campaign.state = .paused) : s.afterResume =
    if s.queuesEmpty = true ∧ s.campaign.inFlight = 0 then .idle else .running := if_pos h

/-- A resume with work left is RUNNING. -/
theorem exec_campaignResume_working (ht : s.Takes 0x33 tag [] rest) (h : s.campaign.state = .paused)
    (hwork : ¬((∀ k, k < 4 → (s.cls k).queue = []) ∧ s.campaign.inFlight = 0)) : exec (.campaignResume tag []) s =
      .next { s.answered rest (replyTo 0x33 tag .ok false [1]) with
        campaign := { s.campaign with state := .running }, runDue := true } := by
  have hafter : s.afterResume = .running := (afterResume_of_paused h).trans (if_neg (mt noWork_iff.1 hwork))
  rw [exec_campaignResume_paused ht h, testEnd_of_not_over (mt campaignOver_resumed_iff.1 hwork), State.resumed, hafter]
  rfl

/-- A resume without work left ends the campaign (R111). -/
theorem exec_campaignResume_ends (ht : s.Takes 0x33 tag [] rest) (h : s.campaign.state = .paused)
    (hdone : (∀ k, k < 4 → (s.cls k).queue = []) ∧ s.campaign.inFlight = 0) :
    exec (.campaignResume tag []) s = .next (s.resumed rest tag).endCampaign.startRun := by
  rw [exec_campaignResume_paused ht h, testEnd_of_over (campaignOver_resumed_iff.2 hdone)]

/-- The reply says IDLE, and the end notice may follow it. -/
theorem tx_resumed_end (h : s.campaign.state = .paused)
    (hdone : (∀ k, k < 4 → (s.cls k).queue = []) ∧ s.campaign.inFlight = 0) :
    ∃ more, (s.resumed rest tag).endCampaign.mli.tx = s.mli.tx ++ replyTo 0x33 tag .ok false [0] :: more := by
  have hafter : s.afterResume = .idle := (afterResume_of_paused h).trans (if_pos (noWork_iff.2 hdone))
  obtain ⟨more, hmore⟩ := tx_prefix_testEnd (s.resumed rest tag)
  rw [testEnd_of_over (campaignOver_resumed_iff.2 hdone)] at hmore
  refine ⟨more, ?_⟩
  rw [← hmore, State.resumed, hafter]
  exact List.append_assoc _ _ _

end

/-- Settles O29, state by state. -/
theorem pauseAndResume : Obligations.PauseAndResume := by
  refine fun tag rest s => ⟨fun ht => ⟨exec_campaignPause_idle ht, fun h => ?_, fun h => ?_, fun h => ?_⟩,
    fun ht => ⟨exec_campaignResume_idle ht, fun h hwork => exec_campaignResume_working ht h ?_, fun h hempty hflight => ?_,
      fun h => ?_, fun h => ?_⟩⟩
  · rw [exec_campaignPause_active ht (by rw [h]; decide), h]
    rfl
  · rw [exec_campaignPause_stays ht (by rw [h]; decide) (by rw [h]; rfl), h]
    rfl
  · rw [exec_campaignPause_stays ht (by rw [h]; decide) (by rw [h]; rfl), h]
    rfl
  · rintro ⟨hempty, hflight⟩
    rcases hwork with ⟨k, hk, hqueue⟩ | hne
    · exact hqueue (hempty k hk)
    · exact hne hflight
  · refine ⟨_, exec_campaignResume_ends ht h ⟨hempty, hflight⟩, ?_, ?_, ?_, fun k _ => ?_, rfl,
      tx_resumed_end h ⟨hempty, hflight⟩, ?_⟩
    · rw [startRun_campaign, campaign_endCampaign]
    · rw [startRun_campaign, campaign_endCampaign]
      rfl
    · rw [startRun_campaign, campaign_endCampaign]
    · rw [startRun_cls, cls_endCampaign]
      exact ⟨rfl, rfl⟩
    · simp [State.resumed, State.answered]
  · rw [exec_campaignResume_stays ht (by rw [h]; decide) (by rw [h]; decide), h]
    rfl
  · rw [exec_campaignResume_stays ht (by rw [h]; decide) (by rw [h]; decide), h]
    rfl

/-! ## CAMPAIGN_CANCEL and the deadline (R124, R126) -/

/-- A drain and its test of the end: the queues, the circuits, the campaign and what goes out (R124, R127). -/
theorem drain_testEnd_effect (s : State) (r : NotTested) (cause : EndCause) :
    let t := (s.drain r cause).testEnd
    (∀ k, t.cls k = { s.cls k with queue := [], credits := 0, timer := 0 }) ∧
    (∀ c, (∃ k, k < 4 ∧ c ∈ (s.cls k).queue) → t.circuit c = { s.circuit c with status := .idle }) ∧
    (∀ c, (∀ k, k < 4 → c ∉ (s.cls k).queue) → t.circuit c = s.circuit c) ∧
    t.campaign.endCause = cause ∧ t.campaign.deadline = none ∧ t.campaign.inFlight = s.campaign.inFlight ∧
    t.campaign.state = (if s.campaign.inFlight = 0 then .idle else .draining) ∧
    CountsNotTested s t r.index s.queuedCount ∧
    (∃ ended, t.mli.tx = s.mli.tx ++ ended ∧ (s.campaign.inFlight ≠ 0 → ended = []) ∧
      (s.campaign.inFlight = 0 → s.mli.tx.length < 48 → ended = [endRecord t])) ∧
    t.engines = s.engines ∧ t.points = s.points ∧ t.nodes = s.nodes ∧ t.spot = s.spot ∧ t.openLoops = s.openLoops ∧
    t.amc = s.amc := by
  have D := drained_drain s r cause
  obtain ⟨hcause, hdeadline, hstate, hflight, hcls⟩ := D.testEnd
  have htx := D.tx_testEnd
  have hmli : (s.drain r cause).mli = s.mli := by simp
  have hcircuit (c : Nat) := circuit_congr (s := s.drain r cause) (t := (s.drain r cause).testEnd) (by simp) c
  rw [hmli] at htx
  exact ⟨hcls, fun c hc => (hcircuit c).trans (D.queued c hc), fun c hc => (hcircuit c).trans (D.others c hc), hcause,
    hdeadline, hflight, hstate, D.counts_testEnd, htx, by simp⟩

section
variable {s : State} {tag : Tag} {rest : List Frame}

theorem exec_campaignCancel_idle (ht : s.Takes 0x34 tag [] rest) (h : s.campaign.state = .idle) :
    exec (.campaignCancel tag []) s = .next (s.answered rest (replyTo 0x34 tag .noCampaign false [])) :=
  (hostCommand_takes ht (fun c => campaignCommand [] c (campaignCancelBody c))).trans
    (congrArg _ (campaignCommand_of_idle h))

theorem exec_campaignCancel_active (ht : s.Takes 0x34 tag [] rest) (h : s.campaign.state ≠ .idle) :
    exec (.campaignCancel tag []) s = .next (campaignCancelBody ⟨0x34, tag⟩ (s.taken rest)) :=
  (hostCommand_takes ht (fun c => campaignCommand [] c (campaignCancelBody c))).trans
    (congrArg _ (campaignCommand_of_active h))

theorem exec_campaignCancel_draining (ht : s.Takes 0x34 tag [] rest) (h : s.campaign.state = .draining) :
    exec (.campaignCancel tag []) s = .next (s.answered rest (replyTo 0x34 tag .ok false [0, 0])) :=
  (exec_campaignCancel_active ht (by rw [h]; decide)).trans (congrArg _ (if_pos h))

/-- In RUNNING and PAUSED a cancel drains the campaign behind its reply. -/
theorem exec_campaignCancel_drains (ht : s.Takes 0x34 tag [] rest)
    (h : s.campaign.state = .running ∨ s.campaign.state = .paused) : exec (.campaignCancel tag []) s =
      .next ((s.answered rest (replyTo 0x34 tag .ok false (be16 s.queuedCount))).drain .cancelled .cancelled).testEnd := by
  have hidle : s.campaign.state ≠ .idle := by rcases h with h | h <;> rw [h] <;> decide
  have hdraining : s.campaign.state ≠ .draining := by rcases h with h | h <;> rw [h] <;> decide
  exact (exec_campaignCancel_active ht hidle).trans (congrArg _ (if_neg hdraining))

theorem exec_deadlineExpiry {d : Nat} (h : s.campaign.state = .running ∨ s.campaign.state = .paused)
    (hd : s.campaign.deadline = some d) (hnow : d ≤ s.now) :
    exec .deadlineExpiry s = .next (s.drain .deadline .deadline).testEnd := by
  have hdue : s.deadlineDue = true := by simp [State.deadlineDue, h, hd, hnow]
  exact event_true _ s (fun t => (t.drain .deadline .deadline).testEnd) hdue

end

/-- Settles O30: both are a drain, the cancel behind its reply. -/
theorem cancelAndDeadlineEmptyTheQueues : Obligations.CancelAndDeadlineEmptyTheQueues := by
  refine fun tag rest s => ⟨fun ht => ⟨exec_campaignCancel_idle ht, exec_campaignCancel_draining ht⟩, ?_⟩
  rintro x (⟨rfl, ht⟩ | ⟨rfl, d, hd, hnow⟩) hactive
  · obtain ⟨hcls, hqueued, hothers, hcause, hdeadline, hflight, hstate, hcounts, ⟨ended, htx, hnone, hends⟩, hframe⟩ :=
      drain_testEnd_effect (s.answered rest (replyTo 0x34 tag .ok false (be16 s.queuedCount))) .cancelled .cancelled
    refine ⟨_, exec_campaignCancel_drains ht hactive, fun k _ => ?_, hqueued, hothers, hcause, hdeadline, hflight, hstate,
      hcounts, ⟨ended, htx, hnone, fun h hlen => hends h ?_⟩, hframe⟩
    · rw [hcls]
      exact ⟨rfl, rfl, rfl, rfl, rfl⟩
    · exact (List.length_append ..).trans_lt hlen
  · obtain ⟨hcls, hqueued, hothers, hcause, hdeadline, hflight, hstate, hcounts, ⟨ended, htx, hnone, hends⟩, hframe⟩ :=
      drain_testEnd_effect s .deadline .deadline
    refine ⟨_, exec_deadlineExpiry hactive hd hnow, fun k _ => ?_, hqueued, hothers, hcause, hdeadline, hflight, hstate,
      hcounts, ⟨ended, ?_, hnone, fun h hlen => hends h (by omega)⟩, hframe⟩
    · rw [hcls]
      exact ⟨rfl, rfl, rfl, rfl, rfl⟩
    · exact htx.trans (congrArg (· ++ ended) (List.append_nil _).symm)

end Sys2Proof.Machine
end


section
/-! SUPPORT. O7: what a step can do to a node entry, and the operations that leave the node table alone (R98 to R100, R135). -/

namespace Sys2Proof.Machine

/-! ## The moves of a node entry -/

/-- What a rule does to a node entry: its occupancy counts (R99), its wait is over (R139), a report moves its counts (R136,
R137), it is held or released (R140, R143), NODE_SET configures it (R100), a reset sets it back (R145). -/
inductive Node.Move : Node → Node → Prop
  | occupied (x : Node) (k : Nat) : Move x { x with occupancy := k }
  | waited (x : Node) : Move x { x with waitPending := false }
  | confirmed (x : Node) : Move x x.confirmed
  | noLoop (x : Node) (now : Nat) : Move x (x.noLoop now)
  | held (x : Node) : Move x { x with state := .held }
  | released (x : Node) : Move x x.released
  | configured (x : Node) (limit : Nat) {threshold : Nat} (autoHold : Bool) (h : thresholdOk threshold = true) :
      Move x (x.configured (clampNat 1 8 limit) threshold autoHold)
  | softReset (x : Node) : Move x x.softReset
  | coldReset (x : Node) : Move x Node.reset

theorem inRange_confirmed {x : Node} (h : x.inRange) : x.confirmed.inRange := by
  obtain ⟨h1, h2, hlevel, hfails, hsucc, hthreshold⟩ := h
  unfold Node.confirmed
  split
  · exact ⟨h1, h2, (Nat.sub_le _ _).trans hlevel, Nat.zero_le _, Nat.zero_le _, hthreshold⟩
  · exact ⟨h1, h2, hlevel, Nat.zero_le _, by dsimp only; omega, hthreshold⟩

/-- A rise stops at level 4 (R137, R138). -/
theorem inRange_noLoop {x : Node} (h : x.inRange) (now : Nat) : (x.noLoop now).inRange := by
  obtain ⟨h1, h2, hlevel, hfails, hsucc, hthreshold⟩ := h
  obtain ⟨hfirst, hup, hwait, hheld⟩ := noLoop_cases x now
  rcases Nat.eq_zero_or_pos x.fails with hf | hf
  · rw [hfirst hf]
    exact ⟨h1, h2, hlevel, le_rfl, Nat.zero_le _, hthreshold⟩
  · rcases Nat.lt_or_ge x.level 4 with hl | hl
    · rw [hup hf hl]
      exact ⟨h1, h2, hl, Nat.zero_le _, Nat.zero_le _, hthreshold⟩
    · cases ha : x.autoHold with
      | false => rw [hwait hf hl ha]; exact ⟨h1, h2, hlevel, Nat.zero_le _, Nat.zero_le _, hthreshold⟩
      | true => rw [hheld hf hl ha]; exact ⟨h1, h2, hlevel, Nat.zero_le _, Nat.zero_le _, hthreshold⟩

/-- NODE_SET carries a threshold that R100 allows, and its limit is clamped. -/
theorem inRange_nodeConfigured {x : Node} (h : x.inRange) (limit : Nat) {threshold : Nat} (autoHold : Bool)
    (ht : thresholdOk threshold = true) : (x.configured (clampNat 1 8 limit) threshold autoHold).inRange := by
  obtain ⟨-, -, hlevel, hfails, hsucc, -⟩ := h
  have hthreshold := (thresholdOk_iff threshold).1 ht
  simp only [List.mem_cons, List.not_mem_nil, or_false] at hthreshold
  exact ⟨Nat.le_max_left _ _, max_le (by decide) (Nat.min_le_right _ _), hlevel, hfails, hsucc, hthreshold⟩

/-- Each move keeps the ranges of R98 and R135. -/
theorem Node.Move.inRange {x y : Node} (m : Node.Move x y) (h : x.inRange) : y.inRange := by
  obtain ⟨h1, h2, hlevel, hfails, hsucc, hthreshold⟩ := id h
  cases m with
  | occupied k => exact h
  | waited => exact h
  | confirmed => exact inRange_confirmed h
  | noLoop now => exact inRange_noLoop h now
  | held => exact h
  | released => exact ⟨h1, h2, Nat.zero_le _, Nat.zero_le _, Nat.zero_le _, hthreshold⟩
  | configured limit autoHold ht => exact inRange_nodeConfigured h limit autoHold ht
  | softReset => exact ⟨h1, h2, Nat.zero_le _, Nat.zero_le _, Nat.zero_le _, hthreshold⟩
  | coldReset => unfold Node.inRange; decide

theorem inRange_of_moves {x y : Node} (m : Relation.ReflTransGen Node.Move x y) (h : x.inRange) : y.inRange := by
  induction m with
  | refl => exact h
  | tail _ hmove ih => exact hmove.inRange ih

/-- From `s` to `t` every node entry goes by moves of the rules. -/
def State.NodesMove (s t : State) : Prop := ∀ n, n < 64 → Relation.ReflTransGen Node.Move (s.node n) (t.node n)

theorem State.NodesMove.refl (s : State) : s.NodesMove s := fun _ _ => .refl

theorem State.NodesMove.trans {s t u : State} (a : s.NodesMove t) (b : t.NodesMove u) : s.NodesMove u :=
  fun n hn => (a n hn).trans (b n hn)

theorem State.NodesMove.inRange {s t : State} (m : s.NodesMove t) (h : NodesInRange s) : NodesInRange t :=
  fun n hn => inRange_of_moves (m n hn) (h n hn)

/-- The node table stands. -/
theorem nodesMove_of_nodes {s t : State} (h : t.nodes = s.nodes) : s.NodesMove t := fun n _ => by
  rw [node_congr h]

theorem State.NodesMove.then_nodes {s t u : State} (a : s.NodesMove t) (h : u.nodes = t.nodes) : s.NodesMove u :=
  a.trans (nodesMove_of_nodes h)

theorem State.NodesMove.after_nodes {s t u : State} (b : t.NodesMove u) (h : t.nodes = s.nodes) : s.NodesMove u :=
  (nodesMove_of_nodes h).trans b

/-- One entry is rewritten. -/
theorem nodesMove_setNode (s : State) (n : Nat) {x : Node} (h : Node.Move (s.node n) x) : s.NodesMove (s.setNode n x) := by
  intro m _
  rw [node_setNode]
  split
  · obtain ⟨rfl, -⟩ := ‹n = m ∧ n < 64›
    exact .single h
  · exact .refl

theorem nodesMove_foldl {β : Type} (f : State → β → State) (h : ∀ (s : State) b, s.NodesMove (f s b)) (l : List β)
    (s : State) : s.NodesMove (l.foldl f s) :=
  foldl_inv f (fun t => s.NodesMove t) (fun t b ht => ht.trans (h t b)) l s (.refl s)

/-! ## The node table stands: circuits and campaigns -/

theorem nodes_foldl {β : Type} {f : State → β → State} (h : ∀ s b, (f s b).nodes = s.nodes) (l : List β) (s : State) :
    (l.foldl f s).nodes = s.nodes := foldl_keeps f State.nodes h l s

section
variable (s : State) (c : Cmd)

@[simp] theorem nodes_refuse (st : Status) : (s.refuse c st).nodes = s.nodes := rfl

theorem nodes_offer (code : Byte) (p : List Byte) : (s.offer code p).nodes = s.nodes := by simp

theorem nodes_fixedLength {n : Nat} {p : List Byte} {body : State → State} (h : (body s).nodes = s.nodes) :
    (fixedLength n p c body s).nodes = s.nodes := by
  unfold fixedLength
  split
  · exact h
  · rfl

theorem nodes_rangeCommand {first count : Nat} {check : State → Nat → Option Status} {carryOut : State → State}
    (h : (carryOut s).nodes = s.nodes) : (rangeCommand first count c check carryOut s).nodes = s.nodes := by
  unfold rangeCommand
  split
  · rfl
  · split
    · rfl
    · exact h

/-- The reply, then one step for each record of the range. -/
theorem nodes_rangeBody {p : List Byte} {check : State → Nat → Option Status} {one : State → Nat → State}
    (h : ∀ t k, (one t k).nodes = t.nodes) : (rangeBody p c check
      (fun first count t => (rangeOf first count).foldl one (t.replyRange c .ok count 0 false)) s).nodes = s.nodes :=
  nodes_fixedLength s c (nodes_rangeCommand s c (nodes_foldl h _ _))

theorem nodes_retireOne (k : Nat) : (s.retireOne k).nodes = s.nodes := by
  unfold State.retireOne
  split <;> simp

theorem nodes_suspendOne (k : Nat) : (s.suspendOne k).nodes = s.nodes := by
  unfold State.suspendOne
  split <;> simp

theorem nodes_requeue (k old : Nat) : (s.requeue k old).nodes = s.nodes := by
  unfold State.requeue
  dsimp only
  split
  · simp
  · split <;> simp

theorem nodes_defineOne (k : Nat) (d : Definition) : (s.defineOne k d).nodes = s.nodes := by
  unfold State.defineOne
  dsimp only
  split
  · rw [nodes_requeue, setCircuit_nodes]
  · rfl

theorem nodes_circuitDefineBody (p : List Byte) : (circuitDefineBody p c s).nodes = s.nodes := by
  unfold circuitDefineBody
  split
  · exact nodes_rangeCommand s c (nodes_foldl (fun _ _ => nodes_defineOne _ _ _) _ _)
  · rfl

theorem nodes_carryStart (kind : CampaignKind) (carried : Params) (x : Selection) :
    (carryStart c kind carried x s).nodes = s.nodes := by
  obtain ⟨-, -, hnodes, -⟩ := startFilled_frame (c := c) (kind := kind) (carried := carried) (x := x) (s := s)
  rw [carryStart_eq, startRun_nodes]
  split
  · simpa using hnodes
  · exact hnodes

theorem nodes_campaignStartBody (p : List Byte) : (campaignStartBody p c s).nodes = s.nodes := by
  unfold campaignStartBody
  split
  · rfl
  · split
    · rfl
    · split
      · exact nodes_carryStart s c _ _ _
      · rfl

theorem nodes_addOne (k : Nat) : (s.addOne k).nodes = s.nodes := by
  obtain ⟨-, -, hnodes, -⟩ := addOne_frame (s := s) (c := k)
  exact hnodes

theorem nodes_campaignAddBody (p : List Byte) : (campaignAddBody p c s).nodes = s.nodes := by
  unfold campaignAddBody
  split_ifs
  · rfl
  · rfl
  · rfl
  · exact nodes_foldl nodes_addOne _ _

theorem nodes_campaignCommand {p : List Byte} {body : State → State} (h : (body s).nodes = s.nodes) :
    (campaignCommand p c body s).nodes = s.nodes := nodes_fixedLength s c (by
  split
  · rfl
  · exact h)

theorem nodes_campaignResumeBody : (campaignResumeBody c s).nodes = s.nodes := by
  unfold campaignResumeBody
  split <;> simp

theorem nodes_campaignCancelBody : (campaignCancelBody c s).nodes = s.nodes := by
  unfold campaignCancelBody
  split <;> simp

theorem nodes_abortEngine (e : Nat) : (s.abortEngine e).nodes = s.nodes := by
  unfold State.abortEngine State.markAborted State.endSoak
  split
  · split <;> simp
  · rfl

theorem nodes_campaignAbortBody : (campaignAbortBody c s).nodes = s.nodes := by
  obtain ⟨-, -, hqueues, -⟩ := abortQueues_frame (s.reply c .ok
    (be16 (if s.campaign.state = .draining then 0 else s.queuedCount) ++ be8 s.abortCount) false)
  exact (nodes_foldl nodes_abortEngine _ _).trans hqueues

theorem nodes_classSetBody (p : List Byte) : (classSetBody p c s).nodes = s.nodes := by
  unfold classSetBody
  split <;> rfl

theorem nodes_probeCircuitBody (p : List Byte) : (probeCircuitBody p c s).nodes = s.nodes := by
  unfold probeCircuitBody State.queueProbe
  split
  · rfl
  · split
    · split <;> simp
    · simp

/-! ## The node table stands: engines, points, open loops, the links -/

theorem nodes_engineCommand {p : List Byte} {body : Nat → State → State} (h : ∀ e, (body e s).nodes = s.nodes) :
    (engineCommand p c body s).nodes = s.nodes := nodes_fixedLength s c (by
  split
  · exact h _
  · rfl)

theorem nodes_enable (e : Nat) : (s.enable e).nodes = s.nodes := by
  unfold State.enable
  split <;> simp

theorem nodes_disable (e : Nat) : (s.disable e).nodes = s.nodes := by
  unfold State.disable
  split <;> simp

theorem nodes_engineCalibrateBody (e : Nat) : (engineCalibrateBody c e s).nodes = s.nodes := by
  unfold engineCalibrateBody State.queueCalibration
  split
  · rfl
  · split <;> simp

theorem nodes_pointSetBody (p : List Byte) : (pointSetBody p c s).nodes = s.nodes := by
  unfold pointSetBody State.setService
  split <;> simp

theorem nodes_releaseRetryBody (p : List Byte) : (releaseRetryBody p c s).nodes = s.nodes := by
  unfold releaseRetryBody
  split <;> simp

theorem nodes_matrixResyncBody : (matrixResyncBody c s).nodes = s.nodes := by
  unfold matrixResyncBody
  split
  · rfl
  · split <;> simp

theorem nodes_frameArrived (f : Frame) : (s.frameArrived f).nodes = s.nodes := by
  unfold State.frameArrived
  split <;> rfl

theorem nodes_judgeFrame (len : Nat) (body got : List Byte) : (s.judgeFrame len body got).nodes = s.nodes := by
  unfold State.judgeFrame
  dsimp only
  split
  · exact nodes_frameArrived _ _
  · rfl

theorem nodes_linkByte (b : Byte) : (s.linkByte b).nodes = s.nodes := by
  unfold State.linkByte
  split
  · split <;> rfl
  · split
    · rfl
    · split <;> rfl
  · split <;> rfl
  · split
    · rfl
    · exact nodes_judgeFrame s _ _ _

theorem nodes_recordLeaves : s.recordLeaves.nodes = s.nodes := by
  unfold State.recordLeaves
  split
  · rfl
  · dsimp only
    split <;> rfl

theorem nodes_placeReady : s.placeReady.nodes = s.nodes := by
  unfold State.placeReady
  split
  · rfl
  · split <;> rfl

/-! ## The node table stands: the moments of a lane that report nothing -/

theorem nodes_moveTo (m : Nat) : (s.moveTo m).nodes = s.nodes := rfl

theorem nodes_hear (e : Nat) (rx : List Bool) (m : Nat) : (s.hear e rx m).nodes = s.nodes := rfl

theorem nodes_takeGain (e : Nat) : (s.takeGain e).nodes = s.nodes := rfl

theorem nodes_settleEnds (e : Nat) : (s.settleEnds e).nodes = s.nodes := by
  unfold State.settleEnds
  split
  · rfl
  · split
    · simp
    · simp
    · split <;> simp
    · simp

theorem nodes_aisEnds (l : Nat) : (s.aisEnds l).nodes = s.nodes := by
  unfold State.aisEnds State.endSoak
  split <;> simp

theorem nodes_releaseAttemptFailed (e : Nat) : (s.releaseAttemptFailed e).nodes = s.nodes := by
  unfold State.releaseAttemptFailed
  split
  · rfl
  · split <;> simp

theorem nodes_syncGained (e l : Nat) : (s.syncGained e l).nodes = s.nodes := by
  unfold State.syncGained State.accumulate
  split
  · split <;> simp
  · split
    · exact nodes_releaseAttemptFailed s l
    · rfl
  · split <;> simp
  · rfl

theorem nodes_wordFound (e : Nat) : (s.wordFound e).nodes = s.nodes := by
  unfold State.wordFound State.calibrated State.measureDelay
  split
  · rfl
  · dsimp only
    split <;> simp

theorem nodes_wordLost (e : Nat) : (s.wordLost e).nodes = s.nodes := by
  unfold State.wordLost
  dsimp only
  split <;> simp

/-! ## The node table stands: completions that end no probe -/

theorem nodes_answerCalibrationOf (e : Nat) (x : Context) (st : EngineState) :
    (s.answerCalibrationOf e x st).nodes = s.nodes := by
  unfold State.answerCalibrationOf
  split <;> simp

theorem nodes_loopPortCompleted (e : Nat) (x : Context) (k : Completion) : (s.loopPortCompleted e x k).nodes = s.nodes := by
  cases k with
  | done => rfl
  | refused r => simp [State.loopPortCompleted, nodes_answerCalibrationOf]
  | timeout => simp [State.loopPortCompleted]

theorem nodes_disconnected (e : Nat) (x : Context) : (s.disconnected e x).nodes = s.nodes := by
  unfold State.disconnected
  split <;> simp [nodes_answerCalibrationOf]

theorem nodes_disconnectFails (e : Nat) (x : Context) (k : Completion) : (s.disconnectFails e x k).nodes = s.nodes := by
  unfold State.disconnectFails
  dsimp only
  split <;> simp [nodes_answerCalibrationOf]

theorem nodes_disconnectCompleted (e : Nat) (x : Context) (k : Completion) :
    (s.disconnectCompleted e x k).nodes = s.nodes := by
  cases k with
  | done => exact nodes_disconnected s e x
  | refused r => exact nodes_disconnectFails s e x _
  | timeout => exact nodes_disconnectFails s e x _

theorem nodes_endQuarantine (e : Nat) : (s.endQuarantine e).nodes = s.nodes := by
  unfold State.endQuarantine State.unlockOwned
  split <;> simp

theorem nodes_resyncAnswer (i : Nat) (k : Completion) : (s.resyncAnswer i k).nodes = s.nodes := by
  cases k <;> simp [State.resyncAnswer]

theorem nodes_resetAllCompleted (r : Requester) (k : Completion) : (s.resetAllCompleted r k).nodes = s.nodes := by
  have hends (t : State) (h : t.nodes = s.nodes) : (if k = .done then t.endQuarantines else t).nodes = s.nodes := by
    split
    · exact (nodes_foldl nodes_endQuarantine _ _).trans h
    · exact h
  cases r with
  | resync i => exact hends _ (nodes_resyncAnswer s i k)
  | reset => exact hends _ rfl
  | engine e => exact hends _ rfl

end

end Sys2Proof.Machine
end


section
/-! SUPPORT. O7: the operations that move node entries, and the moves that every step is made of (R99, R100, R109, R136 to R145,
R153). -/

namespace Sys2Proof.Machine

/-! ## Slots and reports (R99, R136, R137, R140) -/

section
variable (s : State)

theorem nodesMove_returnSlot (n : Nat) : s.NodesMove (s.returnSlot n) :=
  (nodesMove_setNode s n (.occupied _ _)).then_nodes rfl

theorem nodesMove_claimSlot (n : Nat) : s.NodesMove (s.claimSlot n) := nodesMove_setNode s n (.occupied _ _)

theorem nodesMove_holdNode (n : Nat) (cause : HoldCause) : s.NodesMove (s.holdNode n cause) := by
  obtain ⟨-, hnodes, -⟩ := holdDone_frame (s.setNode n { s.node n with state := .held }) n cause
  rw [holdNode_eq]
  exact (nodesMove_setNode s n (.held _)).then_nodes hnodes

theorem nodesMove_reportConfirmed (n : Nat) : s.NodesMove (s.reportConfirmed n) := nodesMove_setNode s n (.confirmed _)

theorem nodesMove_reportNoLoop (n : Nat) : s.NodesMove (s.reportNoLoop n) := by
  have hreport : s.NodesMove (s.setNode n ((s.node n).noLoop s.now)) := nodesMove_setNode s n (.noLoop _ _)
  unfold State.reportNoLoop
  dsimp only
  split
  · exact hreport.trans (nodesMove_holdNode _ n .auto)
  · exact hreport

theorem nodesMove_loopUpExpires (e : Nat) : s.NodesMove (s.loopUpExpires e) := by
  unfold State.loopUpExpires
  split
  · exact nodesMove_of_nodes (by simp)
  · have hwritten : (s.writeOutcome e .noLoop).nodes = s.nodes := by simp
    exact ((nodesMove_reportNoLoop (s.writeOutcome e .noLoop) (s.engine e).farNode).after_nodes hwritten).then_nodes (by simp)

/-! ## The end of a probe (R64, R49, R50, R69) -/

theorem nodesMove_releaseEnd (e : Nat) : s.NodesMove (s.releaseEnd e) := by
  unfold State.releaseEnd
  split
  · exact .refl s
  · rename_i x _
    exact (nodesMove_returnSlot s (x.farNode.getD 0)).then_nodes (by simp)

theorem nodesMove_releaseProven (e : Nat) : s.NodesMove (s.releaseProven e) := by
  unfold State.releaseProven
  split
  · exact (nodesMove_releaseEnd (s.writeOutcome e .released) e).after_nodes (by simp)
  · exact nodesMove_releaseEnd s e

theorem nodesMove_slotAfterConnect (x : Context) : s.NodesMove (s.slotAfterConnect x) := by
  unfold State.slotAfterConnect
  split
  · exact nodesMove_of_nodes (by simp)
  · exact nodesMove_returnSlot s _

theorem nodesMove_connectFails (e : Nat) (x : Context) : s.NodesMove (s.connectFails e x) :=
  (nodesMove_slotAfterConnect s x).then_nodes (by simp [State.connectFails])

theorem nodesMove_connectCompleted (e : Nat) (x : Context) (k : Completion) : s.NodesMove (s.connectCompleted e x k) := by
  cases k with
  | done => exact nodesMove_of_nodes rfl
  | refused r =>
    exact ((nodesMove_connectFails (s.pointRefused (x.accessPoint.getD 0)) e x).after_nodes (by simp)).then_nodes
      (by simp [State.connectCompleted])
  | timeout => exact (nodesMove_connectFails s e x).then_nodes (by simp [State.connectCompleted])

/-! ## Completions and answers of the matrix (R159, R160) -/

theorem nodesMove_requesterActs (r : Request) (k : Completion) : s.NodesMove (s.requesterActs r k) := by
  unfold State.requesterActs
  split
  · split
    · exact .refl s
    · split
      · exact nodesMove_connectCompleted s _ _ k
      · exact nodesMove_of_nodes (nodes_loopPortCompleted s _ _ k)
      · exact nodesMove_of_nodes (nodes_disconnectCompleted s _ _ k)
      · exact .refl s
  · exact nodesMove_of_nodes (nodes_resetAllCompleted s _ k)
  · exact nodesMove_of_nodes (nodes_resetAllCompleted s _ k)

theorem nodesMove_complete (q : CurrentRequest) (k : Completion) : s.NodesMove (s.complete q k) := by
  refine (nodesMove_requesterActs ((s.closeRequest q k).faultNotice q k) q.request k).after_nodes ?_
  unfold State.faultNotice
  split <;> simp

theorem nodesMove_timeOut : s.NodesMove s.timeOut := by
  unfold State.timeOut
  split
  · exact nodesMove_complete s _ _
  · exact .refl s

theorem nodesMove_takeAnswer (a : Answer) : s.NodesMove (s.takeAnswer a) := by
  unfold State.takeAnswer
  split
  · exact nodesMove_of_nodes rfl
  · split_ifs
    · exact nodesMove_of_nodes rfl
    · exact .refl s
    · exact nodesMove_complete s _ _

theorem nodesMove_takeAnswerByte (b : Byte) : s.NodesMove (s.takeAnswerByte b) := by
  unfold State.takeAnswerByte
  split
  · split <;> exact nodesMove_of_nodes rfl
  · dsimp only
    split
    · exact nodesMove_of_nodes rfl
    · split
      · exact (nodesMove_takeAnswer (s.setAnswerRx []) _).after_nodes rfl
      · exact nodesMove_of_nodes rfl

theorem nodesMove_answerByte (b : Byte) : s.NodesMove (s.answerByte b) := by
  unfold State.answerByte
  split
  · exact (nodesMove_takeAnswerByte s.dropAnswer b).after_nodes rfl
  · exact nodesMove_takeAnswerByte s b

/-! ## An arbiter run (R105 to R109) -/

theorem nodesMove_launchClass (k c e : Nat) : s.NodesMove (s.launchClass k c e) := by
  have hleft : s.NodesMove (s.leaveClass k c) := (nodesMove_claimSlot _ _).after_nodes (by simp)
  rw [launchClass_eq]
  exact hleft.then_nodes (by simp)

theorem nodesMove_launchSpot (x : SpotEntry) (e : Nat) : s.NodesMove (s.launchSpot x e) := by
  cases x with
  | probe c slot =>
    have hclaimed := nodesMove_claimSlot (s.leaveSpot (.probe c slot)) (s.circuit c).definition.farNode
    exact (hclaimed.after_nodes (by simp)).then_nodes (by simp [State.launchSpot])
  | releaseOnly c =>
    unfold State.launchSpot
    dsimp only
    split
    · exact .refl s
    · exact nodesMove_of_nodes (by simp)
  | calibration d i => exact nodesMove_of_nodes (by simp [State.launchSpot])

end

theorem nodesMove_scanSpot (fuel pos : Nat) (s : State) : s.NodesMove (State.scanSpot fuel pos s).2 := by
  induction fuel generalizing pos s with
  | zero => exact .refl s
  | succ fuel ih =>
    unfold State.scanSpot
    split
    · exact .refl s
    · split
      · exact .refl s
      · split
        · exact (ih pos _).after_nodes (by simp)
        · split
          · exact nodesMove_launchSpot s _ _
          · exact ih (pos + 1) s

theorem nodesMove_scanClass (k fuel pos : Nat) (s : State) : s.NodesMove (State.scanClass k fuel pos s).2 := by
  induction fuel generalizing pos s with
  | zero => exact .refl s
  | succ fuel ih =>
    unfold State.scanClass
    split
    · exact .refl s
    · split
      · exact .refl s
      · split
        · exact (ih pos _).after_nodes (by simp [State.blockClassEntry])
        · split
          · exact nodesMove_launchClass s k _ _
          · exact ih (pos + 1) s

theorem nodesMove_classTurn (s : State) (k : Nat) : s.NodesMove (s.classTurn k).2 := by
  unfold State.classTurn
  split
  · exact nodesMove_scanClass k _ _ s
  · exact .refl s

theorem nodesMove_serveSpot (fuel : Nat) (s : State) : s.NodesMove (State.serveSpot fuel s) := by
  induction fuel generalizing s with
  | zero => exact .refl s
  | succ fuel ih =>
    have hscan := nodesMove_scanSpot (s.spot.length + 1) 0 s
    unfold State.serveSpot
    dsimp only
    split
    · exact hscan.trans (ih _)
    · exact hscan

theorem nodesMove_serveAlone (k fuel : Nat) (s : State) : s.NodesMove (State.serveAlone k fuel s) := by
  induction fuel generalizing s with
  | zero => exact .refl s
  | succ fuel ih =>
    have hturn := nodesMove_classTurn s k
    unfold State.serveAlone
    dsimp only
    split
    · exact hturn.trans (ih _)
    · exact hturn

theorem nodesMove_serveBank (fuel a b : Nat) (s : State) : s.NodesMove (State.serveBank fuel a b s) := by
  induction fuel generalizing a b s with
  | zero => exact .refl s
  | succ fuel ih =>
    have hturn := nodesMove_classTurn s a
    unfold State.serveBank
    dsimp only
    split
    · exact hturn.trans (ih b a _)
    · exact hturn.trans (nodesMove_serveAlone b fuel _)

theorem nodesMove_runArbiter (s : State) : s.NodesMove s.runArbiter := by
  have hspot : s.NodesMove (State.serveSpot runFuel { s with runDue := false }) :=
    (nodesMove_serveSpot runFuel { s with runDue := false }).after_nodes rfl
  have hpriority (t : State) : t.NodesMove t.servePriority := by
    unfold State.servePriority
    split <;> exact nodesMove_serveBank _ _ _ t
  have hstandard (t : State) : t.NodesMove t.serveStandard := by
    unfold State.serveStandard
    split <;> exact nodesMove_serveBank _ _ _ t
  exact (hspot.trans (hpriority _)).trans (hstandard _)

/-! ## Commands of a node, an open loop, a reset (R100, R142, R143, R145, R153) -/

section
variable (s : State) (c : Cmd)

theorem nodesMove_fixedLength {n : Nat} {p : List Byte} {body : State → State} (h : s.NodesMove (body s)) :
    s.NodesMove (fixedLength n p c body s) := by
  unfold fixedLength
  split
  · exact h
  · exact nodesMove_of_nodes rfl

theorem nodesMove_nodeCommand {p : List Byte} {body : Nat → State → State} (h : ∀ n, s.NodesMove (body n s)) :
    s.NodesMove (nodeCommand p c body s) := nodesMove_fixedLength s c (by
  split
  · exact h _
  · exact nodesMove_of_nodes rfl)

theorem nodesMove_nodeSetBody (p : List Byte) : s.NodesMove (nodeSetBody p c s) := by
  unfold nodeSetBody
  dsimp only
  split
  · exact nodesMove_of_nodes rfl
  · rename_i hsound
    have hthreshold : thresholdOk (rd8 p 2) = true := by
      by_contra hbad
      exact hsound (.inr (.inl (by simpa using hbad)))
    exact (nodesMove_setNode s (rd8 p 0) (.configured _ (rd8 p 1) (rd8 p 3 == 1) hthreshold)).then_nodes rfl

theorem nodesMove_nodeHoldBody (n : Nat) : s.NodesMove (nodeHoldBody c n s) := by
  unfold nodeHoldBody
  split
  · exact nodesMove_of_nodes rfl
  · exact (nodesMove_holdNode (s.reply c .ok _ false) n .command).after_nodes rfl

theorem nodesMove_nodeReleaseBody (n : Nat) : s.NodesMove (nodeReleaseBody c n s) :=
  (nodesMove_setNode s n (.released _)).then_nodes rfl

theorem nodesMove_clearLoop (k : Nat) (o : OpenLoop) : s.NodesMove (s.clearLoop k o) :=
  (nodesMove_returnSlot s o.farNode).then_nodes rfl

theorem nodesMove_openLoopClearBody (p : List Byte) : s.NodesMove (openLoopClearBody p c s) := by
  unfold openLoopClearBody
  split
  · exact nodesMove_of_nodes rfl
  · split
    · exact .refl s
    · exact ((nodesMove_clearLoop (s.reply c _ _ _) _ _).after_nodes rfl).then_nodes (nodes_offer _ _ _)

theorem nodes_abandonAll : s.abandonAll.nodes = s.nodes :=
  nodes_foldl (fun t q => by unfold State.abandon; split <;> simp) _ s

theorem nodesMove_softReset (loops : Nat) : s.NodesMove (s.softReset loops) := by
  have hemptied : s.NodesMove (s.emptied loops) := fun n hn => by
    have hnode : (s.emptied loops).node n = (s.node n).softReset := by simp [State.node, State.emptied, hn]
    rw [hnode]
    exact .single (.softReset _)
  rw [softReset_eq]
  exact hemptied.then_nodes (by simp)

theorem nodesMove_deviceResetBody (p : List Byte) : s.NodesMove (deviceResetBody p c s) := by
  unfold deviceResetBody
  split
  · exact nodesMove_of_nodes rfl
  · exact (nodesMove_softReset _ _).after_nodes (nodes_abandonAll _)

theorem nodesMove_coldFrom (a b : Bool) : s.NodesMove (State.coldFrom a b s) := fun n hn => by
  rw [node_coldFrom a b s n hn]
  exact .single (.coldReset _)

end

/-! ## Every instruction -/

/-- The step answers a state whose nodes have moved from those of `s`. -/
def AnswersMoved (s : State) (r : Result) : Prop := ∀ t, r = .next t → s.NodesMove t

section
variable {s : State} {code : Byte} {tag : Tag} {p : List Byte}

theorem answersMoved_next {t : State} (h : s.NodesMove t) : AnswersMoved s (.next t) := fun _ hu => by
  cases hu; exact h

theorem answersMoved_event {b : Bool} {f : State → State} (h : ∀ t : State, t.NodesMove (f t)) :
    AnswersMoved s (event b s f) := by
  refine answersMoved_next ?_
  split
  · exact h s
  · exact .refl s

/-- A command moves nodes as its body does, whatever state the taken frame leaves. -/
theorem answersMoved_command {body : Cmd → State → State} (h : ∀ c (t : State), t.NodesMove (body c t)) :
    AnswersMoved s (hostCommand code tag p s body) := by
  rcases hostCommand_next code tag p s body with heq | ⟨t, ht, heq⟩
  · rw [heq]; exact answersMoved_next (.refl s)
  · rw [heq]
    obtain ⟨-, -, -, rfl⟩ := takeFrame_some s t _ ht
    exact answersMoved_next ((h _ _).after_nodes rfl)

/-- A command that leaves the node table alone. -/
theorem answersMoved_still {body : Cmd → State → State} (h : ∀ c (t : State), (body c t).nodes = t.nodes) :
    AnswersMoved s (hostCommand code tag p s body) := answersMoved_command (fun c t => nodesMove_of_nodes (h c t))

theorem answersMoved_stillEvent {b : Bool} {f : State → State} (h : ∀ t : State, (f t).nodes = t.nodes) :
    AnswersMoved s (event b s f) := answersMoved_event (fun t => nodesMove_of_nodes (h t))

end

theorem unknownCommand_moved (s : State) (kind code : Byte) (tag : Tag) (p : List Byte) :
    AnswersMoved s (execUnknownCommand kind code tag p s) := by
  unfold execUnknownCommand
  split
  · exact answersMoved_next (.refl s)
  · rename_i t ht
    obtain ⟨-, -, -, rfl⟩ := takeFrame_some s t _ ht
    split_ifs <;> exact answersMoved_next (nodesMove_of_nodes rfl)

theorem exec_moved (i : Instr) (s : State) : AnswersMoved s (exec i s) := by
  cases i with
  | circuitDefine tag p => exact answersMoved_still (fun c t => nodes_circuitDefineBody t c p)
  | circuitReport tag p =>
    exact answersMoved_still (fun c t => nodes_fixedLength t c (nodes_rangeCommand t c (carryOut := carryReport c _ _) rfl))
  | circuitRetire tag p => exact answersMoved_still (fun c t => nodes_rangeBody t c nodes_retireOne)
  | circuitSuspend tag p => exact answersMoved_still (fun c t => nodes_rangeBody t c nodes_suspendOne)
  | circuitResume tag p => exact answersMoved_still (fun c t => nodes_rangeBody t c (one := State.resumeOne) (fun _ _ => rfl))
  | circuitBaselineClear tag p =>
    exact answersMoved_still (fun c t => nodes_rangeBody t c (one := State.clearBaselines) (fun _ _ => rfl))
  | engineEnable tag p => exact answersMoved_still (fun c t => nodes_engineCommand t c (fun e => nodes_enable _ e))
  | engineDisable tag p => exact answersMoved_still (fun c t => nodes_engineCommand t c (fun e => nodes_disable _ e))
  | engineCalibrate tag p => exact answersMoved_still (fun c t => nodes_engineCommand t c (nodes_engineCalibrateBody t c))
  | engineReport tag p => exact answersMoved_still (fun c t => nodes_engineCommand t c (fun _ => rfl))
  | campaignStart tag p => exact answersMoved_still (fun c t => nodes_campaignStartBody t c p)
  | campaignAdd tag p => exact answersMoved_still (fun c t => nodes_campaignAddBody t c p)
  | campaignPause tag p => exact answersMoved_still (fun c t => nodes_campaignCommand t c rfl)
  | campaignResume tag p => exact answersMoved_still (fun c t => nodes_campaignCommand t c (nodes_campaignResumeBody t c))
  | campaignCancel tag p => exact answersMoved_still (fun c t => nodes_campaignCommand t c (nodes_campaignCancelBody t c))
  | campaignAbort tag p => exact answersMoved_still (fun c t => nodes_campaignCommand t c (nodes_campaignAbortBody t c))
  | campaignReport tag p => exact answersMoved_still (fun c t => nodes_fixedLength t c rfl)
  | classSet tag p => exact answersMoved_still (fun c t => nodes_fixedLength t c (nodes_classSetBody t c p))
  | probeCircuit tag p => exact answersMoved_still (fun c t => nodes_fixedLength t c (nodes_probeCircuitBody t c p))
  | pointSet tag p => exact answersMoved_still (fun c t => nodes_fixedLength t c (nodes_pointSetBody t c p))
  | pointReport tag p => exact answersMoved_still (fun c t => nodes_fixedLength t c rfl)
  | nodeSet tag p => exact answersMoved_command (fun c t => nodesMove_fixedLength t c (nodesMove_nodeSetBody t c p))
  | nodeReport tag p => exact answersMoved_still (fun c t => nodes_fixedLength t c rfl)
  | nodeHold tag p => exact answersMoved_command (fun c t => nodesMove_nodeCommand t c (nodesMove_nodeHoldBody t c))
  | nodeRelease tag p => exact answersMoved_command (fun c t => nodesMove_nodeCommand t c (nodesMove_nodeReleaseBody t c))
  | releaseRetry tag p => exact answersMoved_still (fun c t => nodes_fixedLength t c (nodes_releaseRetryBody t c p))
  | openLoopClear tag p =>
    exact answersMoved_command (fun c t => nodesMove_fixedLength t c (nodesMove_openLoopClearBody t c p))
  | openLoopReport tag p => exact answersMoved_still (fun c t => nodes_fixedLength t c rfl)
  | matrixSet tag p => exact answersMoved_still (fun c t => nodes_fixedLength t c rfl)
  | matrixResync tag p => exact answersMoved_still (fun c t => nodes_fixedLength t c (nodes_matrixResyncBody t c))
  | deviceStatus tag p => exact answersMoved_still (fun c t => nodes_fixedLength t c rfl)
  | deviceReset tag p => exact answersMoved_command (fun c t => nodesMove_fixedLength t c (nodesMove_deviceResetBody t c p))
  | unknownCommand kind code tag p => exact unknownCommand_moved s kind code tag p
  | coldReset a b => exact answersMoved_next (nodesMove_coldFrom s a b)
  | frameReceived bytes => exact answersMoved_stillEvent (fun t => nodes_foldl nodes_linkByte bytes t)
  | lineError => exact answersMoved_stillEvent (fun _ => rfl)
  | frameGap => exact answersMoved_stillEvent (fun _ => rfl)
  | recordSent => exact answersMoved_stillEvent (fun t => nodes_recordLeaves t)
  | ready => exact answersMoved_stillEvent (fun t => nodes_placeReady t)
  | timeBaseTick lanes => exact answersMoved_next (nodesMove_of_nodes rfl)
  | arbiterRun => exact answersMoved_event (fun t => nodesMove_runArbiter t)
  | requestSent => exact answersMoved_stillEvent (fun _ => rfl)
  | matrixAnswer bytes => exact answersMoved_next (nodesMove_foldl _ nodesMove_answerByte bytes s)
  | matrixAnswerGap => exact answersMoved_stillEvent (fun _ => rfl)
  | matrixTimeout => exact answersMoved_event (fun t => nodesMove_timeOut t)
  | settleEnd ev =>
    exact answersMoved_stillEvent (f := fun t => (t.moveTo ev.moment).settleEnds ev.engine.val)
      (fun t => by rw [nodes_settleEnds, nodes_moveTo])
  | loopConfirmed e =>
    exact answersMoved_event (f := fun t => (t.reportConfirmed (s.engine e.val).farNode).startSoak e.val)
      (fun t => (nodesMove_reportConfirmed t (s.engine e.val).farNode).then_nodes (by simp))
  | loopUpTimeout e => exact answersMoved_event (fun t => nodesMove_loopUpExpires t e.val)
  | retrySpacingEnd e => exact answersMoved_stillEvent (f := fun t => t.startLoopUp e.val) (fun t => by simp)
  | aisRaised e => exact answersMoved_stillEvent (fun t => nodes_aisEnds t _)
  | signalDropout e =>
    exact answersMoved_stillEvent (f := fun t => (t.writeOutcome (s.leadOf e.val) .signalDropout).endSoak (s.leadOf e.val))
      (fun t => by simp [State.endSoak])
  | checkerSyncGain e rx m =>
    exact answersMoved_stillEvent (f := fun t => ((t.hear e.val rx m).takeGain e.val).syncGained e.val (s.leadOf e.val))
      (fun t => by rw [nodes_syncGained, nodes_takeGain, nodes_hear])
  | syncLoss ev rx => exact answersMoved_stillEvent (fun t => nodes_hear t ev.engine.val rx ev.moment)
  | marker e => exact answersMoved_stillEvent (f := fun t => t.placeMarker e.val) (fun t => by simp [State.placeMarker])
  | delayWordFound e rx m =>
    exact answersMoved_stillEvent (f := fun t => (t.hear e.val rx m).wordFound e.val)
      (fun t => by rw [nodes_wordFound, nodes_hear])
  | delayWordTimeout ev =>
    exact answersMoved_stillEvent (f := fun t => (t.moveTo ev.moment).wordLost ev.engine.val)
      (fun t => by rw [nodes_wordLost, nodes_moveTo])
  | calibrationLimit e => exact answersMoved_stillEvent (f := fun t => t.startDisconnect e.val) (fun t => by simp)
  | soakTimeEnd e => exact answersMoved_stillEvent (f := fun t => t.endSoak e.val) (fun t => by simp [State.endSoak])
  | releaseHoldEnd e => exact answersMoved_stillEvent (f := fun t => t.startCheck e.val) (fun t => by simp)
  | releaseCheckEnd e => exact answersMoved_event (fun t => nodesMove_releaseProven t e.val)
  | courtesyHoldEnd e => exact answersMoved_event (fun t => nodesMove_releaseEnd t e.val)
  | creditAccrual k => exact answersMoved_stillEvent (f := fun t => t.accrue k.val) (fun t => by simp [State.accrue])
  | deadlineExpiry => exact answersMoved_stillEvent (f := fun t => (t.drain .deadline .deadline).testEnd) (fun t => by simp)
  | nextEligibleReached n =>
    exact answersMoved_event (f := fun t => (t.setNode n.val { t.node n.val with waitPending := false }).startRun)
      (fun t => (nodesMove_setNode t n.val (.waited _)).then_nodes rfl)

/-- A step moves the nodes by the rules: the queue of pending steps names none of them. -/
theorem step_nodesMove {s t : State} (h : step s = .next t) : s.NodesMove t := by
  unfold step at h
  split at h
  · cases h; exact .refl s
  · rename_i c rest _
    exact (exec_moved c { s with pending := rest } t h).after_nodes rfl

/-- Settles O7: a step is made of moves of the rules, and each of them keeps the ranges. -/
theorem backoffStaysInRange : Obligations.BackoffStaysInRange := fun _ _ hs h => (step_nodesMove h).inRange hs

end Sys2Proof.Machine
end


section
/-! SUPPORT. NODE_HOLD and NODE_RELEASE: the command behind its reply (R140, R142 to R144). -/

namespace Sys2Proof.Machine

/-! ## A command of one node (R142, R143) -/

section
variable {s : State} {code : Byte} {tag : Tag} {b : Byte} {rest : List Frame} {body : Cmd → Nat → State → State}

/-- A node number above 63 refuses the command; with any other its body acts on the node. -/
theorem hostCommand_node (ht : s.Takes code tag [b] rest) :
    (63 < b.toNat → hostCommand code tag [b] s (fun c => nodeCommand [b] c (body c)) =
      .next (s.answered rest (replyTo code tag .badField false []))) ∧
    (b.toNat ≤ 63 → hostCommand code tag [b] s (fun c => nodeCommand [b] c (body c)) =
      .next (body ⟨code, tag⟩ b.toNat (s.taken rest))) := by
  have hb : rd8 [b] 0 = b.toNat := rfl
  rw [hostCommand_takes ht, nodeCommand, fixedLength_of_eq (n := 1) (p := [b]) rfl, hb]
  exact ⟨fun h => congrArg _ (if_neg (by omega)), fun h => congrArg _ (if_pos h)⟩

end

/-- Settles O38: the reply with the state before, then the entry released and a run. -/
theorem releaseClearsTheBackoff : Obligations.ReleaseClearsTheBackoff := by
  intro tag b rest s ht
  obtain ⟨hrefused, htaken⟩ := hostCommand_node (body := nodeReleaseBody) ht
  refine ⟨hrefused, fun h => (htaken h).trans (congrArg _ ?_)⟩
  have hstate : be8 (s.node b.toNat).state.byte = [if (s.node b.toNat).state = .active then 0 else 1] := by
    cases (s.node b.toNat).state <;> rfl
  rw [← hstate]
  rfl

/-! ## What a hold leaves of the run mark and the receive buffer -/

/-- Removals of which each starts a run start one where there is any. -/
theorem runDue_foldl {β : Type} {f : State → β → State} {l : List β} (h : ∀ s, ∀ x ∈ l, (f s x).runDue = true)
    (s : State) : (l.foldl f s).runDue = (s.runDue || !l.isEmpty) := by
  induction l generalizing s with
  | nil => simp
  | cons x rest ih =>
    obtain ⟨hx, hrest⟩ := forall_and.1 (fun t => List.forall_mem_cons.1 (h t))
    rw [List.foldl_cons, ih hrest, hx]
    simp

theorem runDue_removeSpot {x : SpotEntry} (hx : x.calibrates = false) (s : State) (st : Status) :
    (s.removeSpot st x).runDue = true := by
  match x with
  | .probe c none => rfl
  | .probe c (some i) => rfl
  | .releaseOnly c => rfl
  | .calibration _ _ => cases hx

theorem rxBuffer_removeSpot (s : State) (st : Status) (x : SpotEntry) :
    (s.removeSpot st x).mli.rxBuffer = s.mli.rxBuffer := by
  match x with
  | .probe c none => simp [State.removeSpot]
  | .probe c (some i) => simp [State.removeSpot]
  | .releaseOnly c => simp [State.removeSpot]
  | .calibration _ _ => rfl

section
variable (a : State) (n : Nat) (cause : HoldCause)

theorem runDue_workGone : (a.workGone n).runDue =
    (a.runDue || !(a.heldClassEntries n).isEmpty || !(a.heldSpotEntries n).isEmpty) := by
  have hspot : ∀ t, ∀ x ∈ a.heldSpotEntries n, (State.removeSpot t .nodeHeld x).runDue = true := fun t x hx =>
    runDue_removeSpot (calibrates_of_spotAtNode x (List.mem_filter.1 hx).2) t .nodeHeld
  rw [State.workGone, runDue_foldl hspot, runDue_foldl (fun _ _ _ => rfl)]

theorem rxBuffer_workGone : (a.workGone n).mli.rxBuffer = a.mli.rxBuffer := by
  rw [State.workGone, foldl_keeps _ (fun t => t.mli.rxBuffer) (fun t x => rxBuffer_removeSpot t .nodeHeld x)]
  simp only [removals_frame]

/-- The last tests of a hold write neither. -/
theorem holdDone_workGone : (a.holdDone n cause).runDue = (a.workGone n).runDue ∧
    (a.holdDone n cause).mli.rxBuffer = (a.workGone n).mli.rxBuffer := by
  have hend (t : State) : t.testEnd.runDue = t.runDue ∧ t.testEnd.mli.rxBuffer = t.mli.rxBuffer := by
    refine ⟨by simp, ?_⟩
    unfold State.testEnd
    split
    · exact rxBuffer_endCampaign t
    · rfl
  unfold State.holdDone State.holdOffered
  split
  · simp
  · simp [hend]

/-- A hold starts a run where it removes any entry (R140). -/
theorem runDue_holdDone : (a.holdDone n cause).runDue =
    if a.queuedCircuits.any (fun c => a.farNodeOf c == n) || a.spot.any (a.spotAtNode n) then true else a.runDue := by
  obtain ⟨hrun, -⟩ := holdDone_workGone a n cause
  have hany {β : Type} (l : List β) (p : β → Bool) : (!(l.filter p).isEmpty) = l.any p := by
    rw [Bool.eq_iff_iff]
    simp
  rw [hrun, runDue_workGone, State.heldClassEntries, State.heldSpotEntries, hany, hany, Bool.or_assoc, Bool.or_comm]
  split
  · rename_i hleft
    rw [hleft, Bool.true_or]
  · rename_i hnone
    rw [Bool.eq_false_iff.2 hnone, Bool.false_or]

end

/-! ## A hold behind the reply (R140, R142) -/

/-- What a hold takes behind a reply that has joined the transmit queue, read from the state before the reply. -/
theorem holdTakesTheWork_behind {s t : State} {rest : List Frame} {n : Nat} {r hold : TxRecord}
    (H : HoldTakesTheWork (s.answered rest r) t n [] hold) : HoldTakesTheWork s t n [r] hold := by
  obtain ⟨hqueues, hleft, hidle, hstands, hcounts, htested, hunmoved, hprefix, hrecords⟩ := H
  have htx : (s.answered rest r).mli.tx ++ [] = s.mli.tx ++ [r] := List.append_nil _
  have hlength : (s.answered rest r).mli.tx.length = s.mli.tx.length + [r].length := List.length_append
  have hanswer : removedAnswer (s.answered rest r) = removedAnswer s := rfl
  rw [htx] at hprefix
  rw [htx, hanswer, hlength] at hrecords
  exact ⟨hqueues, hleft, hidle, hstands, hcounts, htested, hunmoved, hprefix, hrecords⟩

/-! ## NODE_HOLD (R142) -/

section
variable {s : State} {n : Nat} (tag : Tag) (rest : List Frame)

theorem nodeHoldBody_of_held (h : (s.node n).state = .held) : nodeHoldBody ⟨0x44, tag⟩ n (s.taken rest) =
    s.answered rest (replyTo 0x44 tag .ok false [0, 0, 0]) := if_pos (beq_iff_eq.2 h)

/-- The reply of a hold, with the counts of the entries that it then removes. -/
def State.holdReply (s : State) (n : Nat) : TxRecord :=
  replyTo 0x44 tag .ok false
    (be16 (s.queuedCircuits.countP (fun c => s.farNodeOf c == n)) ++ be8 (s.spot.countP (s.spotAtNode n)))

/-- Behind its reply the node is HELD, its entries still queued. -/
def State.holdBegun (s : State) (n : Nat) : State :=
  (s.answered rest (s.holdReply tag n)).setNode n { s.node n with state := .held }

theorem nodeHoldBody_of_active (h : (s.node n).state = .active) :
    nodeHoldBody ⟨0x44, tag⟩ n (s.taken rest) = (s.holdBegun tag rest n).holdDone n .command := by
  have hnot : ¬(s.taken rest).heldNode n = true := fun hheld => by
    have hstate : (s.node n).state = .held := beq_iff_eq.1 hheld
    rw [h] at hstate
    cases hstate
  rw [nodeHoldBody, if_neg hnot, holdNode_eq, State.holdBegun, State.holdReply, List.countP_eq_length_filter,
    List.countP_eq_length_filter]
  rfl

theorem sameWork_holdBegun : SameWork (s.answered rest (s.holdReply tag n)) (s.holdBegun tag rest n) :=
  ⟨rfl, rfl, rfl, rfl, rfl⟩

end

/-- Settles O37: the reply, then the hold of the node, its work taken as by an auto-hold. -/
theorem holdRemovesTheNodesWork : Obligations.HoldRemovesTheNodesWork := by
  intro tag b rest s ht n at' spotAt
  obtain ⟨hrefused, htaken⟩ := hostCommand_node (body := nodeHoldBody) ht
  refine ⟨hrefused, fun hn hheld => (htaken hn).trans (congrArg _ (nodeHoldBody_of_held tag rest hheld)),
    fun hn hactive => ?_⟩
  have hspotAt : spotAt = s.spotAtNode n := by funext y; cases y <;> rfl
  rw [hspotAt]
  intro counts
  let a := s.holdBegun tag rest n
  have hlt : n < 64 := Nat.lt_succ_of_le hn
  have hnode : a.node n = { s.node n with state := .held } := node_setNode_self _ _ _ hlt
  have hothers (m : Nat) (hm : m ≠ n) : a.node m = s.node m := node_setNode_ne _ _ _ _ hm.symm
  obtain ⟨hengines, hnodes, hpoints, hopen, hamc, -⟩ := holdDone_frame a n .command
  obtain ⟨-, hrx⟩ := holdDone_workGone a n .command
  have H := holdTakesTheWork_behind (holdTakesTheWork_of_same (sameWork_holdBegun tag rest) (holdTakesTheWork a n .command))
  have hb : be8 n = [b] := by simp [be8, n]
  rw [holdRecord_eq, hnode, hb] at H
  refine ⟨a.holdDone n .command, (htaken hn).trans (congrArg _ (nodeHoldBody_of_active tag rest hactive)),
    (node_congr hnodes n).trans hnode, fun m hm => (node_congr hnodes m).trans (hothers m hm), H,
    runDue_holdDone a n .command, hrx.trans (rxBuffer_workGone a n), hengines, hpoints, hopen, hamc⟩

end Sys2Proof.Machine
end


section
/-! SUPPORT. RELEASE_RETRY and an accepted OPEN_LOOP_CLEAR (R91, R99, R150, R153). -/

namespace Sys2Proof.Machine

section
variable {s : State} {tag : Tag} {p : List Byte} {rest : List Frame} {c : Nat} {o : OpenLoop}

/-! ## RELEASE_RETRY (R150) -/

theorem exec_releaseRetry (ht : s.Takes 0x50 tag p rest) (hlen : p.length = 2) :
    exec (.releaseRetry tag p) s = .next (releaseRetryBody p ⟨0x50, tag⟩ (s.taken rest)) :=
  (hostCommand_takes ht (fun c => fixedLength 2 p c (releaseRetryBody p c))).trans
    (congrArg _ (fixedLength_of_eq hlen _ _ _))

theorem exec_releaseRetry_refused (ht : s.Takes 0x50 tag p rest) (hlen : p.length = 2) {st : Status}
    (h : retryCheck s (rd16 p 0) = some st) :
    exec (.releaseRetry tag p) s = .next (s.answered rest (replyTo 0x50 tag st false [])) := by
  have hcheck : retryCheck (s.taken rest) (rd16 p 0) = some st := h
  rw [exec_releaseRetry ht hlen, releaseRetryBody, hcheck]
  rfl

/-- Behind its reply an accepted retry waits at the tail of the spot queue, and a run is due. -/
theorem exec_releaseRetry_accepted (ht : s.Takes 0x50 tag p rest) (hlen : p.length = 2)
    (h : retryCheck s (rd16 p 0) = none) (ho : s.openLoopOf (rd16 p 0) = some o) :
    exec (.releaseRetry tag p) s = .next
      { s.answered rest (replyTo 0x50 tag .ok false (be8 o.releaseTotal)) with
        spot := s.spot ++ [.releaseOnly (rd16 p 0)], runDue := true } := by
  have hcheck : retryCheck (s.taken rest) (rd16 p 0) = none := h
  have htotal : (s.taken rest).retryTotal (rd16 p 0) = o.releaseTotal :=
    congrArg (fun x => (x.map OpenLoop.releaseTotal).getD 0) ho
  rw [exec_releaseRetry ht hlen, releaseRetryBody, hcheck]
  simp only [htotal]
  rfl

theorem retryWaits_iff (s : State) (c : Nat) : s.retryWaits c = true ↔ SpotEntry.releaseOnly c ∈ s.spot :=
  List.contains_iff_mem

/-- With an entry, the last three checks of R150 decide. -/
theorem retryCheck_of_entry (hc : c ≤ 2047) (hst : (s.circuit c).status ≠ .active) (ho : s.openLoopOf c = some o) :
    retryCheck s c =
      if SpotEntry.releaseOnly c ∈ s.spot then some .circuitBusy
      else if (s.node o.farNode).state = .held then some .nodeHeld
      else if 8 ≤ s.spot.length then some .queueFull
      else none := by
  rw [retryCheck, if_neg (Nat.not_lt.2 hc), if_neg hst, ho]
  simp only [retryWaits_iff, heldNode_iff]

end

/-- Settles O39: each check of R150 behind those before it, and what is done when all have passed. -/
theorem retryQueuesTheEntry : Obligations.RetryQueuesTheEntry := by
  intro tag p rest s ht hlen c refused
  have hrefuse (st : Status) (h : retryCheck s c = some st) : refused st := exec_releaseRetry_refused ht hlen h
  refine ⟨fun h => hrefuse _ (if_pos h), fun hc hst => hrefuse _ ?_, fun hc hst hnone => hrefuse _ ?_,
    fun o hc hst ho => ?_⟩
  · rw [retryCheck, if_neg (Nat.not_lt.2 hc), if_pos hst]
  · rw [retryCheck, if_neg (Nat.not_lt.2 hc), if_neg hst, (openLoopOf_eq_none s c).2 hnone]
  · have hcheck := retryCheck_of_entry hc hst ho
    refine ⟨fun hwaits => hrefuse _ ?_, fun hfree hheld => hrefuse _ ?_, fun hfree hopen hfull => hrefuse _ ?_,
      fun hfree hopen hroom => exec_releaseRetry_accepted ht hlen ?_ ho⟩
    · rw [hcheck, if_pos hwaits]
    · rw [hcheck, if_neg hfree, if_pos hheld]
    · rw [hcheck, if_neg hfree, if_neg hopen, if_pos hfull]
    · exact hcheck.trans (by rw [if_neg hfree, if_neg hopen, if_neg (Nat.not_le.2 hroom)])

/-! ## An accepted OPEN_LOOP_CLEAR (R153) -/

section
variable {s : State} {tag : Tag} {p : List Byte} {rest : List Frame} {c : Nat} {o : OpenLoop}

theorem clearCheck_none (hc : c ≤ 2047) (hst : (s.circuit c).status ≠ .active) (ho : s.openLoopOf c = some o) :
    clearCheck s c = none := by
  rw [clearCheck, if_neg (Nat.not_lt.2 hc), if_neg hst, if_neg (by simp [ho])]

/-- The reply of an accepted clear: the entry as it stood, and whether a retry waited. -/
def State.clearReply (s : State) (tag : Tag) (c : Nat) (o : OpenLoop) : TxRecord :=
  replyTo 0x51 tag .ok false (o.block (s.retryWaits c) (timeField o.timeEntered))

theorem exec_openLoopClear_accepted (ht : s.Takes 0x51 tag p rest) (hlen : p.length = 2)
    (h : clearCheck s (rd16 p 0) = none) (ho : s.openLoopOf (rd16 p 0) = some o) :
    exec (.openLoopClear tag p) s = .next
      (((s.answered rest (s.clearReply tag (rd16 p 0) o)).clearLoop (rd16 p 0) o).offer noticeVerdict
        (gradedPayload (rd16 p 0) manualVerdict)) := by
  have hexec : exec (.openLoopClear tag p) s = .next (openLoopClearBody p ⟨0x51, tag⟩ (s.taken rest)) :=
    (hostCommand_takes ht (fun c => fixedLength 2 p c (openLoopClearBody p c))).trans
      (congrArg _ (fixedLength_of_eq hlen _ _ _))
  have hcheck : clearCheck (s.taken rest) (rd16 p 0) = none := h
  have hentry : (s.taken rest).openLoopOf (rd16 p 0) = some o := ho
  rw [hexec, openLoopClearBody, hcheck]
  simp only [hentry]
  rfl

/-- The flag of the entry's block stands for bit 15 of its circuit word. -/
theorem clearReply_eq (ho : s.openLoopOf c = some o) : s.clearReply tag c o = replyTo 0x51 tag .ok false
    (be16 (c + if s.spot.contains (SpotEntry.releaseOnly c) then 32768 else 0) ++ be8 o.farNode ++ be8 o.accessPoint ++
      be8 o.releaseTotal ++ be8 o.activate.length ++ be8 o.deactivate.length ++ be16 o.activate.bits ++
      be16 o.deactivate.bits ++ timeField o.timeEntered) := by
  obtain ⟨-, hcircuit⟩ := openLoopOf_spec ho
  rw [State.clearReply, OpenLoop.block, hcircuit]
  rfl

/-- The slot of a cleared loop goes back to its node, and to no other. -/
theorem node_clearLoop (s : State) (c : Nat) (hn : o.farNode < 64) :
    (s.clearLoop c o).node o.farNode = { s.node o.farNode with occupancy := (s.node o.farNode).occupancy - 1 } ∧
      ∀ m, m ≠ o.farNode → (s.clearLoop c o).node m = s.node m :=
  node_returnSlot { s.leaveSpot (.releaseOnly c) with openLoops := s.openLoops.filter (fun q => q.circuit != c) } hn

/-- The entry and a waiting retry leave and a run is due; behind the notice the rest stands but for the circuit, the node
and the transmit queue. -/
theorem clearLoop_offer_frame (s : State) (c : Nat) (o : OpenLoop) (code : Byte) (q : List Byte) :
    let t := (s.clearLoop c o).offer code q
    t.openLoops = s.openLoops.filter (fun q => q.circuit != c) ∧ t.spot = s.spot.erase (.releaseOnly c) ∧
      t.circuits = (s.clearLoop c o).circuits ∧ t.nodes = (s.clearLoop c o).nodes ∧ t.runDue = true ∧
      t.mli.rxBuffer = s.mli.rxBuffer ∧ t.engines = s.engines ∧ t.points = s.points ∧ t.classes = s.classes ∧
      t.campaign = s.campaign ∧ t.amc = s.amc ∧ t.now = s.now := by
  simp [State.clearLoop, State.leaveSpot, State.returnSlot]

/-- The notice stands behind the reply, or is dropped. -/
theorem tx_clearLoop_offer (s : State) (rest : List Frame) (r : TxRecord) (c : Nat) (o : OpenLoop) (code : Byte)
    (q : List Byte) : (((s.answered rest r).clearLoop c o).offer code q).mli.tx =
      s.mli.tx ++ r :: (if s.mli.tx.length + 1 < 48 then [noticeRecord code q] else []) := by
  have hplaced : ((s.answered rest r).clearLoop c o).mli.tx = s.mli.tx ++ [r] := rfl
  have hlength : (s.mli.tx ++ [r]).length = s.mli.tx.length + 1 := List.length_append
  rw [offer_tx, hplaced, hlength]
  split
  · exact List.append_assoc _ _ _
  · rfl

end

/-- Settles O40: the entry, its slot and the circuit's record are those of `clearLoop`, between the reply and the notice. -/
theorem clearReleasesTheSlot : Obligations.ClearReleasesTheSlot := by
  intro tag p rest s o ht hlen c reply manual hc hst ho hn
  have hreply : s.clearReply tag c o = reply := clearReply_eq ho
  have hexec := exec_openLoopClear_accepted ht hlen (clearCheck_none hc hst ho) ho
  have htx := tx_clearLoop_offer s rest (s.clearReply tag c o) c o noticeVerdict (gradedPayload c manualVerdict)
  rw [noticeVerdict_eq, hreply] at htx
  rw [hreply] at hexec
  let a := s.answered rest reply
  obtain ⟨hloops, hspot, hcircuits, hnodes, hrun, hframe⟩ :=
    clearLoop_offer_frame a c o noticeVerdict (gradedPayload c manualVerdict)
  obtain ⟨hnode, hothers⟩ := node_clearLoop a c hn
  have hcleared := (circuit_clearLoop a c c o).trans (if_pos ⟨rfl, Nat.lt_succ_of_le hc⟩)
  have hkept (d : Nat) (hd : d ≠ c) := (circuit_clearLoop a c d o).trans (if_neg (fun h => hd h.1.symm))
  exact ⟨_, hexec, hloops, hspot, (node_congr hnodes _).trans hnode, fun m hm => (node_congr hnodes m).trans (hothers m hm),
    (circuit_congr hcircuits c).trans hcleared, fun d hd => (circuit_congr hcircuits d).trans (hkept d hd), hrun, htx, hframe⟩

end Sys2Proof.Machine
end


section
/-! SUPPORT. MATRIX_SET, the reply of a calibration, and a DISCONNECT that fails (R26, R41, R162 to R164). -/

namespace Sys2Proof.Machine

/-! ## MATRIX_SET (R162) -/

/-- Settles O42: both clamped values stored behind the reply, or a wrong length refused. -/
theorem matrixSetStoresBothTimings : Obligations.MatrixSetStoresBothTimings := by
  intro tag p rest s ht timeout settle
  have hexec : exec (.matrixSet tag p) s =
      .next (fixedLength 4 p ⟨0x60, tag⟩ (matrixSetBody p ⟨0x60, tag⟩) (s.taken rest)) :=
    hostCommand_takes ht (fun c => fixedLength 4 p c (matrixSetBody p c))
  exact ⟨fun hlen => hexec.trans (congrArg _ (fixedLength_of_eq hlen _ _ _)),
    fun hlen => hexec.trans (congrArg _ (fixedLength_of_ne hlen _ _ _))⟩

/-! ## The requester of a DISCONNECT -/

theorem requesterActs_disconnect {s : State} {r : Request} {e : Nat} {x : Context} (hr : r.requester = .engine e)
    (hop : r.op = .disconnect) (hx : (s.engine e).context = some x) (k : Completion) :
    s.requesterActs r k = s.disconnectCompleted e x k := by
  simp only [State.requesterActs, hr, hx, hop]

/-! ## The reply of a calibration (R41) -/

theorem calibrationPayload_eq (d : DeferredSlot) (i e : Nat) (x : Context) (g : Engine) (st : EngineState) :
    ⟨.reply, d.code, d.tag, if x.calDelay.isSome then .ok else .calFailed, false, false,
      calibrationPayload e x.calDelay g.localOffset st, some i⟩ = calibrationReply d i e x g st := by
  rw [calibrationReply]
  cases x.calDelay <;> rfl

/-- The records with which a calibration is answered: none where no reply waits. -/
def State.calibrationReplies (s : State) (e : Nat) (x : Context) (st : EngineState) : List TxRecord :=
  match x.slot with
  | some i =>
    match s.slot i with
    | some d => if d.placed then [] else [calibrationReply d i e x (s.engine e) st]
    | none => []
  | none => []

theorem tx_answerCalibrationOf_replies (s : State) (e : Nat) (x : Context) (st : EngineState) :
    (s.answerCalibrationOf e x st).mli.tx = s.mli.tx ++ s.calibrationReplies e x st := by
  unfold State.answerCalibrationOf State.calibrationReplies State.answer
  cases x.slot with
  | none => simp
  | some i =>
    cases hd : s.slot i with
    | none => simp [hd]
    | some d =>
      cases hp : d.placed with
      | true => simp [hd, hp]
      | false => simp [hd, hp, calibrationPayload_eq]

theorem calibrationReplies_of_waiting {s : State} {x : Context} {i : Nat} {d : DeferredSlot} (hslot : x.slot = some i)
    (hd : s.slot i = some d) (hp : d.placed = false) (e : Nat) (st : EngineState) :
    s.calibrationReplies e x st = [calibrationReply d i e x (s.engine e) st] := by
  simp [State.calibrationReplies, hslot, hd, hp]

/-- Only a calibration is answered; the slot decides whether a reply waits. -/
theorem calibrationReplies_if (s : State) (e : Nat) (x : Context) (st : EngineState) :
    (if x.kind = .calibration then s.calibrationReplies e x st else []) =
      match x.slot with
      | some i => if x.kind = .calibration then (match s.slot i with
          | some d => if d.placed then [] else [calibrationReply d i e x (s.engine e) st]
          | none => []) else []
      | none => [] := by
  unfold State.calibrationReplies
  cases x.slot with
  | none => exact ite_self _
  | some i => rfl

theorem calibrationReplies_congr {s b : State} {e : Nat} (hslots : b.mli.slots = s.mli.slots)
    (hoff : (b.engine e).localOffset = (s.engine e).localOffset) (x : Context) (st : EngineState) :
    b.calibrationReplies e x st = s.calibrationReplies e x st := by
  simp only [State.calibrationReplies, State.slot, hslots, calibrationReply, hoff]

/-! ## A DISCONNECT that fails (R163) -/

theorem disconnectCompleted_of_failure {k : Completion} (hk : k ≠ .done) (s : State) (e : Nat) (x : Context) :
    s.disconnectCompleted e x k = s.disconnectFails e x k := by
  cases k with
  | done => exact absurd rfl hk
  | refused r => rfl
  | timeout => rfl

theorem quarantineEngines_eta (s : State) (e : Nat) (wide : Bool) :
    s.quarantineEngines e wide = { s with engines := (s.quarantineEngines e wide).engines } := by
  cases wide <;> rfl

theorem offer_eta (s : State) (code : Byte) (p : List Byte) : s.offer code p = { s with mli := (s.offer code p).mli } := by
  unfold State.offer
  split <;> rfl

/-- The ENGINE_QUARANTINE notice (R163, section 11.6). -/
def quarantineRecord (e : Nat) (x : Context) (k : Completion) (count : Nat) : TxRecord :=
  noticeRecord noticeEngineQuarantine (quarantinePayload e x k count)

theorem quarantineRecord_eq (e : Nat) (x : Context) (k : Completion) (count : Nat) : quarantineRecord e x k count =
    ⟨.notice, 0x86, 0, .ok, false, false,
      be8 e ++ be8 (if x.rate = .wide then e + 1 else 0xFF) ++
        (match x.accessPoint with
          | some p => be8 1 ++ be8 p
          | none => [0, 0]) ++ be16 (x.circuit.getD 0xFFFF) ++ be8 k.byte ++ be8 k.reasonByte ++ be8 count, none⟩ := by
  cases hap : x.accessPoint <;> cases hrate : x.rate <;>
    simp [quarantineRecord, noticeRecord, noticeEngineQuarantine, quarantinePayload, engineField, circuitField, bit, be8, hap,
      hrate]

/-- A quarantined engine's record, offset and pending disable are those it had. -/
theorem quarantined_effect {s : State} {e : Nat} {wide : Bool} (he : e < 16) (hpair : wide = true → e + 1 < 16) :
    let t := s.quarantineEngines e wide
    (∀ d, (d = e ∨ (wide = true ∧ d = e + 1)) → t.engine d = (s.engine d).resting .quarantined) ∧
      ∀ d, d ≠ e → (wide = false ∨ d ≠ e + 1) → t.engine d = s.engine d := by
  intro t
  obtain ⟨hself, hfollower, hothers⟩ := engine_quarantineEngines s e wide he hpair
  refine ⟨fun d hd => ?_, fun d hd hnot => hothers d hd (fun hw => hnot.resolve_left (by simp [hw]))⟩
  rcases hd with rfl | ⟨hw, rfl⟩
  · exact hself
  · exact hfollower hw

/-- The reply of a calibration, where the failed DISCONNECT was one's (R41). -/
theorem quarantineAnswer_effect (v : State) (e : Nat) (x : Context) :
    let t := if x.kind = .calibration then v.answerCalibrationOf e x .quarantined else v
    t = { v with mli := t.mli } ∧
      t.mli.tx = v.mli.tx ++ if x.kind = .calibration then v.calibrationReplies e x .quarantined else [] := by
  by_cases hk : x.kind = .calibration
  · simp only [if_pos hk]
    exact ⟨answerCalibrationOf_eta v e x _, tx_answerCalibrationOf_replies v e x _⟩
  · simp [hk]

/-- A failed DISCONNECT moves the engines and the records alone: the engines rest QUARANTINED, the notice goes out below 48
records, and a calibration is answered behind it. -/
theorem disconnectFails_effect (s : State) {e : Nat} {x : Context} (he : e < 16) (hpair : x.rate = .wide → e + 1 < 16)
    (k : Completion) :
    let t := s.disconnectFails e x k
    t = { s with engines := t.engines, mli := t.mli } ∧ t.engines = (s.quarantineEngines e (x.rate == .wide)).engines ∧
      (s.mli.tx.length < 48 → t.mli.tx = s.mli.tx ++ quarantineRecord e x k t.quarantinedCount ::
        if x.kind = .calibration then s.calibrationReplies e x .quarantined else []) := by
  intro t
  let u := s.quarantineEngines e (x.rate == .wide)
  let v := u.offer noticeEngineQuarantine (quarantinePayload e x k u.quarantinedCount)
  have hu : u = { s with engines := u.engines } := quarantineEngines_eta s e _
  have humli : u.mli = s.mli := by rw [hu]
  have hv : v = { u with mli := v.mli } := offer_eta u _ _
  have hvengines : v.engines = u.engines := by rw [hv]
  obtain ⟨ht, htx⟩ := quarantineAnswer_effect v e x
  change t = { v with mli := t.mli } at ht
  change t.mli.tx = _ at htx
  have hengines : t.engines = u.engines := by rw [ht, hvengines]
  refine ⟨by rw [hengines]; rw [ht, hv, hu], hengines, fun hlen => ?_⟩
  have hcount : t.quarantinedCount = u.quarantinedCount := by rw [State.quarantinedCount, hengines]; rfl
  have hslots : v.mli.slots = s.mli.slots := (offer_mli_frame u _ _).1.trans (congrArg _ humli)
  have hoff : (v.engine e).localOffset = (s.engine e).localOffset := by
    obtain ⟨hrest, -⟩ := quarantined_effect (s := s) (wide := x.rate == .wide) he (by simpa using hpair)
    rw [engine_congr hvengines, hrest e (.inl rfl)]
    rfl
  have hvtx : v.mli.tx = s.mli.tx ++ [quarantineRecord e x k u.quarantinedCount] := by
    rw [← humli] at hlen ⊢
    exact (offer_tx u _ _).trans (if_pos hlen)
  rw [htx, hvtx, calibrationReplies_congr hslots hoff, hcount, List.append_assoc]
  rfl

/-- Settles O46: the failure is heard of, the engines are quarantined behind its notice. -/
theorem failedDisconnectQuarantines : Obligations.FailedDisconnectQuarantines := by
  intro s c q k e x hstep hk hr hop hx hpair
  obtain ⟨rx, rxAt, hexec⟩ := exec_completes_withReceiver hstep
  have hear := hearsOfFailure (s.withReceiver rx rxAt) (by simp [hop]) hr hk
  generalize hb : ((s.withReceiver rx rxAt).closeRequest q k).faultNotice q k = b at hear
  have heng (d : Nat) : b.engine d = s.engine d := hear.acts.engine d
  have ht : (s.withReceiver rx rxAt).complete q k = b.disconnectFails e.val x k := by
    rw [← disconnectCompleted_of_failure hk, ← requesterActs_disconnect hr hop (by rw [heng]; exact hx), ← hb]
    rfl
  obtain ⟨hrest, hothers⟩ := quarantined_effect (s := b) (wide := x.rate == .wide) e.isLt (by simpa using hpair)
  obtain ⟨heta, hengines, htx⟩ := disconnectFails_effect b e.isLt hpair k
  rw [← ht] at heta hengines htx
  have hamc : ((s.withReceiver rx rxAt).complete q k).amc = (s.withReceiver rx rxAt).amc.advanced := by
    rw [heta, hear.acts.amc]
  refine ⟨_, hexec, fun d hd => ?_, fun d hd hnot => ?_, movesOn_of_advanced (s := s.withReceiver rx rxAt) hamc, ?_,
    fun hlen => ?_, ?_⟩
  · rw [engine_congr hengines, hrest d (by simpa using hd), heng]
    exact ⟨rfl, rfl, rfl, rfl, rfl⟩
  · rw [engine_congr hengines, hothers d hd (hnot.imp_left (fun h => by simp [h])), heng]
  · rw [hamc, advanced_link]
    rfl
  · have hbtx : b.mli.tx = s.mli.tx ++ [faultRecord q e.val k s.amc.link] := hear.tx (Nat.lt_succ_of_lt hlen)
    have hblen : b.mli.tx.length < 48 := by rw [hbtx, List.length_append]; exact Nat.add_lt_add_right hlen 1
    have hreplies : b.calibrationReplies e.val x .quarantined = s.calibrationReplies e.val x .quarantined :=
      calibrationReplies_congr hear.slots (congrArg _ (heng _)) x _
    rw [htx hblen, hbtx, hreplies, quarantineRecord_eq, calibrationReplies_if]
    exact (List.append_assoc _ _ _).trans (List.append_assoc _ [_, _] _).symm
  · rw [heta, hear.state]
    rfl

end Sys2Proof.Machine
end


section
/-! SUPPORT. O44: answers that come late, and requests of an engine that are DONE (R40, R41, R48, R65, R104, R159, R183). -/

namespace Sys2Proof.Machine

/-! ## An answer that comes late (R159, R183) -/

theorem matrixOp_of_byte {op : Byte} (h : op = 1 ∨ op = 2 ∨ op = 3 ∨ op = 4) :
    ∃ o : MatrixOp, op = BitVec.ofNat 8 o.byte := by
  rcases h with rfl | rfl | rfl | rfl
  exacts [⟨.connect, rfl⟩, ⟨.disconnect, rfl⟩, ⟨.loopPort, rfl⟩, ⟨.resetAll, rfl⟩]

theorem reason_of_byte {reason : Byte} (h : reason = 1 ∨ reason = 2 ∨ reason = 3) :
    ∃ r : Reason, reason = BitVec.ofNat 8 r.byte := by
  rcases h with rfl | rfl | rfl
  exacts [⟨.pointFault, rfl⟩, ⟨.laneFault, rfl⟩, ⟨.busy, rfl⟩]

theorem takeAnswer_late {s : State} {a : Answer} (h : ∀ q, s.amc.current = some q → q.seq ≠ a.seq) :
    s.takeAnswer a = s.countLate := by
  unfold State.takeAnswer
  cases hq : s.amc.current with
  | none => rfl
  | some q => exact if_pos (h q hq)

/-- An answer whose number is not that of the current request counts as late. -/
theorem exec_matrixAnswer_late {s : State} (hrx : s.amc.rx = []) {seq code reason : Byte} {op : MatrixOp} {k : Completion}
    (hk : (code = 1 ∧ k = .done) ∨ (code = 2 ∧ ∃ r : Reason, reason = BitVec.ofNat 8 r.byte ∧ k = .refused r))
    (hlate : ∀ q, s.amc.current = some q → q.seq ≠ seq.toNat) :
    exec (.matrixAnswer (answerFrame code seq (BitVec.ofNat 8 op.byte) reason)) s = .next (s.setAnswerRx []).countLate := by
  obtain ⟨more, b, hframe, hlen, hread⟩ := answerFrame_reads seq op hk
  change execMatrixAnswer _ s = _
  rw [hframe, execMatrixAnswer, foldl_answerByte_frame hrx hlen hread]
  exact congrArg _ (takeAnswer_late (s := s.setAnswerRx []) hlate)

/-! ## A request that is DONE (R159) -/

/-- The current request, no RESET_ALL, is done with. -/
def State.movedOn (s : State) : State := { s with amc := s.amc.advanced }

/-- A DONE offers no notice. -/
theorem complete_done {s : State} {q : CurrentRequest} (hop : q.request.op ≠ .resetAll) :
    s.complete q .done = s.movedOn.requesterActs q.request .done := by
  rw [State.complete, closeRequest_of_op hop, State.faultNotice, if_pos (.inl rfl)]
  rfl

theorem advanced_eq (a : Amc) : a.advanced = { a with
    fifo := a.fifo.tail
    current := a.fifo.head?.map (fun r => ⟨r, a.nextSeq, a.timeout, none⟩)
    nextSeq := a.advanced.nextSeq } := by
  unfold Amc.advanced
  cases a.fifo <;> simp

/-- DONE of a CONNECT or a LOOP_PORT begins the settle wait (R48, R40). -/
theorem settleBegun {s : State} {q : CurrentRequest} {e : Nat} {x : Context} (hr : q.request.requester = .engine e)
    (hop : q.request.op = .connect ∨ q.request.op = .loopPort) (hx : (s.engine e).context = some x) :
    s.complete q .done = s.movedOn.settleBegins e := by
  have hreset : q.request.op ≠ .resetAll := by rcases hop with h | h <;> simp [h]
  obtain ⟨hconnect, hloopPort⟩ := requesterActs_engine (s := s.movedOn) hr hx .done
  rw [complete_done hreset]
  exact hop.elim hconnect hloopPort

theorem disconnectDone {s : State} {q : CurrentRequest} {e : Nat} {x : Context} (hr : q.request.requester = .engine e)
    (hop : q.request.op = .disconnect) (hx : (s.engine e).context = some x) :
    s.complete q .done = s.movedOn.disconnected e x := by
  rw [complete_done (by simp [hop])]
  exact requesterActs_disconnect (s := s.movedOn) hr hop hx .done

/-! ## The engine leaves behind its DISCONNECT (R41, R65) -/

theorem point_unlock (s : State) {p : Nat} (hp : p < 256) :
    (s.unlock p).point p = { s.point p with owner := none } ∧ ∀ m, m ≠ p → (s.unlock p).point m = s.point m :=
  ⟨point_setPoint_self _ _ _ hp, fun _ hm => point_setPoint_ne _ _ _ _ hm.symm⟩

/-- The lock is cleared and the engines of the probe leave (R65). -/
theorem probeDisconnected_effect {s : State} {e p : Nat} {x : Context} (he : e < 16) (hx : (s.engine e).context = some x)
    (hk : x.kind ≠ .calibration) (hp : x.accessPoint = some p) (hlt : p < 256) (hpair : x.rate = .wide → e + 1 < 16) :
    let t := s.disconnected e x
    t.point p = { s.point p with owner := none } ∧ (∀ m, m ≠ p → t.point m = s.point m) ∧
      (∀ d, d = e ∨ (x.rate = .wide ∧ d = e + 1) → HasLeft (s.engine d) (t.engine d)) ∧
      (∀ d, d ≠ e → (x.rate = .base ∨ d ≠ e + 1) → t.engine d = s.engine d) ∧ t.runDue = true := by
  intro t
  have ht : t = (s.unlock p).pairLeaves e := (if_neg hk).trans (by rw [hp]; rfl)
  have hwide : ((s.unlock p).engine e).wide = (x.rate == .wide) := wide_of_context hx
  have hpoint (m : Nat) : t.point m = (s.unlock p).point m := by rw [ht]; exact point_congr (by simp) m
  obtain ⟨hself, hothers⟩ := point_unlock s hlt
  obtain ⟨hleft, hstay, -, hrun, -⟩ := pairLeaves_effect (s.unlock p) he (by simpa [hwide] using hpair)
  rw [hwide, ← ht] at hleft hstay
  rw [← ht] at hrun
  simp only [beq_iff_eq] at hleft hstay
  refine ⟨(hpoint p).trans hself, fun m hm => (hpoint m).trans (hothers m hm), hleft, fun d hd hnot => hstay d ?_, hrun rfl⟩
  rintro (rfl | ⟨hw, rfl⟩)
  · exact hd rfl
  · exact hnot.elim (fun h => by simp [hw] at h) (fun h => h rfl)

/-- The calibration is answered and its engine leaves (R41). -/
theorem calibrationDisconnected_effect {s : State} {e : Nat} {x : Context} (he : e < 16) (hk : x.kind = .calibration) :
    let t := s.disconnected e x
    HasLeft (s.engine e) (t.engine e) ∧ (∀ m, m ≠ e → t.engine m = s.engine m) ∧
      (∃ more, t.mli.tx = s.mli.tx ++ s.calibrationReplies e x (s.engine e).leavesFor ++ more) ∧ t.points = s.points := by
  intro t
  let a := s.answerCalibrationOf e x (s.engine e).leavesFor
  have ht : t = a.engineLeaves e := if_pos hk
  have heta : a = { s with mli := a.mli } := answerCalibrationOf_eta s e x _
  have heng (d : Nat) : a.engine d = s.engine d := by rw [heta]; rfl
  obtain ⟨-, more, hmore, -⟩ := repliesBehind_engineLeaves a e
  rw [ht]
  refine ⟨?_, fun m hm => (engine_engineLeaves_ne _ _ _ hm).trans (heng m),
    ⟨more, hmore.trans (by rw [tx_answerCalibrationOf_replies])⟩, ?_⟩
  · rw [← heng]
    exact hasLeft_engineLeaves a he
  · rw [show (a.engineLeaves e).points = a.points by simp, heta]

theorem disconnected_frame (s : State) (e : Nat) (x : Context) :
    (s.disconnected e x).circuits = s.circuits ∧ (s.disconnected e x).nodes = s.nodes ∧
    (s.disconnected e x).classes = s.classes ∧ (s.disconnected e x).campaign = s.campaign ∧
    (s.disconnected e x).openLoops = s.openLoops ∧ (s.disconnected e x).now = s.now ∧
    (s.disconnected e x).amc = s.amc := by
  unfold State.disconnected
  split
  · rw [answerCalibrationOf_eta]
    simp
  · simp

/-! ## O44 -/

/-- Settles O44: an answer out of turn, the settle wait, and the engine's leaving behind its DISCONNECT. -/
theorem answersReachTheEngine : Obligations.AnswersReachTheEngine := by
  refine ⟨fun seq s bytes hrx => ⟨?late, ?settle⟩, fun s c q e x hstep hr hop hx hpair => ?disconnect⟩
  case late =>
    rintro code op reason hcode hop rfl hlate
    obtain ⟨o, rfl⟩ := matrixOp_of_byte hop
    obtain ⟨k, hk⟩ : ∃ k : Completion, (code = 1 ∧ k = .done) ∨
        (code = 2 ∧ ∃ r : Reason, reason = BitVec.ofNat 8 r.byte ∧ k = .refused r) := by
      rcases hcode with h | ⟨h, hreason⟩
      · exact ⟨.done, .inl ⟨h, rfl⟩⟩
      · obtain ⟨r, hr⟩ := reason_of_byte hreason
        exact ⟨.refused r, .inr ⟨h, r, hr, rfl⟩⟩
    rw [exec_matrixAnswer_late hrx hk hlate, ← hrx]
    rfl
  case settle =>
    rintro q e x op rfl hq hseq hr hop hx
    have hbyte : op = BitVec.ofNat 8 q.request.op.byte := by rcases hop with ⟨rfl, h⟩ | ⟨rfl, h⟩ <;> rw [h] <;> rfl
    have hexec := exec_matrixAnswer hq hrx hseq (code := 1) (reason := 0) (.inl ⟨rfl, rfl⟩)
    rw [settleBegun (s := s.setAnswerRx []) hr (hop.imp And.right And.right) hx, ← hbyte, State.movedOn, advanced_eq] at hexec
    exact ⟨_, hexec, modEngine_self _ _ _ e.isLt, fun d hd => modEngine_ne _ _ _ _ hd, rfl, rfl, rfl, rfl, rfl⟩
  case disconnect =>
    obtain ⟨rx, rxAt, hexec⟩ := exec_completes_withReceiver hstep
    rw [disconnectDone (s := s.withReceiver rx rxAt) hr hop hx] at hexec
    let u := (s.withReceiver rx rxAt).movedOn
    have hux : (u.engine e).context = some x := hx
    obtain ⟨hcircuits, hnodes, hclasses, hcampaign, hloops, hnow, hamc⟩ := disconnected_frame u e.val x
    have hmoves : MovesOn s (u.disconnected e.val x) [] := movesOn_of_advanced (s := s.withReceiver rx rxAt) hamc
    have hlink : (u.disconnected e.val x).amc.link = s.amc.link := by
      rw [hamc]
      exact advanced_link _
    refine ⟨fun p hk hp hlt => ?_, fun i d hk hslot hd hplaced => ?_⟩
    · obtain ⟨hself, hothers, hleft, hstay, hrun⟩ :=
        probeDisconnected_effect e.isLt hux hk hp hlt (fun h => (hpair h).1)
      exact ⟨_, hexec, hself, hothers, hleft _ (.inl rfl), fun h => hleft _ (.inr ⟨h, rfl⟩), hstay, hrun, hmoves, hlink,
        hcircuits, hnodes, hclasses, hcampaign, hloops, hnow⟩
    · obtain ⟨hleft, hothers, ⟨more, hmore⟩, hpoints⟩ := calibrationDisconnected_effect (s := u) (x := x) e.isLt hk
      rw [calibrationReplies_of_waiting (s := u) hslot hd hplaced, List.append_assoc] at hmore
      exact ⟨_, hexec, hleft, hothers, hmoves, hlink, ⟨more, hmore⟩, hpoints, hcircuits, hnodes, hclasses, hcampaign, hloops,
        hnow⟩

end Sys2Proof.Machine
end


section
/-! SUPPORT. O43: MATRIX_RESYNC, and RESET_ALLs that complete (R104, R158, R159, R161, R164 to R166, R173, R178). -/

namespace Sys2Proof.Machine

/-! ## MATRIX_RESYNC (R165) -/

theorem anyActive_iff (s : State) : s.anyActive = true ↔ ∃ e, e < 16 ∧ (s.engine e).state.active = true := by
  have hget (e : Nat) (he : e < 16) : s.engine e = s.engines[e] := by simp [State.engine, he]
  rw [State.anyActive, List.any_eq_true]
  constructor
  · rintro ⟨g, hg, hactive⟩
    obtain ⟨e, he, rfl⟩ := List.getElem_of_mem hg
    have hlt : e < 16 := by simpa using he
    exact ⟨e, hlt, by rw [hget e hlt]; simpa using hactive⟩
  · rintro ⟨e, he, hactive⟩
    exact ⟨s.engines[e], by simp, by rw [← hget e he]; exact hactive⟩

/-- A RESET_ALL is issued: the link is UNSYNCED, and the request waits behind the others or is current (R158, R161). -/
theorem issue_resetAll (s : State) {r : Request} (hr : r.op = .resetAll) :
    let t := s.issue r
    t.amc.link = .unsynced ∧
      (s.amc.current ≠ none → t.amc = { s.amc with fifo := s.amc.fifo ++ [r], link := .unsynced }) ∧
      (s.amc.current = none → s.amc.fifo = [] →
        t.amc = { s.amc with
          current := some ⟨r, s.amc.nextSeq, s.amc.timeout, none⟩, nextSeq := (s.amc.nextSeq + 1) % 256, link := .unsynced }) := by
  intro t
  refine ⟨?_, fun hbusy => ?_, fun hfree hempty => ?_⟩
  · simp only [t, State.issue, State.pump, if_pos hr]
    split <;> rfl
  · obtain ⟨q, hq⟩ := Option.ne_none_iff_exists'.1 hbusy
    simp [t, State.issue, State.pump, hq, hr]
  · simp [t, State.issue, State.pump, hfree, hempty, hr]

section
variable {s : State} {tag : Tag} {rest : List Frame}

theorem exec_matrixResync (ht : s.Takes 0x61 tag [] rest) :
    exec (.matrixResync tag []) s = .next (matrixResyncBody ⟨0x61, tag⟩ (s.taken rest)) :=
  (hostCommand_takes ht (fun c => fixedLength 0 [] c (matrixResyncBody c))).trans
    (congrArg _ (fixedLength_of_eq (n := 0) (p := []) rfl _ _ _))

theorem matrixResyncBody_of_active (h : s.anyActive = true) (c : Cmd) :
    matrixResyncBody c s = s.refuse c .enginesActive := if_pos h

theorem matrixResyncBody_of_full (h : s.anyActive = false) (hfull : s.freeSlot = none) (c : Cmd) :
    matrixResyncBody c s = s.refuse c .queueFull := by
  simp [matrixResyncBody, h, hfull]

theorem matrixResyncBody_of_free (h : s.anyActive = false) {i : Nat} (hfree : s.freeSlot = some i) (c : Cmd) :
    matrixResyncBody c s = (s.takeSlot i c .resync).issue ⟨.resetAll, none, none, .resync i⟩ := by
  simp [matrixResyncBody, h, hfree]

end

/-! ## A RESET_ALL completes (R159, R161) -/

/-- The link is SYNCED only at a DONE behind which no RESET_ALL waits. -/
theorem linkAfter_resetAll {a : Amc} {r : Request} (hr : r.op = .resetAll) (k : Completion) :
    (k ≠ .done → linkAfter a r k = .unsynced) ∧ ((∃ r ∈ a.fifo, r.op = .resetAll) → linkAfter a r k = .unsynced) ∧
      (k = .done → (¬∃ r ∈ a.fifo, r.op = .resetAll) → linkAfter a r k = .synced) := by
  have hwaits : a.fifo.all (fun q => q.op != .resetAll) = true ↔ ¬∃ r ∈ a.fifo, r.op = .resetAll := by simp
  rw [linkAfter, if_pos hr]
  exact ⟨fun h => if_neg (fun hn => h hn.1), fun h => if_neg (fun hn => hwaits.1 hn.2 h),
    fun h hn => if_pos ⟨h, hwaits.2 hn⟩⟩

/-- The matrix link behind a RESET_ALL. -/
def Amc.resetBehind (a : Amc) (r : Request) (k : Completion) : Amc := { a with link := linkAfter a r k }.advanced

theorem closeRequest_resetAll {s : State} {q : CurrentRequest} (h : q.request.op = .resetAll) (k : Completion) :
    s.closeRequest q k = { s with
      amc := s.amc.resetBehind q.request k, runDue := s.runDue || decide (linkAfter s.amc q.request k = .synced) } := by
  have hpump : State.pump { s with amc := { s.amc with current := none, link := linkAfter s.amc q.request k } } =
      { s with amc := s.amc.resetBehind q.request k } := by
    simp only [State.pump, Amc.resetBehind, Amc.advanced]
    cases s.amc.fifo <;> rfl
  rw [State.closeRequest, hpump, decide_eq_true h, Bool.true_and]
  cases decide (linkAfter s.amc q.request k = .synced) <;> simp [State.startRunIf, State.startRun]

theorem movesOn_of_resetBehind {s t : State} {r : Request} {k : Completion} (h : t.amc = s.amc.resetBehind r k) :
    MovesOn s t [] := by
  unfold MovesOn
  rw [h, Amc.resetBehind, advanced_eq, List.append_nil]
  exact ⟨rfl, rfl⟩

/-! ## Quarantines end (R165) -/

/-- From `s` to `t` the engines in `freed` have left quarantine, each with its lock cleared; other engines and locks stand, and
no record that waited has gone. -/
structure State.EndsQuarantines (s t : State) (freed : Nat → Prop) : Prop where
  left    : ∀ e, freed e → HasLeft (s.engine e) (t.engine e)
  stays   : ∀ e, ¬freed e → t.engine e = s.engine e
  cleared : ∀ p, p < 256 → (∃ e, (s.point p).owner = some e ∧ freed e) → t.point p = { s.point p with owner := none }
  kept    : ∀ p, p < 256 → (∀ e, (s.point p).owner = some e → ¬freed e) → t.point p = s.point p
  run     : s.runDue = true → t.runDue = true
  records : ∃ more, t.mli.tx = s.mli.tx ++ more

theorem State.EndsQuarantines.of_iff {s t : State} {freed freed' : Nat → Prop} (h : s.EndsQuarantines t freed)
    (hiff : ∀ e, freed' e ↔ freed e) : s.EndsQuarantines t freed' := by
  obtain rfl : freed' = freed := funext (fun e => propext (hiff e))
  exact h

theorem endsQuarantines_refl (s : State) {freed : Nat → Prop} (h : ∀ e, ¬freed e) : s.EndsQuarantines s freed where
  left e he := absurd he (h e)
  stays _ _ := rfl
  cleared _ _ := fun ⟨e, _, he⟩ => absurd he (h e)
  kept _ _ _ := rfl
  run h := h
  records := ⟨[], (List.append_nil _).symm⟩

/-- Two sets of engines leave, one after the other. -/
theorem State.EndsQuarantines.trans {s t u : State} {a b : Nat → Prop} (h : s.EndsQuarantines t a)
    (k : t.EndsQuarantines u b) (hapart : ∀ e, a e → ¬b e) : s.EndsQuarantines u (fun e => a e ∨ b e) where
  left e he := by
    by_cases ha : a e
    · rw [k.stays e (hapart e ha)]
      exact h.left e ha
    · rw [← h.stays e ha]
      exact k.left e (he.resolve_left ha)
  stays e he := by
    obtain ⟨ha, hb⟩ := not_or.1 he
    rw [k.stays e hb, h.stays e ha]
  cleared p hp hown := by
    obtain ⟨e, ho, he⟩ := hown
    by_cases ha : a e
    · have hcleared := h.cleared p hp ⟨e, ho, ha⟩
      rw [k.kept p hp (fun d hd => by simp [hcleared] at hd), hcleared]
    · have hkept : t.point p = s.point p := h.kept p hp (fun d hd => by
        obtain rfl : e = d := Option.some.inj (ho.symm.trans hd)
        exact ha)
      rw [k.cleared p hp ⟨e, by rw [hkept]; exact ho, he.resolve_left ha⟩, hkept]
  kept p hp hown := by
    have hkept : t.point p = s.point p := h.kept p hp (fun e ho ha => hown e ho (.inl ha))
    rw [k.kept p hp (fun e ho hb => hown e (by rw [← hkept]; exact ho) (.inr hb)), hkept]
  run hrun := k.run (h.run hrun)
  records := by
    obtain ⟨more, hmore⟩ := h.records
    obtain ⟨more', hmore'⟩ := k.records
    exact ⟨more ++ more', by rw [hmore', hmore, List.append_assoc]⟩

/-- The engines leave a state whose tables are those of `s`. -/
theorem State.EndsQuarantines.of_start {s a t : State} {freed : Nat → Prop} (h : a.EndsQuarantines t freed)
    (hengines : a.engines = s.engines) (hpoints : a.points = s.points) (hrun : s.runDue = true → a.runDue = true)
    (hrecords : ∃ more, a.mli.tx = s.mli.tx ++ more) : s.EndsQuarantines t freed where
  left e he := engine_congr hengines e ▸ h.left e he
  stays e he := engine_congr hengines e ▸ h.stays e he
  cleared p hp := point_congr hpoints p ▸ h.cleared p hp
  kept p hp := point_congr hpoints p ▸ h.kept p hp
  run hdue := h.run (hrun hdue)
  records := by
    obtain ⟨more, hmore⟩ := hrecords
    obtain ⟨more', hmore'⟩ := h.records
    exact ⟨more ++ more', by rw [hmore', hmore, List.append_assoc]⟩

@[simp] theorem unlockOwned_frame (s : State) (e : Nat) :
    (s.unlockOwned e).circuits = s.circuits ∧ (s.unlockOwned e).engines = s.engines ∧ (s.unlockOwned e).nodes = s.nodes ∧
    (s.unlockOwned e).campaign = s.campaign ∧ (s.unlockOwned e).classes = s.classes ∧
    (s.unlockOwned e).openLoops = s.openLoops ∧ (s.unlockOwned e).amc = s.amc ∧ (s.unlockOwned e).mli = s.mli ∧
    (s.unlockOwned e).now = s.now := by
  simp [State.unlockOwned]

theorem point_unlockOwned (s : State) (e : Nat) {p : Nat} (hp : p < 256) : (s.unlockOwned e).point p =
    if (s.point p).owner = some e then { s.point p with owner := none } else s.point p := by
  simp [State.unlockOwned, State.point, hp]

/-- A quarantined engine leaves with its lock cleared; any other stands (R165). -/
theorem endsQuarantines_endQuarantine (s : State) {e : Nat} (he : e < 16) :
    s.EndsQuarantines (s.endQuarantine e) (fun d => d = e ∧ (s.engine d).state = .quarantined) := by
  by_cases hst : (s.engine e).state = .quarantined
  · let a := s.unlockOwned e
    have ht : s.endQuarantine e = a.engineLeaves e := if_pos hst
    have heng (d : Nat) : a.engine d = s.engine d := engine_congr (by simp [a]) d
    have hpoint {p : Nat} (hp : p < 256) : (a.engineLeaves e).point p =
        if (s.point p).owner = some e then { s.point p with owner := none } else s.point p :=
      (point_congr (by simp [a]) p).trans (point_unlockOwned s e hp)
    rw [ht]
    constructor
    case left =>
      rintro d ⟨rfl, -⟩
      rw [← heng]
      exact hasLeft_engineLeaves a he
    case stays => exact fun d hd => (engine_engineLeaves_ne _ _ _ (fun h => hd ⟨h, h ▸ hst⟩)).trans (heng d)
    case cleared =>
      rintro p hp ⟨d, ho, rfl, -⟩
      rw [hpoint hp, if_pos ho]
    case kept => exact fun p hp hown => (hpoint hp).trans (if_neg (fun ho => hown e ho ⟨rfl, hst⟩))
    case run => exact fun hrun => runDue_engineLeaves (by simp [a, State.unlockOwned, startRunIf_runDue, hrun]) e
    case records =>
      obtain ⟨-, more, hmore, -⟩ := repliesBehind_engineLeaves a e
      exact ⟨more, hmore.trans (by simp [a])⟩
  · rw [show s.endQuarantine e = s from if_neg hst]
    exact endsQuarantines_refl s (by rintro d ⟨rfl, h⟩; exact hst h)

theorem endsQuarantines_foldl (l : List Nat) (hnodup : l.Nodup) (hl : ∀ e ∈ l, e < 16) :
    ∀ s : State, s.EndsQuarantines (l.foldl State.endQuarantine s) (fun d => d ∈ l ∧ (s.engine d).state = .quarantined) := by
  induction l with
  | nil => exact fun s => endsQuarantines_refl s (by simp)
  | cons e rest ih =>
    intro s
    obtain ⟨hnot, hnodup⟩ := List.nodup_cons.1 hnodup
    obtain ⟨he, hrest⟩ := List.forall_mem_cons.1 hl
    have hone := endsQuarantines_endQuarantine s he
    have hmore := ih hnodup hrest (s.endQuarantine e)
    refine (hone.trans hmore ?_).of_iff (fun d => ?_)
    · rintro d ⟨rfl, -⟩ ⟨hmem, -⟩
      exact hnot hmem
    · by_cases hd : d = e
      · subst hd
        simp [hnot]
      · simp [hd, hone.stays d (fun h => hd h.1)]

theorem endsQuarantines_endQuarantines (s : State) :
    s.EndsQuarantines s.endQuarantines (fun e => e < 16 ∧ (s.engine e).state = .quarantined) :=
  (endsQuarantines_foldl (List.range 16) List.nodup_range (fun _ => List.mem_range.1) s).of_iff (by simp)

theorem endQuarantine_of_not {s : State} {e : Nat} (h : (s.engine e).state ≠ .quarantined) : s.endQuarantine e = s := if_neg h

theorem endQuarantines_of_none {s : State} (h : ∀ e, (s.engine e).state ≠ .quarantined) : s.endQuarantines = s :=
  List.foldl_fixed' (fun e => endQuarantine_of_not (h e)) _

theorem endQuarantine_frame (s : State) (e : Nat) :
    (s.endQuarantine e).circuits = s.circuits ∧ (s.endQuarantine e).nodes = s.nodes ∧
    (s.endQuarantine e).classes = s.classes ∧ (s.endQuarantine e).campaign = s.campaign ∧
    (s.endQuarantine e).openLoops = s.openLoops ∧ (s.endQuarantine e).now = s.now ∧ (s.endQuarantine e).amc = s.amc := by
  unfold State.endQuarantine
  split <;> simp

theorem endQuarantines_frame (s : State) :
    s.endQuarantines.circuits = s.circuits ∧ s.endQuarantines.nodes = s.nodes ∧ s.endQuarantines.classes = s.classes ∧
    s.endQuarantines.campaign = s.campaign ∧ s.endQuarantines.openLoops = s.openLoops ∧ s.endQuarantines.now = s.now ∧
    s.endQuarantines.amc = s.amc := by
  refine ⟨?_, ?_, ?_, ?_, ?_, ?_, ?_⟩ <;> exact foldl_keeps _ _ (fun t e => by simp [endQuarantine_frame]) _ _

/-! ## The requester of a RESET_ALL (R161, R165, R178) -/

theorem answer_eta (s : State) (i : Nat) (st : Status) (b : Bool) (p : List Byte) :
    s.answer i st b p = { s with mli := (s.answer i st b p).mli } := by
  unfold State.answer
  repeat' split
  all_goals rfl

section
variable {s : State} {q : CurrentRequest} {k : Completion} {i : Nat}

theorem complete_resync_done (hr : q.request.requester = .resync i) :
    s.complete q .done = ((s.closeRequest q .done).resyncAnswer i .done).endQuarantines := by
  rw [State.complete, State.faultNotice, if_pos (.inl rfl), State.requesterActs, hr]
  rfl

theorem complete_resync_failed (hr : q.request.requester = .resync i) (hk : k ≠ .done) :
    s.complete q k = ((s.closeRequest q k).offer noticeMatrixFault
      (matrixFaultPayload q k (s.closeRequest q k).amc.link)).resyncAnswer i k := by
  rw [State.complete, State.faultNotice, if_neg (by simp [hk, hr]), State.requesterActs, hr]
  exact if_neg hk

/-- The RESET_ALL of a reset offers no notice (R166). -/
theorem complete_reset (hr : q.request.requester = .reset) :
    s.complete q k = if k = .done then (s.closeRequest q k).startupCompletes.endQuarantines
      else (s.closeRequest q k).startupCompletes := by
  rw [State.complete, State.faultNotice, if_pos (.inr hr), State.requesterActs, hr]
  rfl

theorem resyncAnswer_of_failure (hk : k ≠ .done) (hlink : s.amc.link = .unsynced) (i : Nat) : s.resyncAnswer i k =
    s.answer i .matrixUnsynced false (be8 0 ++ be8 0 ++ be8 k.byte ++ be8 k.reasonByte) := by
  cases k with
  | done => exact absurd rfl hk
  | refused r => rw [State.resyncAnswer, hlink]; rfl
  | timeout => rw [State.resyncAnswer, hlink]; rfl

end

/-! ## The RESET_ALL of a MATRIX_RESYNC completes (R161, R165) -/

section
variable {s : State} {q : CurrentRequest} {i : Nat} {d : DeferredSlot}

theorem link_resetBehind (a : Amc) (r : Request) (k : Completion) : (a.resetBehind r k).link = linkAfter a r k :=
  advanced_link _

/-- At DONE the reply carries the link and the engines in quarantine, which then leave it. -/
theorem resyncDone (hop : q.request.op = .resetAll) (hr : q.request.requester = .resync i) (hd : s.slot i = some d)
    (hp : d.placed = false) :
    let t := s.complete q .done
    t.circuits = s.circuits ∧ t.nodes = s.nodes ∧ t.classes = s.classes ∧ t.campaign = s.campaign ∧
      t.openLoops = s.openLoops ∧ t.now = s.now ∧ t.amc = s.amc.resetBehind q.request .done ∧
      (t.amc.link = .synced → t.runDue = true) ∧
      s.EndsQuarantines t (fun e => e < 16 ∧ (s.engine e).state = .quarantined) ∧
      ∃ more, t.mli.tx = s.mli.tx ++ ⟨.reply, d.code, d.tag, .ok, false, false,
        be8 t.amc.link.byte ++ be8 s.quarantinedCount ++ [0, 0], some i⟩ :: more := by
  intro t
  let b := s.closeRequest q .done
  let a := b.resyncAnswer i .done
  have hb : b = { s with
      amc := s.amc.resetBehind q.request .done
      runDue := s.runDue || decide (linkAfter s.amc q.request .done = .synced) } := closeRequest_resetAll hop _
  have ha : a = { b with mli := a.mli } := answer_eta b i _ _ _
  have ht : t = a.endQuarantines := complete_resync_done hr
  have htx : a.mli.tx = b.mli.tx ++ [⟨.reply, d.code, d.tag, .ok, false, false,
      resyncPayload b.amc.link b.quarantinedCount 0 0, some i⟩] := answer_tx_held b i _ _ _ d (by rw [hb]; exact hd) hp
  have hends := endsQuarantines_endQuarantines a
  obtain ⟨hcircuits, hnodes, hclasses, hcampaign, hloops, hnow, hamc⟩ := endQuarantines_frame a
  rw [← ht] at hends hcircuits hnodes hclasses hcampaign hloops hnow hamc
  have haamc : a.amc = s.amc.resetBehind q.request .done := by rw [ha, hb]
  have hengines : a.engines = s.engines := by rw [ha, hb]
  have hcount : b.quarantinedCount = s.quarantinedCount := by rw [hb]; rfl
  have hlink : b.amc.link = t.amc.link := by rw [hamc, ha]
  have hbtx : b.mli.tx = s.mli.tx := by rw [hb]
  rw [hcount, hlink, hbtx] at htx
  refine ⟨by rw [hcircuits, ha, hb], by rw [hnodes, ha, hb], by rw [hclasses, ha, hb], by rw [hcampaign, ha, hb],
    by rw [hloops, ha, hb], by rw [hnow, ha, hb], hamc.trans haamc, fun hsynced => hends.run ?_, ?_, ?_⟩
  · rw [hamc, haamc, link_resetBehind] at hsynced
    rw [ha, hb]
    simp [hsynced]
  · refine (hends.of_iff (fun e => by rw [engine_congr hengines])).of_start hengines (by rw [ha, hb]) (fun h => ?_) ⟨_, htx⟩
    rw [ha, hb]
    simp [h]
  · obtain ⟨more, hmore⟩ := hends.records
    rw [htx, List.append_assoc] at hmore
    exact ⟨more, hmore⟩

/-- At REFUSED or TIMEOUT a notice is offered and the command answered; nothing else changes but the matrix link. -/
theorem resyncFailed {k : Completion} (hop : q.request.op = .resetAll) (hr : q.request.requester = .resync i)
    (hk : k ≠ .done) (hd : s.slot i = some d) (hp : d.placed = false) :
    let t := s.complete q k
    t = { s with amc := s.amc.resetBehind q.request k, mli := t.mli } ∧ t.slot i = some { d with placed := true } ∧
      ∃ fault, t.mli.tx = s.mli.tx ++
        (if s.mli.tx.length < 48 then [noticeRecord noticeMatrixFault fault] else []) ++
        [⟨.reply, d.code, d.tag, .matrixUnsynced, false, false,
          be8 0 ++ be8 0 ++ be8 k.byte ++ be8 k.reasonByte, some i⟩] := by
  intro t
  obtain ⟨hlink, -⟩ := linkAfter_resetAll (a := s.amc) hop k
  let b : State := { s with amc := s.amc.resetBehind q.request k }
  have hb : s.closeRequest q k = b := by
    rw [closeRequest_resetAll hop, hlink hk]
    simp [b]
  have hblink : b.amc.link = .unsynced := (link_resetBehind _ _ _).trans (hlink hk)
  let fault := matrixFaultPayload q k b.amc.link
  let u := b.offer noticeMatrixFault fault
  have hu : u = { b with mli := u.mli } := offer_eta b _ _
  have hud : u.slot i = some d := by
    rw [State.slot, (offer_mli_frame b noticeMatrixFault fault).1]
    exact hd
  have ht : t = u.answer i .matrixUnsynced false (be8 0 ++ be8 0 ++ be8 k.byte ++ be8 k.reasonByte) := by
    rw [← resyncAnswer_of_failure hk (by rw [hu]; exact hblink)]
    exact (complete_resync_failed hr hk).trans (by rw [hb])
  refine ⟨?_, by rw [ht]; exact slot_answer_self _ _ _ hud hp, fault, ?_⟩
  · rw [ht]
    exact (answer_eta u i _ _ _).trans (by rw [hu])
  · rw [ht, answer_tx_held _ _ _ _ _ d hud hp, offer_tx]
    change (if s.mli.tx.length < 48 then s.mli.tx ++ _ else s.mli.tx) ++ _ = _
    split <;> simp

end

/-! ## The RESET_ALL of a reset completes (R166, R178) -/

/-- With no engine in quarantine the completion decides the link and ends the wait of start-up. -/
theorem resetCompleted {s : State} {q : CurrentRequest} {u : Startup} (hop : q.request.op = .resetAll)
    (hr : q.request.requester = .reset) (hu : s.mli.startup = some u) (hnone : ∀ e, (s.engine e).state ≠ .quarantined)
    (k : Completion) :
    let link := linkAfter s.amc q.request k
    s.complete q k = { s with
      amc := s.amc.resetBehind q.request k
      runDue := s.runDue || decide (link = .synced)
      mli := { s.mli with startup := some { u with link := some link } } } := by
  intro link
  have hstartup : (s.closeRequest q k).startupCompletes = { s with
      amc := s.amc.resetBehind q.request k
      runDue := s.runDue || decide (link = .synced)
      mli := { s.mli with startup := some { u with link := some link } } } := by
    rw [closeRequest_resetAll hop, State.startupCompletes, hu, link_resetBehind]
    rfl
  rw [complete_reset hr, hstartup]
  split
  · exact endQuarantines_of_none hnone
  · rfl

theorem not_quarantined {s : State} (h : ∀ e, ¬(e < 16 ∧ (s.engine e).state = .quarantined)) (e : Nat) :
    (s.engine e).state ≠ .quarantined := by
  intro hst
  by_cases he : e < 16
  · exact h e ⟨he, hst⟩
  · simp [State.engine, he, Engine.reset] at hst

/-! ## O43 -/

/-- The command: its two refusals, and the request of an accepted one. -/
theorem resyncCommand {s : State} {tag : Tag} {rest : List Frame} (ht : s.Takes 0x61 tag [] rest) :
    let refused (st : Status) := exec (.matrixResync tag []) s = .next (s.answered rest (replyTo 0x61 tag st false []))
    ((∃ e, e < 16 ∧ (s.engine e).state.active = true) → refused .enginesActive) ∧
    ((∀ e, e < 16 → (s.engine e).state.active = false) → (∀ i, i < 8 → s.slot i ≠ none) → refused .queueFull) ∧
    ∀ i, (∀ e, e < 16 → (s.engine e).state.active = false) → i < 8 → s.slot i = none → (∀ j, j < i → s.slot j ≠ none) →
      exec (.matrixResync tag []) s =
        .next (((s.taken rest).takeSlot i ⟨0x61, tag⟩ .resync).issue ⟨.resetAll, none, none, .resync i⟩) := by
  intro refused
  have hexec := exec_matrixResync ht
  have hidle (h : ∀ e, e < 16 → (s.engine e).state.active = false) : (s.taken rest).anyActive = false := by
    refine Bool.eq_false_iff.2 (fun hactive => ?_)
    obtain ⟨e, he, hst⟩ := (anyActive_iff s).1 hactive
    rw [h e he] at hst
    cases hst
  refine ⟨fun h => hexec.trans (congrArg _ ?_), fun h hfull => hexec.trans (congrArg _ ?_),
    fun i h hi hfree hlow => hexec.trans (congrArg _ ?_)⟩
  · exact matrixResyncBody_of_active (s := s.taken rest) ((anyActive_iff s).2 h) _
  · exact matrixResyncBody_of_full (hidle h) (freeSlot_none s hfull) _
  · exact matrixResyncBody_of_free (hidle h) (freeSlot_spec s i hi hfree hlow) _

/-- Settles O43: the command, and its RESET_ALL or a reset's on the state whose request completes. -/
theorem resyncIssuesAResetAll : Obligations.ResyncIssuesAResetAll := by
  refine ⟨fun tag rest s ht => ?command, fun s c q k hstep hop => ?completion⟩
  case command =>
    intro refused
    obtain ⟨hactive, hfull, haccepted⟩ := resyncCommand ht
    refine ⟨hactive, hfull, fun i hidle hi hfree hlow => ?_⟩
    let a := (s.taken rest).takeSlot i ⟨0x61, tag⟩ .resync
    obtain ⟨hlink, hbusy, hcurrent⟩ := issue_resetAll a (r := ⟨.resetAll, none, none, .resync i⟩) rfl
    exact ⟨_, haccepted i hidle hi hfree hlow, hlink, hbusy, hcurrent, issue_eta a _⟩
  case completion =>
    intro later freed
    obtain ⟨rx, rxAt, hexec⟩ := exec_completes_withReceiver hstep
    let s' := s.withReceiver rx rxAt
    obtain ⟨hfailed, hlater, hsynced⟩ := linkAfter_resetAll (a := s'.amc) hop k
    refine ⟨fun i d hr hd hp => ?resync, fun u hr hu hnone => ?reset⟩
    case resync =>
      by_cases hk : k = .done
      · subst hk
        obtain ⟨hcircuits, hnodes, hclasses, hcampaign, hloops, hnow, hamc, hrun, hends, hreply⟩ :=
          resyncDone (s := s') hop hr hd hp
        have hlink : (s'.complete q .done).amc.link = linkAfter s'.amc q.request .done := by rw [hamc, link_resetBehind]
        have hup (h : ¬later) : (s'.complete q .done).amc.link = .synced := hlink.trans (hsynced rfl h)
        exact ⟨_, hexec, movesOn_of_resetBehind (s := s') hamc, hcircuits, hnodes, hclasses, hcampaign, hloops, hnow,
          fun _ => ⟨fun h => hlink.trans (hlater h), fun h => ⟨hup h, hrun (hup h)⟩, hends.left, hends.stays, hends.cleared,
            hends.kept, hreply⟩, fun h => absurd rfl h⟩
      · obtain ⟨heta, hslot, fault, htx⟩ := resyncFailed (s := s') hop hr hk hd hp
        have hamc : (s'.complete q k).amc = s'.amc.resetBehind q.request k := by rw [heta]
        have hlink : (s'.complete q k).amc.link = .unsynced := by rw [hamc, link_resetBehind, hfailed hk]
        refine ⟨_, hexec, movesOn_of_resetBehind (s := s') hamc, ?_, ?_, ?_, ?_, ?_, ?_, fun h => absurd h hk,
          fun _ => ⟨hlink, ?_, ?_, ?_, hslot, fault, htx⟩⟩
        all_goals rw [heta]; rfl
    case reset =>
      have ht := resetCompleted (s := s') hop hr hu (not_quarantined hnone) k
      rw [ht] at hexec
      refine ⟨_, hexec, movesOn_of_resetBehind (s := s') rfl, fun hk h => ?_, fun h => ?_, ?_, rfl⟩
      · have hup := hsynced hk h
        exact ⟨(link_resetBehind _ _ _).trans hup, by simp [hup]⟩
      · exact (link_resetBehind _ _ _).trans (h.elim hfailed hlater)
      · simp only [link_resetBehind]
        rfl

end Sys2Proof.Machine
end


section
/-! SUPPORT. O2, O5 and O9: what a rule does to the management link and to the matrix link, and the operations that are made of
such moves (R157, R162, R168 to R179, R183). -/

namespace Sys2Proof.Machine

/-! ## The moves of the management link -/

/-- The deferred-reply table at a place. -/
def Mli.slotAt (m : Mli) (i : Nat) : Option DeferredSlot := (m.slots[i]?).getD none

/-- What a rule does to the management link. A record that is no deferred reply is placed below 56 records (R171, R174); a
deferred reply takes the place of its own in the table (R173), which its sending frees. -/
inductive Mli.Move : Mli → Mli → Prop
  | listened (m : Mli) (r : Receiver) (time : Nat) : Move m { m with receiver := r, rxAt := time }
  | arrived {m : Mli} (f : Frame) (h : m.rxBuffer.length < 4) : Move m { m with rxBuffer := m.rxBuffer ++ [f] }
  | overrun (m : Mli) : Move m { m with overruns := satAdd linkCountMax m.overruns 1 }
  | frameError (m : Mli) : Move m { m with frameErrors := satAdd linkCountMax m.frameErrors 1 }
  | taken (m : Mli) : Move m { m with rxBuffer := m.rxBuffer.tail }
  | placed {m : Mli} {r : TxRecord} (hr : r.slot = none) (room : m.tx.length < 56) : Move m { m with tx := m.tx ++ [r] }
  | dropped (m : Mli) : Move m { m with dropped := satAdd linkCountMax m.dropped 1 }
  | held {m : Mli} {i : Nat} (d : DeferredSlot) (h : m.slotAt i = none) :
      Move m { m with slots := m.slots.setIfInBounds i (some d), nextOrder := m.nextOrder + 1 }
  | answered {m : Mli} {i : Nat} {d : DeferredSlot} {r : TxRecord} (hr : r.slot = some i) (h : m.slotAt i = some d)
      (hp : d.placed = false) :
      Move m { m with tx := m.tx ++ [r], slots := m.slots.setIfInBounds i (some { d with placed := true }) }
  | left {m : Mli} {r : TxRecord} {rest : List TxRecord} (h : m.tx = r :: rest) (hr : r.slot = none) :
      Move m { m with tx := rest }
  | freed {m : Mli} {r : TxRecord} {rest : List TxRecord} {i : Nat} (h : m.tx = r :: rest) (hr : r.slot = some i) :
      Move m { m with tx := rest, slots := m.slots.setIfInBounds i none }
  | started (m : Mli) (u : Option Startup) (r : Receiver) : Move m { m with startup := u, receiver := r }
  | softReset (m : Mli) (loops : Nat) : Move m (m.softReset loops)
  | coldReset (m : Mli) : Move m Mli.reset

/-- The receive buffer and the counters in their ranges (R170, R179). -/
def Mli.CountsInRange (m : Mli) : Prop :=
  m.rxBuffer.length ≤ 4 ∧ m.frameErrors ≤ 65535 ∧ m.overruns ≤ 65535 ∧ m.dropped ≤ 65535

/-- The slots of the deferred replies in the transmit queue (R173). -/
def Mli.queuedSlots (m : Mli) : List Nat := m.tx.filterMap TxRecord.slot

/-- The transmit queue in its range (R173, R174). -/
def Mli.QueueInRange (m : Mli) : Prop :=
  m.queuedSlots.Nodup ∧ (∀ i ∈ m.queuedSlots, ∃ d, m.slotAt i = some d ∧ d.placed = true) ∧
    m.tx.length ≤ 56 + m.queuedSlots.length

theorem satAdd_linkCountMax_le (n k : Nat) : satAdd linkCountMax n k ≤ 65535 := Nat.min_le_right _ _

theorem Mli.Move.countsInRange {m n : Mli} (h : Mli.Move m n) (hm : m.CountsInRange) : n.CountsInRange := by
  obtain ⟨hbuffer, herrors, hoverruns, hdropped⟩ := id hm
  cases h with
  | listened | placed | held | answered | left | freed | started => exact hm
  | arrived f hroom =>
    refine ⟨?_, herrors, hoverruns, hdropped⟩
    rw [List.length_append, List.length_singleton]
    exact hroom
  | overrun => exact ⟨hbuffer, herrors, satAdd_linkCountMax_le _ _, hdropped⟩
  | frameError => exact ⟨hbuffer, satAdd_linkCountMax_le _ _, hoverruns, hdropped⟩
  | taken => exact ⟨(List.length_tail ▸ Nat.sub_le _ _).trans hbuffer, herrors, hoverruns, hdropped⟩
  | dropped => exact ⟨hbuffer, herrors, hoverruns, satAdd_linkCountMax_le _ _⟩
  | softReset => exact ⟨Nat.zero_le _, herrors, hoverruns, hdropped⟩
  | coldReset => exact ⟨Nat.zero_le _, Nat.zero_le _, Nat.zero_le _, Nat.zero_le _⟩

/-! ## The transmit queue (R173, R174) -/

theorem slotAt_setIfInBounds_ne (m : Mli) {i j : Nat} (h : i ≠ j) (x : Option DeferredSlot) :
    ((m.slots.setIfInBounds i x)[j]?).getD none = m.slotAt j := by
  simp [Mli.slotAt, h]

theorem slotAt_lt {m : Mli} {i : Nat} {d : DeferredSlot} (h : m.slotAt i = some d) : i < 8 := by
  by_contra hi
  simp [Mli.slotAt, Vector.getElem?_eq_none (Nat.le_of_not_lt hi)] at h

theorem slotAt_setIfInBounds_self (m : Mli) {i : Nat} (h : i < 8) (x : Option DeferredSlot) :
    ((m.slots.setIfInBounds i x)[i]?).getD none = x := by
  simp [h]

/-- A record without a slot joins below 56 records. -/
theorem queueInRange_placed {m : Mli} {r : TxRecord} (hr : r.slot = none) (room : m.tx.length < 56) (hm : m.QueueInRange) :
    Mli.QueueInRange { m with tx := m.tx ++ [r] } := by
  have hslots : Mli.queuedSlots { m with tx := m.tx ++ [r] } = m.queuedSlots := by
    simp [Mli.queuedSlots, hr]
  obtain ⟨hnodup, hplaced, -⟩ := hm
  refine ⟨hslots ▸ hnodup, hslots ▸ hplaced, ?_⟩
  rw [List.length_append, List.length_singleton]
  omega

/-- A free slot is none of those in the queue. -/
theorem queueInRange_held {m : Mli} {i : Nat} (d : DeferredSlot) (h : m.slotAt i = none) (hm : m.QueueInRange) :
    Mli.QueueInRange { m with slots := m.slots.setIfInBounds i (some d), nextOrder := m.nextOrder + 1 } := by
  obtain ⟨hnodup, hplaced, hlen⟩ := hm
  refine ⟨hnodup, fun j hj => ?_, hlen⟩
  obtain ⟨e, he, hpe⟩ := hplaced j hj
  have hij : i ≠ j := by
    rintro rfl
    rw [h] at he
    cases he
  exact ⟨e, (slotAt_setIfInBounds_ne m hij _).trans he, hpe⟩

/-- A slot whose reply is not placed is none of those in the queue, and joins them. -/
theorem queueInRange_answered {m : Mli} {i : Nat} {d : DeferredSlot} {r : TxRecord} (hr : r.slot = some i)
    (h : m.slotAt i = some d) (hp : d.placed = false) (hm : m.QueueInRange) :
    Mli.QueueInRange
      { m with tx := m.tx ++ [r], slots := m.slots.setIfInBounds i (some { d with placed := true }) } := by
  obtain ⟨hnodup, hplaced, hlen⟩ := hm
  have hnew : i ∉ m.queuedSlots := fun hi => by
    obtain ⟨e, he, hpe⟩ := hplaced i hi
    rw [h] at he
    cases he
    rw [hp] at hpe
    cases hpe
  have hslots : Mli.queuedSlots
      { m with tx := m.tx ++ [r], slots := m.slots.setIfInBounds i (some { d with placed := true }) } =
      m.queuedSlots ++ [i] := by
    simp [Mli.queuedSlots, hr]
  refine ⟨?_, ?_, ?_⟩
  · rw [hslots]
    exact hnodup.append (List.nodup_singleton i) (List.disjoint_singleton.2 hnew)
  · rw [hslots]
    intro j hj
    rcases List.mem_append.1 hj with hj | hj
    · obtain ⟨e, he, hpe⟩ := hplaced j hj
      have hij : i ≠ j := fun hij => hnew (hij ▸ hj)
      exact ⟨e, (slotAt_setIfInBounds_ne m hij _).trans he, hpe⟩
    · obtain rfl := List.mem_singleton.1 hj
      exact ⟨_, slotAt_setIfInBounds_self m (slotAt_lt h) _, rfl⟩
  · rw [hslots]
    simp only [List.length_append, List.length_singleton]
    omega

theorem queueInRange_left {m : Mli} {r : TxRecord} {rest : List TxRecord} (h : m.tx = r :: rest) (hr : r.slot = none)
    (hm : m.QueueInRange) : Mli.QueueInRange { m with tx := rest } := by
  have hslots : m.queuedSlots = Mli.queuedSlots { m with tx := rest } := by simp [Mli.queuedSlots, h, hr]
  obtain ⟨hnodup, hplaced, hlen⟩ := hm
  rw [hslots] at hnodup hplaced hlen
  rw [h, List.length_cons] at hlen
  exact ⟨hnodup, hplaced, by dsimp only; omega⟩

/-- The slot that is freed is named by no other record. -/
theorem queueInRange_freed {m : Mli} {r : TxRecord} {rest : List TxRecord} {i : Nat} (h : m.tx = r :: rest)
    (hr : r.slot = some i) (hm : m.QueueInRange) :
    Mli.QueueInRange { m with tx := rest, slots := m.slots.setIfInBounds i none } := by
  have hslots : m.queuedSlots = i :: Mli.queuedSlots { m with tx := rest, slots := m.slots.setIfInBounds i none } := by
    simp [Mli.queuedSlots, h, hr]
  obtain ⟨hnodup, hplaced, hlen⟩ := hm
  rw [hslots] at hnodup hplaced hlen
  obtain ⟨hi, hnodup⟩ := List.nodup_cons.1 hnodup
  rw [h, List.length_cons, List.length_cons] at hlen
  refine ⟨hnodup, fun j hj => ?_, by dsimp only; omega⟩
  obtain ⟨e, he, hpe⟩ := hplaced j (List.mem_cons_of_mem _ hj)
  have hij : i ≠ j := fun hij => hi (hij ▸ hj)
  exact ⟨e, (slotAt_setIfInBounds_ne m hij _).trans he, hpe⟩

theorem Mli.Move.queueInRange {m n : Mli} (h : Mli.Move m n) (hm : m.QueueInRange) : n.QueueInRange := by
  cases h with
  | listened | arrived | overrun | frameError | taken | dropped | started | softReset => exact hm
  | placed hr room => exact queueInRange_placed hr room hm
  | held d hfree => exact queueInRange_held d hfree hm
  | answered hr hd hp => exact queueInRange_answered hr hd hp hm
  | left htx hr => exact queueInRange_left htx hr hm
  | freed htx hr => exact queueInRange_freed htx hr hm
  | coldReset => exact ⟨List.nodup_nil, nofun, Nat.zero_le _⟩

/-- The slots in the queue are at most the eight of the table, so the queue holds at most 64 records. -/
theorem length_tx_le {m : Mli} (hm : m.QueueInRange) : m.tx.length ≤ 64 := by
  obtain ⟨hnodup, hplaced, hlen⟩ := hm
  have hsub : m.queuedSlots ⊆ List.range 8 := fun i hi => by
    obtain ⟨d, hd, -⟩ := hplaced i hi
    exact List.mem_range.2 (slotAt_lt hd)
  have hle := (List.subperm_of_subset hnodup hsub).length_le
  rw [List.length_range] at hle
  omega

/-! ## The moves of the matrix link -/

/-- What a rule does to the matrix link. -/
inductive Amc.Move : Amc → Amc → Prop
  | requested (a : Amc) (fifo : List Request) (current : Option CurrentRequest) (link : LinkState) :
      Move a { a with fifo := fifo, current := current, link := link }
  | numbered (a : Amc) : Move a { a with nextSeq := (a.nextSeq + 1) % 256 }
  | late (a : Amc) : Move a { a with lateAnswers := satAdd linkCountMax a.lateAnswers 1 }
  | listened (a : Amc) {rx : List Byte} (time : Nat) (h : rx.length ≤ 6) : Move a { a with rx := rx, rxAt := time }
  | timed (a : Amc) (timeout settle : Nat) :
      Move a { a with timeout := clampNat 100 10000 timeout, settle := clampNat 0 1000 settle }
  | coldReset (a : Amc) : Move a Amc.reset

/-- The counter, the next number, the timings and the answer begun in their ranges (R157, R162, R179, R183). -/
def Amc.InRange (a : Amc) : Prop :=
  a.lateAnswers ≤ 65535 ∧ a.nextSeq ≤ 255 ∧ 100 ≤ a.timeout ∧ a.timeout ≤ 10000 ∧ a.settle ≤ 1000 ∧ a.rx.length ≤ 6

theorem Amc.Move.inRange {a b : Amc} (h : Amc.Move a b) (ha : a.InRange) : b.InRange := by
  obtain ⟨hlate, hseq, hlow, hhigh, hsettle, hrx⟩ := id ha
  cases h with
  | requested => exact ha
  | numbered => exact ⟨hlate, Nat.le_of_lt_succ (Nat.mod_lt _ (by decide)), hlow, hhigh, hsettle, hrx⟩
  | late => exact ⟨satAdd_linkCountMax_le _ _, hseq, hlow, hhigh, hsettle, hrx⟩
  | listened time hlen => exact ⟨hlate, hseq, hlow, hhigh, hsettle, hlen⟩
  | timed timeout settle =>
    refine ⟨hlate, hseq, ?_, ?_, ?_, hrx⟩
    all_goals
      dsimp only [clampNat]
      omega
  | coldReset => unfold Amc.InRange; decide

/-! ## The moves of a step -/

/-- What the two links and the queue of steps are, of all that the state holds. -/
def State.links (s : State) : List Instr × Mli × Amc := (s.pending, s.mli, s.amc)

/-- From `s` to `t` the two links go by moves of the rules, and the queue of steps stands. -/
structure State.LinksMove (s t : State) : Prop where
  pending : t.pending = s.pending
  mli : Relation.ReflTransGen Mli.Move s.mli t.mli
  amc : Relation.ReflTransGen Amc.Move s.amc t.amc

theorem State.LinksMove.refl (s : State) : s.LinksMove s := ⟨rfl, .refl, .refl⟩

theorem State.LinksMove.trans {s t u : State} (a : s.LinksMove t) (b : t.LinksMove u) : s.LinksMove u :=
  ⟨b.pending.trans a.pending, a.mli.trans b.mli, a.amc.trans b.amc⟩

theorem linksMove_of_same {s t : State} (h : t.links = s.links) : s.LinksMove t := by
  obtain ⟨hp, h⟩ := Prod.mk.inj h
  obtain ⟨hm, ha⟩ := Prod.mk.inj h
  exact ⟨hp, by rw [hm], by rw [ha]⟩

/-- The links stand behind a move. -/
theorem State.LinksMove.then_same {s t u : State} (a : s.LinksMove t) (h : u.links = t.links) : s.LinksMove u :=
  a.trans (linksMove_of_same h)

/-- The links stand before a move. -/
theorem State.LinksMove.after_same {s t u : State} (b : t.LinksMove u) (h : t.links = s.links) : s.LinksMove u :=
  (linksMove_of_same h).trans b

theorem linksMove_mli {s : State} {m : Mli} (h : Mli.Move s.mli m) : s.LinksMove { s with mli := m } :=
  ⟨rfl, .single h, .refl⟩

theorem linksMove_amc {s : State} {a : Amc} (h : Amc.Move s.amc a) : s.LinksMove { s with amc := a } :=
  ⟨rfl, .refl, .single h⟩

theorem linksMove_foldl {β : Type} (f : State → β → State) (h : ∀ (s : State) b, s.LinksMove (f s b)) (l : List β)
    (s : State) : s.LinksMove (l.foldl f s) :=
  foldl_inv f (fun t => s.LinksMove t) (fun t b ht => ht.trans (h t b)) l s (.refl s)

/-- What every move keeps, a run of moves keeps. -/
theorem kept_of_moves {α : Type} {R : α → α → Prop} {P : α → Prop} (hR : ∀ {x y}, R x y → P x → P y) {x y : α}
    (m : Relation.ReflTransGen R x y) (hx : P x) : P y := by
  induction m with
  | refl => exact hx
  | tail _ hmove ih => exact hR hmove ih

theorem linksInRange_iff (s : State) : LinksInRange s ↔ s.mli.CountsInRange ∧ s.amc.InRange := by
  unfold LinksInRange Mli.CountsInRange Amc.InRange
  simp only [and_assoc]

end Sys2Proof.Machine
end


section
/-! SUPPORT. O2, O5 and O9: the shared operations, the probes and the matrix requests move the links by the rules (R28, R60 to
R69, R127, R140, R158 to R166, R173, R174, R183). -/

namespace Sys2Proof.Machine

/-! ## Records and slots -/

section
variable (s : State)

/-- An offered notice is placed below 48 records, else dropped and counted (R174). -/
theorem linksMove_offer (code : Byte) (p : List Byte) : s.LinksMove (s.offer code p) := by
  unfold State.offer
  split
  · exact linksMove_mli (.placed rfl (by omega))
  · exact linksMove_mli (.dropped _)

/-- An immediate reply is placed below 56 records (R171). -/
theorem linksMove_reply {s : State} (room : s.mli.tx.length < 56) (c : Cmd) (st : Status) (p : List Byte) (b : Bool) :
    s.LinksMove (s.reply c st p b) := linksMove_mli (.placed rfl room)

theorem linksMove_refuse {s : State} (room : s.mli.tx.length < 56) (c : Cmd) (st : Status) : s.LinksMove (s.refuse c st) :=
  linksMove_reply room c st [] false

/-- The slot that a deferrable command takes is free (R173). -/
theorem firstFree_some {l : List (Option DeferredSlot)} {k i : Nat} (h : firstFree k l = some i) :
    k ≤ i ∧ l[i - k]? = some none := by
  induction l generalizing k with
  | nil => cases h
  | cons a rest ih =>
    cases a with
    | none =>
      cases h
      simp
    | some d =>
      obtain ⟨hle, hget⟩ := ih h
      refine ⟨by omega, ?_⟩
      rw [show i - k = (i - (k + 1)) + 1 by omega]
      exact hget

theorem slot_of_freeSlot {s : State} {i : Nat} (h : s.freeSlot = some i) : s.slot i = none := by
  obtain ⟨-, hget⟩ := firstFree_some h
  have hslots : s.mli.slots[i]? = some none := by simpa using hget
  simp [State.slot, hslots]

theorem linksMove_takeSlot {s : State} {i : Nat} (h : s.freeSlot = some i) (c : Cmd) (op : DeferredOp) :
    s.LinksMove (s.takeSlot i c op) := linksMove_mli (.held _ (slot_of_freeSlot h))

/-- A held slot is answered once (R173). -/
theorem linksMove_answer (i : Nat) (st : Status) (b : Bool) (p : List Byte) : s.LinksMove (s.answer i st b p) := by
  unfold State.answer
  split
  · rename_i d hd
    cases hp : d.placed with
    | true => exact .refl s
    | false => exact linksMove_mli (.answered rfl hd hp)
  · exact .refl s

/-! ## Matrix requests (R158, R159) -/

theorem linksMove_pump : s.LinksMove s.pump := by
  unfold State.pump
  split
  · rename_i r rest _ _
    exact .trans (t := { s with amc := { s.amc with
      fifo := rest, current := some ⟨r, s.amc.nextSeq, s.amc.timeout, none⟩ } })
      (linksMove_amc (.requested s.amc _ _ s.amc.link)) (linksMove_amc (.numbered _))
  · exact .refl s

theorem linksMove_issue (r : Request) : s.LinksMove (s.issue r) :=
  .trans (t := { s with amc := { s.amc with
    fifo := s.amc.fifo ++ [r], link := if r.op = .resetAll then .unsynced else s.amc.link } })
    (linksMove_amc (.requested s.amc _ s.amc.current _)) (linksMove_pump _)

theorem linksMove_startDisconnect (e : Nat) : s.LinksMove (s.startDisconnect e) :=
  (linksMove_issue (s.enterPhase e .disconnecting (fun l => l)) _).after_same (by simp [State.links])

/-! ## The campaign's end, entries that leave, holds (R118, R127, R133, R140) -/

theorem linksMove_endCampaign : s.LinksMove s.endCampaign :=
  (linksMove_offer _ _ _).after_same rfl

theorem linksMove_testEnd : s.LinksMove s.testEnd := by
  unfold State.testEnd
  split
  · exact linksMove_endCampaign s
  · exact .refl s

theorem linksMove_testEndIf (b : Bool) : s.LinksMove (s.testEndIf b) := by
  unfold State.testEndIf
  split
  · exact linksMove_testEnd s
  · exact .refl s

theorem linksMove_withdraw (r : NotTested) (c : Nat) : s.LinksMove (s.withdraw r c) :=
  (linksMove_testEnd (s.removeQueued r c)).after_same (by simp [State.links])

/-- CANCEL, ABORT and the deadline (R124 to R126). -/
theorem linksMove_drained (r : NotTested) (cause : EndCause) : s.LinksMove (s.drain r cause).testEnd :=
  (linksMove_testEnd (s.drain r cause)).after_same (by simp [State.links])

theorem linksMove_removeSpot (st : Status) (x : SpotEntry) : s.LinksMove (s.removeSpot st x) := by
  cases x with
  | probe c slot =>
    have hleft : ((s.leaveSpot (.probe c slot)).setStatus c .idle).links = s.links := by simp [State.links]
    cases slot with
    | none => exact ((linksMove_offer _ _ _).after_same hleft).then_same rfl
    | some i => exact ((linksMove_answer _ i st false _).after_same hleft).then_same rfl
  | releaseOnly c =>
    exact ((linksMove_offer (s.leaveSpot (.releaseOnly c)) _ _).after_same (by simp [State.links])).then_same rfl
  | calibration e i => exact .refl s

theorem linksMove_holdNode (n : Nat) (cause : HoldCause) : s.LinksMove (s.holdNode n cause) := by
  have hqueued (l : List Nat) (u : State) : u.LinksMove (l.foldl (fun u c => u.removeQueued .held c) u) :=
    linksMove_foldl _ (fun u c => linksMove_of_same (by simp [State.links])) l u
  have hheld (l : List Nat) (m : List SpotEntry) (u : State) (p : List Byte) : u.LinksMove
      ((m.foldl (fun u x => u.removeSpot .nodeHeld x) (l.foldl (fun u c => u.removeQueued .held c) u)).offer
        noticeNodeHold p) :=
    ((hqueued l u).trans (linksMove_foldl _ (fun u x => linksMove_removeSpot u .nodeHeld x) m _)).trans
      (linksMove_offer _ _ _)
  have hset : s.LinksMove (s.setNode n { s.node n with state := .held }) := linksMove_of_same rfl
  unfold State.holdNode
  dsimp only
  split
  · exact hset.trans (hheld _ _ _ _)
  · exact (hset.trans (hheld _ _ _ _)).trans (linksMove_testEnd _)

theorem linksMove_reportNoLoop (n : Nat) : s.LinksMove (s.reportNoLoop n) := by
  have hset : s.LinksMove (s.setNode n ((s.node n).noLoop s.now)) := linksMove_of_same rfl
  unfold State.reportNoLoop
  dsimp only
  split
  · exact hset.trans (linksMove_holdNode _ n .auto)
  · exact hset

/-! ## Engines that leave (R26, R28, R41) -/

theorem linksMove_removeCalibration (x : SpotEntry) : s.LinksMove (s.removeCalibration x) := by
  cases x with
  | calibration e i =>
    exact ((linksMove_answer (s.leaveSpot (.calibration e i)) i .calFailed false _).after_same (by simp [State.links])).then_same
      rfl
  | probe c slot => exact .refl s
  | releaseOnly c => exact .refl s

theorem linksMove_goOffline (e : Nat) : s.LinksMove (s.goOffline e) :=
  (linksMove_foldl _ linksMove_removeCalibration _
    (s.setEngine e { (s.engine e).resting .offline with disablePending := false })).after_same rfl

theorem linksMove_goIdle (e : Nat) : s.LinksMove (s.goIdle e) := linksMove_of_same rfl

theorem linksMove_engineLeaves (e : Nat) : s.LinksMove (s.engineLeaves e) := by
  unfold State.engineLeaves
  split
  · exact linksMove_goOffline s e
  · exact linksMove_goIdle s e

theorem linksMove_pairLeaves (e : Nat) : s.LinksMove (s.pairLeaves e) := by
  unfold State.pairLeaves
  split
  · exact (linksMove_engineLeaves s e).trans (linksMove_engineLeaves _ _)
  · exact linksMove_engineLeaves s e

theorem linksMove_answerCalibrationOf (e : Nat) (x : Context) (st : EngineState) :
    s.LinksMove (s.answerCalibrationOf e x st) := by
  unfold State.answerCalibrationOf
  split
  · exact linksMove_answer s _ _ _ _
  · exact .refl s

/-! ## The end of a probe (R62, R64, R68, R89) -/

theorem linksMove_reportVerdict (x : Context) (c : Nat) (last : Option Verdict) (v : Verdict) :
    s.LinksMove (s.reportVerdict x c last v) := by
  unfold State.reportVerdict
  split
  · split
    · exact linksMove_offer s _ _
    · exact .refl s
  · split
    · exact linksMove_answer s _ _ _ _
    · exact linksMove_offer s _ _

theorem linksMove_gradeProbe (e : Nat) : s.LinksMove (s.gradeProbe e) := by
  unfold State.gradeProbe
  split
  · exact .refl s
  · split
    · exact .refl s
    · refine State.LinksMove.after_same (linksMove_reportVerdict _ _ _ _ _) ?_
      split <;> simp [State.links]

theorem linksMove_releaseEnd (e : Nat) : s.LinksMove (s.releaseEnd e) := by
  unfold State.releaseEnd
  split
  · exact .refl s
  · rename_i x _
    have hreturned : (s.returnSlot (x.farNode.getD 0)).links = s.links := by simp [State.links]
    exact (((linksMove_gradeProbe _ e).after_same hreturned).trans (linksMove_testEndIf _ _)).trans
      (linksMove_startDisconnect _ e)

theorem linksMove_stuckEnd (e : Nat) : s.LinksMove (s.stuckEnd e) := by
  unfold State.stuckEnd
  split
  · exact .refl s
  · rename_i x _
    have hjoined : ((s.writeOutcome e .stuckLoop).joinOpenLoops (x.openLoop s.now x.stuckTotal)).links = s.links := by
      simp [State.links]
    exact ((((linksMove_gradeProbe _ e).after_same hjoined).trans (linksMove_offer _ _ _)).trans
      (linksMove_testEndIf _ _)).trans (linksMove_startDisconnect _ e)

theorem linksMove_releaseProven (e : Nat) : s.LinksMove (s.releaseProven e) := by
  unfold State.releaseProven
  split
  · exact (linksMove_releaseEnd (s.writeOutcome e .released) e).after_same (by simp [State.links])
  · exact linksMove_releaseEnd s e

theorem linksMove_releaseAttemptFailed (e : Nat) : s.LinksMove (s.releaseAttemptFailed e) := by
  unfold State.releaseAttemptFailed
  split
  · exact .refl s
  · split
    · exact linksMove_of_same (by simp [State.links])
    · exact linksMove_stuckEnd s e

/-! ## Completions of matrix requests (R159 to R166) -/

theorem linksMove_connectFails (e : Nat) (x : Context) : s.LinksMove (s.connectFails e x) := by
  have hwritten : ((s.slotAfterConnect x).writeOutcome e .blocked).links = s.links := by
    unfold State.slotAfterConnect
    split <;> simp [State.links]
  exact ((linksMove_gradeProbe _ e).after_same hwritten).trans (linksMove_testEndIf _ _)

theorem linksMove_connectCompleted (e : Nat) (x : Context) (k : Completion) : s.LinksMove (s.connectCompleted e x k) := by
  cases k with
  | done => exact linksMove_of_same rfl
  | refused r =>
    have hpoint : (s.pointRefused (x.accessPoint.getD 0)).links = s.links := by simp [State.links, State.pointRefused]
    exact ((linksMove_connectFails _ e x).after_same hpoint).trans (linksMove_pairLeaves _ e)
  | timeout => exact (linksMove_connectFails s e x).trans (linksMove_startDisconnect _ e)

theorem linksMove_loopPortCompleted (e : Nat) (x : Context) (k : Completion) : s.LinksMove (s.loopPortCompleted e x k) := by
  cases k with
  | done => exact linksMove_of_same rfl
  | refused r => exact (linksMove_answerCalibrationOf s e x _).trans (linksMove_engineLeaves _ e)
  | timeout => exact linksMove_startDisconnect s e

theorem linksMove_disconnected (e : Nat) (x : Context) : s.LinksMove (s.disconnected e x) := by
  unfold State.disconnected
  split
  · exact (linksMove_answerCalibrationOf s e x _).trans (linksMove_engineLeaves _ e)
  · exact (linksMove_pairLeaves (s.unlock (x.accessPoint.getD 0)) e).after_same (by simp [State.links])

theorem linksMove_disconnectFails (e : Nat) (x : Context) (k : Completion) : s.LinksMove (s.disconnectFails e x k) := by
  have hresting (w : Bool) : (s.quarantineEngines e w).links = s.links := by
    unfold State.quarantineEngines
    split <;> simp [State.links]
  have hoffer (w : Bool) (p : List Byte) : s.LinksMove ((s.quarantineEngines e w).offer noticeEngineQuarantine p) :=
    (linksMove_offer (s.quarantineEngines e w) _ p).after_same (hresting w)
  unfold State.disconnectFails
  dsimp only
  split
  · exact (hoffer _ _).trans (linksMove_answerCalibrationOf _ _ _ _)
  · exact hoffer _ _

theorem linksMove_disconnectCompleted (e : Nat) (x : Context) (k : Completion) :
    s.LinksMove (s.disconnectCompleted e x k) := by
  cases k with
  | done => exact linksMove_disconnected s e x
  | refused r => exact linksMove_disconnectFails s e x _
  | timeout => exact linksMove_disconnectFails s e x _

theorem linksMove_endQuarantine (e : Nat) : s.LinksMove (s.endQuarantine e) := by
  unfold State.endQuarantine
  split
  · exact (linksMove_engineLeaves (s.unlockOwned e) e).after_same (by simp [State.links, State.unlockOwned])
  · exact .refl s

theorem linksMove_startupCompletes : s.LinksMove s.startupCompletes :=
  linksMove_mli (.started s.mli _ s.mli.receiver)

theorem linksMove_resetAllCompleted (r : Requester) (k : Completion) : s.LinksMove (s.resetAllCompleted r k) := by
  have hends (t : State) (h : s.LinksMove t) : s.LinksMove (if k = .done then t.endQuarantines else t) := by
    split
    · exact h.trans (linksMove_foldl _ linksMove_endQuarantine _ t)
    · exact h
  cases r with
  | resync i =>
    refine hends _ ?_
    unfold State.resyncAnswer
    split <;> exact linksMove_answer s i _ _ _
  | reset => exact hends _ (linksMove_startupCompletes s)
  | engine e => exact hends _ (.refl s)

theorem linksMove_requesterActs (r : Request) (k : Completion) : s.LinksMove (s.requesterActs r k) := by
  unfold State.requesterActs
  split
  · split
    · exact .refl s
    · split
      · exact linksMove_connectCompleted s _ _ k
      · exact linksMove_loopPortCompleted s _ _ k
      · exact linksMove_disconnectCompleted s _ _ k
      · exact .refl s
  · exact linksMove_resetAllCompleted s _ k
  · exact linksMove_resetAllCompleted s _ k

theorem linksMove_closeRequest (q : CurrentRequest) (k : Completion) : s.LinksMove (s.closeRequest q k) :=
  .then_same (.trans (t := { s with amc := { s.amc with current := none, link := linkAfter s.amc q.request k } })
    (linksMove_amc (.requested s.amc s.amc.fifo _ _)) (linksMove_pump _)) (by simp [State.links, State.closeRequest])

theorem linksMove_complete (q : CurrentRequest) (k : Completion) : s.LinksMove (s.complete q k) := by
  refine State.LinksMove.trans ?_ (linksMove_requesterActs _ q.request k)
  unfold State.faultNotice
  split
  · exact linksMove_closeRequest s q k
  · exact (linksMove_closeRequest s q k).trans (linksMove_offer _ _ _)

theorem linksMove_timeOut : s.LinksMove s.timeOut := by
  unfold State.timeOut
  split
  · exact linksMove_complete s _ _
  · exact .refl s

/-! ## The answer receiver (R159, R183) -/

theorem linksMove_takeAnswer (a : Answer) : s.LinksMove (s.takeAnswer a) := by
  have hlate : s.LinksMove s.countLate := linksMove_amc (.late _)
  unfold State.takeAnswer
  split
  · exact hlate
  · split_ifs
    · exact hlate
    · exact .refl s
    · exact linksMove_complete s _ _

theorem linksMove_setAnswerRx {rx : List Byte} (h : rx.length ≤ 6) : s.LinksMove (s.setAnswerRx rx) :=
  linksMove_amc (.listened _ _ h)

theorem linksMove_dropAnswer : s.LinksMove s.dropAnswer := linksMove_amc (.listened _ s.amc.rxAt (Nat.zero_le _))

/-- The seventh byte ends the frame, so no more than six wait (R183). -/
theorem linksMove_takeAnswerByte (b : Byte) : s.LinksMove (s.takeAnswerByte b) := by
  have hempty : s.LinksMove (s.setAnswerRx []) := linksMove_setAnswerRx s (Nat.zero_le _)
  unfold State.takeAnswerByte
  split
  · split
    · exact linksMove_setAnswerRx s (rx := [b]) (Nat.le_of_lt (by decide : 1 < 6))
    · exact .refl s
  · dsimp only
    split
    · exact linksMove_setAnswerRx s (Nat.le_of_lt_succ ‹_›)
    · split
      · exact hempty.trans (linksMove_takeAnswer _ _)
      · exact hempty

theorem linksMove_answerByte (b : Byte) : s.LinksMove (s.answerByte b) := by
  unfold State.answerByte
  split
  · exact (linksMove_dropAnswer s).trans (linksMove_takeAnswerByte _ b)
  · exact linksMove_takeAnswerByte s b

end

end Sys2Proof.Machine
end


section
/-! SUPPORT. O2, O5 and O9: an arbiter run, the commands and the moments move the links by the rules (R105 to R109, R168 to
R178). -/

namespace Sys2Proof.Machine

/-! ## An arbiter run (R105 to R109) -/

theorem links_seat (s : State) (e : Nat) (st : EngineState) (x : Context) : (s.seat e st x).links = s.links := by
  unfold State.seat
  dsimp only
  split <;> rfl

theorem linksMove_launchProbe (s : State) (e p : Nat) (x : Context) : s.LinksMove (s.launchProbe e p x) :=
  (linksMove_issue ((s.takeLock p e).seat e .connecting x) _).after_same (links_seat (s.takeLock p e) e _ x)

theorem linksMove_launchClass (s : State) (k c e : Nat) : s.LinksMove (s.launchClass k c e) := by
  have hleft : (s.leaveClass k c).links = s.links := by
    unfold State.leaveClass State.writeTurn
    dsimp only
    split <;> rfl
  rw [launchClass_eq]
  exact (linksMove_launchProbe _ _ _ _).after_same hleft

theorem linksMove_launchSpot (s : State) (x : SpotEntry) (e : Nat) : s.LinksMove (s.launchSpot x e) := by
  cases x with
  | probe c slot =>
    exact (linksMove_launchProbe ((s.leaveSpot (.probe c slot)).claimSlot _) _ _ _).after_same rfl
  | releaseOnly c =>
    unfold State.launchSpot
    dsimp only
    split
    · exact .refl s
    · exact (linksMove_launchProbe _ _ _ _).after_same rfl
  | calibration d i =>
    exact (linksMove_issue ((s.leaveSpot (.calibration d i)).seat d .calibrating _) _).after_same
      (links_seat (s.leaveSpot (.calibration d i)) d _ _)

theorem linksMove_scanSpot (fuel pos : Nat) (s : State) : s.LinksMove (State.scanSpot fuel pos s).2 := by
  induction fuel generalizing pos s with
  | zero => exact .refl s
  | succ fuel ih =>
    unfold State.scanSpot
    split
    · exact .refl s
    · split
      · exact .refl s
      · split
        · exact (linksMove_removeSpot s .pointOut _).trans (ih pos _)
        · split
          · exact linksMove_launchSpot s _ _
          · exact ih (pos + 1) s

theorem linksMove_scanClass (k fuel pos : Nat) (s : State) : s.LinksMove (State.scanClass k fuel pos s).2 := by
  induction fuel generalizing pos s with
  | zero => exact .refl s
  | succ fuel ih =>
    unfold State.scanClass
    split
    · exact .refl s
    · split
      · exact .refl s
      · split
        · exact (linksMove_withdraw s .blocked _).trans (ih pos _)
        · split
          · exact linksMove_launchClass s k _ _
          · exact ih (pos + 1) s

theorem linksMove_classTurn (s : State) (k : Nat) : s.LinksMove (s.classTurn k).2 := by
  unfold State.classTurn
  split
  · exact linksMove_scanClass k _ _ s
  · exact .refl s

theorem linksMove_serveSpot (fuel : Nat) (s : State) : s.LinksMove (State.serveSpot fuel s) := by
  induction fuel generalizing s with
  | zero => exact .refl s
  | succ fuel ih =>
    have hscan := linksMove_scanSpot (s.spot.length + 1) 0 s
    unfold State.serveSpot
    dsimp only
    split
    · exact hscan.trans (ih _)
    · exact hscan

theorem linksMove_serveAlone (k fuel : Nat) (s : State) : s.LinksMove (State.serveAlone k fuel s) := by
  induction fuel generalizing s with
  | zero => exact .refl s
  | succ fuel ih =>
    have hturn := linksMove_classTurn s k
    unfold State.serveAlone
    dsimp only
    split
    · exact hturn.trans (ih _)
    · exact hturn

theorem linksMove_serveBank (fuel a b : Nat) (s : State) : s.LinksMove (State.serveBank fuel a b s) := by
  induction fuel generalizing a b s with
  | zero => exact .refl s
  | succ fuel ih =>
    have hturn := linksMove_classTurn s a
    unfold State.serveBank
    dsimp only
    split
    · exact hturn.trans (ih b a _)
    · exact hturn.trans (linksMove_serveAlone b fuel _)

theorem linksMove_runArbiter (s : State) : s.LinksMove s.runArbiter := by
  have hspot : s.LinksMove (State.serveSpot runFuel { s with runDue := false }) :=
    (linksMove_serveSpot runFuel { s with runDue := false }).after_same rfl
  have hpriority (t : State) : t.LinksMove t.servePriority := by
    unfold State.servePriority
    split <;> exact linksMove_serveBank _ _ _ t
  have hstandard (t : State) : t.LinksMove t.serveStandard := by
    unfold State.serveStandard
    split <;> exact linksMove_serveBank _ _ _ t
  exact (hspot.trans (hpriority _)).trans (hstandard _)

/-! ## What a step answers -/

/-- The step answers a next state, to which the links go by the rules. -/
def AnswersNext (s : State) (r : Result) : Prop := ∃ t, r = .next t ∧ s.LinksMove t

section
variable {s : State} {code : Byte} {tag : Tag} {p : List Byte}

theorem answersNext_next {t : State} (h : s.LinksMove t) : AnswersNext s (.next t) := ⟨t, rfl, h⟩

theorem answersNext_event {b : Bool} {f : State → State} (h : ∀ t : State, t.LinksMove (f t)) :
    AnswersNext s (event b s f) := by
  refine answersNext_next ?_
  split
  · exact h s
  · exact .refl s

/-- An event behind which the links stand. -/
theorem answersNext_still {b : Bool} {f : State → State} (h : ∀ t : State, (f t).links = t.links) :
    AnswersNext s (event b s f) := answersNext_event (fun t => linksMove_of_same (h t))

theorem linksMove_taken (s : State) : s.LinksMove { s with mli := { s.mli with rxBuffer := s.mli.rxBuffer.tail } } :=
  linksMove_mli (.taken _)

/-- The body of a command finds the transmit queue below 56 records (R171). -/
theorem answersNext_command {body : Cmd → State → State}
    (h : ∀ c (t : State), t.mli.tx.length < 56 → t.LinksMove (body c t)) :
    AnswersNext s (hostCommand code tag p s body) := by
  rcases hostCommand_next code tag p s body with heq | ⟨t, ht, heq⟩
  · rw [heq]; exact answersNext_next (.refl s)
  · rw [heq]
    obtain ⟨-, hroom, -, rfl⟩ := takeFrame_some s t _ ht
    exact answersNext_next ((linksMove_taken s).trans (h _ _ hroom))

end

/-! ## Commands that check and then reply (R11, R171, R181) -/

section
variable {s : State} (room : s.mli.tx.length < 56) (c : Cmd)
include room

theorem linksMove_fixedLength {n : Nat} {p : List Byte} {body : State → State} (h : s.LinksMove (body s)) :
    s.LinksMove (fixedLength n p c body s) := by
  unfold fixedLength
  split
  · exact h
  · exact linksMove_refuse room c _

theorem linksMove_rangeCommand {first count : Nat} {check : State → Nat → Option Status} {carryOut : State → State}
    (h : s.LinksMove (carryOut s)) : s.LinksMove (rangeCommand first count c check carryOut s) := by
  unfold rangeCommand
  split
  · exact linksMove_reply room c _ _ _
  · split
    · exact linksMove_reply room c _ _ _
    · exact h

/-- The reply, then one step for each circuit of the range. -/
theorem linksMove_rangeBody {p : List Byte} {check : State → Nat → Option Status} {one : State → Nat → State}
    (h : ∀ (t : State) k, t.LinksMove (one t k)) : s.LinksMove (rangeBody p c check
      (fun first count t => (rangeOf first count).foldl one (t.replyRange c .ok count 0 false)) s) :=
  linksMove_fixedLength room c (linksMove_rangeCommand room c
    ((linksMove_reply room c _ _ _).trans (linksMove_foldl one h _ _)))

/-- A command of one engine, refused outside the table. -/
theorem linksMove_engineCommand {p : List Byte} {body : Nat → State → State} (h : ∀ e, s.LinksMove (body e s)) :
    s.LinksMove (engineCommand p c body s) := linksMove_fixedLength room c (by
  split
  · exact h _
  · exact linksMove_refuse room c _)

/-- A command of one node, refused outside the table. -/
theorem linksMove_nodeCommand {p : List Byte} {body : Nat → State → State} (h : ∀ n, s.LinksMove (body n s)) :
    s.LinksMove (nodeCommand p c body s) := linksMove_fixedLength room c (by
  split
  · exact h _
  · exact linksMove_refuse room c _)

/-- A campaign command without fields. -/
theorem linksMove_campaignCommand {p : List Byte} {body : State → State} (h : s.LinksMove (body s)) :
    s.LinksMove (campaignCommand p c body s) := linksMove_fixedLength room c (by
  split
  · exact linksMove_refuse room c _
  · exact h)

/-- A reply behind which the links stand. -/
theorem linksMove_replied {t : State} {st : Status} {p : List Byte} {b : Bool} (h : t.links = (s.reply c st p b).links) :
    s.LinksMove t := (linksMove_reply room c st p b).then_same h

end

/-- A report writes its reply and nothing else. -/
theorem answersNext_report {s : State} {code : Byte} {tag : Tag} {p : List Byte} (f : State → List Byte) :
    AnswersNext s (hostCommand code tag p s (fun c => fixedLength 0 p c (fun t => t.reply c .ok (f t) false))) :=
  answersNext_command (fun c _ room => linksMove_fixedLength room c (linksMove_reply room c _ _ _))

theorem answersNext_engine {s : State} {code : Byte} {tag : Tag} {p : List Byte} (body : Cmd → Nat → State → State)
    (h : ∀ c e (t : State), t.mli.tx.length < 56 → t.LinksMove (body c e t)) :
    AnswersNext s (hostCommand code tag p s (fun c => engineCommand p c (body c))) :=
  answersNext_command (fun c t room => linksMove_engineCommand room c (fun e => h c e t room))

/-! ## The circuit table (R11 to R19) -/

theorem linksMove_retireOne (s : State) (c : Nat) : s.LinksMove (s.retireOne c) := by
  unfold State.retireOne
  split
  · exact (linksMove_withdraw s _ c).then_same rfl
  · exact linksMove_of_same rfl

theorem linksMove_suspendOne (s : State) (c : Nat) : s.LinksMove (s.suspendOne c) := by
  unfold State.suspendOne
  dsimp only
  split
  · exact (linksMove_withdraw _ _ c).after_same rfl
  · exact linksMove_of_same rfl

theorem linksMove_requeue (s : State) (c old : Nat) : s.LinksMove (s.requeue c old) := by
  unfold State.requeue
  dsimp only
  split
  · exact linksMove_withdraw s .held c
  · split
    · exact .refl s
    · exact linksMove_of_same rfl

theorem linksMove_defineOne (s : State) (c : Nat) (d : Definition) : s.LinksMove (s.defineOne c d) := by
  unfold State.defineOne
  dsimp only
  split
  · exact (linksMove_requeue _ c _).after_same rfl
  · exact linksMove_of_same rfl

theorem linksMove_enable (s : State) (e : Nat) : s.LinksMove (s.enable e) := by
  unfold State.enable
  split <;> exact linksMove_of_same rfl

theorem linksMove_disable (s : State) (e : Nat) : s.LinksMove (s.disable e) := by
  unfold State.disable
  split
  · exact linksMove_goOffline s e
  · exact .refl s
  · exact linksMove_of_same rfl

section
variable {s : State} (room : s.mli.tx.length < 56) (c : Cmd)
include room

theorem linksMove_circuitDefineBody (p : List Byte) : s.LinksMove (circuitDefineBody p c s) := by
  unfold circuitDefineBody
  split
  · exact linksMove_rangeCommand room c ((linksMove_reply room c _ _ _).trans
      (linksMove_foldl _ (fun u k => linksMove_defineOne u _ _) _ _))
  · exact linksMove_refuse room c _

/-! ## Engines, points, nodes, open loops and the matrix -/

theorem linksMove_engineCalibrateBody (e : Nat) : s.LinksMove (engineCalibrateBody c e s) := by
  unfold engineCalibrateBody
  split
  · exact linksMove_refuse room c _
  · unfold State.queueCalibration
    split
    · rename_i i hfree
      exact (linksMove_takeSlot hfree c (.calibration e)).then_same (by simp [State.links])
    · exact .refl s

theorem linksMove_pointSetBody (p : List Byte) : s.LinksMove (pointSetBody p c s) := by
  have hset (t : State) (n : Nat) (v : Service) : (t.setService n v).links = t.links := by
    simp [State.links, State.setService]
  unfold pointSetBody
  split
  · exact linksMove_replied room c (hset _ _ _)
  · exact linksMove_refuse room c _

theorem linksMove_nodeSetBody (p : List Byte) : s.LinksMove (nodeSetBody p c s) := by
  unfold nodeSetBody
  dsimp only
  split
  · exact linksMove_refuse room c _
  · exact linksMove_replied room c rfl

theorem linksMove_nodeHoldBody (n : Nat) : s.LinksMove (nodeHoldBody c n s) := by
  unfold nodeHoldBody
  split
  · exact linksMove_reply room c _ _ _
  · exact (linksMove_reply room c _ _ _).trans (linksMove_holdNode _ n .command)

theorem linksMove_releaseRetryBody (p : List Byte) : s.LinksMove (releaseRetryBody p c s) := by
  unfold releaseRetryBody
  split
  · exact linksMove_refuse room c _
  · exact linksMove_replied room c rfl

theorem linksMove_openLoopClearBody (p : List Byte) : s.LinksMove (openLoopClearBody p c s) := by
  have hclear (t : State) (k : Nat) (o : OpenLoop) : (t.clearLoop k o).links = t.links := rfl
  unfold openLoopClearBody
  split
  · exact linksMove_refuse room c _
  · split
    · exact .refl s
    · exact (linksMove_replied room c (hclear _ _ _)).trans (linksMove_offer _ _ _)

theorem linksMove_matrixSetBody (p : List Byte) : s.LinksMove (matrixSetBody p c s) :=
  (linksMove_reply room c _ _ _).trans (linksMove_amc (.timed _ (rd16 p 0) (rd16 p 2)))

theorem linksMove_matrixResyncBody : s.LinksMove (matrixResyncBody c s) := by
  unfold matrixResyncBody
  split
  · exact linksMove_refuse room c _
  · split
    · exact linksMove_refuse room c _
    · rename_i i hfree
      exact (linksMove_takeSlot hfree c .resync).trans (linksMove_issue _ _)

/-! ## Campaigns (R115 to R132) -/

theorem linksMove_carryStart (kind : CampaignKind) (carried : Params) (x : Selection) :
    s.LinksMove (carryStart c kind carried x s) := by
  have hqueue (t : State) (k : Nat) : (t.queueCircuit k).links = t.links := by simp [State.links, State.queueCircuit]
  have hfilled : s.LinksMove (s.startFilled c kind carried x) :=
    linksMove_replied room c (foldl_keeps State.queueCircuit State.links hqueue _ _)
  have hended (t : State) (h : s.LinksMove t) : s.LinksMove t.startRun := h.then_same rfl
  rw [carryStart_eq]
  refine hended _ ?_
  split
  · exact hfilled.trans (linksMove_endCampaign _)
  · exact hfilled

theorem linksMove_campaignStartBody (p : List Byte) : s.LinksMove (campaignStartBody p c s) := by
  unfold campaignStartBody
  split
  · exact linksMove_refuse room c _
  · split
    · exact linksMove_refuse room c _
    · split
      · exact linksMove_carryStart room c _ _ _
      · exact .refl s

theorem linksMove_campaignAddBody (p : List Byte) : s.LinksMove (campaignAddBody p c s) := by
  have hadd (t : State) (k : Nat) : (t.addOne k).links = t.links := by
    unfold State.addOne State.queueCircuit
    dsimp only
    split <;> simp [State.links]
  unfold campaignAddBody
  split_ifs
  · exact linksMove_refuse room c _
  · exact linksMove_refuse room c _
  · exact linksMove_refuse room c _
  · exact linksMove_replied room c (foldl_keeps State.addOne State.links hadd _ _)

theorem linksMove_campaignResumeBody : s.LinksMove (campaignResumeBody c s) := by
  have hreply := linksMove_reply room c .ok (be8 s.afterResume.byte) false
  have hresumed (t : State) (f : Campaign → Campaign) : t.LinksMove ((t.modCampaign f).testEnd.startRun) :=
    ((linksMove_testEnd (t.modCampaign f)).after_same (s := t) rfl).then_same (u := (t.modCampaign f).testEnd.startRun) rfl
  unfold campaignResumeBody
  dsimp only
  split
  · exact hreply.trans (hresumed _ _)
  · exact hreply.then_same rfl

theorem linksMove_campaignCancelBody : s.LinksMove (campaignCancelBody c s) := by
  unfold campaignCancelBody
  split
  · exact linksMove_reply room c _ _ _
  · exact (linksMove_reply room c _ _ _).trans (linksMove_drained _ _ _)

theorem linksMove_campaignAbortBody : s.LinksMove (campaignAbortBody c s) := by
  have hengine (t : State) (e : Nat) : (t.abortEngine e).links = t.links := by
    unfold State.abortEngine State.markAborted State.endSoak
    split
    · split <;> simp [State.links]
    · rfl
  have hqueues (t : State) : t.LinksMove t.abortQueues := by
    unfold State.abortQueues
    split
    · exact linksMove_of_same rfl
    · exact linksMove_drained t _ _
  exact ((linksMove_reply room c _ _ _).trans (hqueues _)).then_same (foldl_keeps State.abortEngine State.links hengine _ _)

theorem linksMove_classSetBody (p : List Byte) : s.LinksMove (classSetBody p c s) := by
  unfold classSetBody
  dsimp only
  split
  · exact linksMove_refuse room c _
  · exact linksMove_replied room c rfl

theorem linksMove_probeCircuitBody (p : List Byte) : s.LinksMove (probeCircuitBody p c s) := by
  unfold probeCircuitBody
  split
  · exact linksMove_refuse room c _
  · unfold State.queueProbe
    split
    · split
      · rename_i i hfree
        exact (linksMove_takeSlot hfree c (.spotProbe (rd16 p 0))).then_same (by simp [State.links])
      · exact .refl s
    · exact linksMove_replied room c rfl

/-! ## Resets and frames that are no command (R171, R176, R177) -/

theorem linksMove_deviceResetBody (p : List Byte) : s.LinksMove (deviceResetBody p c s) := by
  have habandon (u : State) (q : DeferredSlot × Nat) : u.LinksMove (u.abandon q.1 q.2) := by
    unfold State.abandon
    split <;> exact linksMove_answer u _ _ _ _
  have hemptied (u : State) (loops : Nat) : u.LinksMove (u.emptied loops) :=
    ⟨rfl, .single (.softReset _ loops),
      .tail (.single (.requested u.amc [] none .unsynced)) (.listened _ u.amc.rxAt (Nat.zero_le _))⟩
  have habandonAll (u : State) : u.LinksMove u.abandonAll := linksMove_foldl _ habandon u.unanswered u
  have hreset (u : State) (loops : Nat) : u.LinksMove (u.softReset loops) :=
    (hemptied u loops).trans (linksMove_issue (u.emptied loops) Request.ofReset)
  unfold deviceResetBody
  split
  · exact linksMove_refuse room c _
  · exact ((linksMove_reply room c _ _ _).trans (habandonAll _)).trans (hreset _ _)

end

theorem linksMove_coldFrom (a b : Bool) (s : State) : s.LinksMove (State.coldFrom a b s) :=
  ⟨rfl, .single (.coldReset _), .single (.coldReset _)⟩

theorem linksMove_frameError (s : State) : s.LinksMove s.frameError := linksMove_mli (.frameError _)

theorem unknownCommand_answersNext (s : State) (kind code : Byte) (tag : Tag) (p : List Byte) :
    AnswersNext s (execUnknownCommand kind code tag p s) := by
  unfold execUnknownCommand
  split
  · exact answersNext_next (.refl s)
  · rename_i t ht
    obtain ⟨-, hroom, -, rfl⟩ := takeFrame_some s t _ ht
    split_ifs
    · exact answersNext_next ((linksMove_taken s).trans (linksMove_frameError _))
    · exact answersNext_next (.refl s)
    · exact answersNext_next ((linksMove_taken s).trans
        (linksMove_refuse (s := { s with mli := { s.mli with rxBuffer := s.mli.rxBuffer.tail } }) hroom _ _))

/-! ## The management link (R168 to R178) -/

section
variable (s : State)

theorem linksMove_setReceiver (r : Receiver) : s.LinksMove (s.setReceiver r) := linksMove_mli (.listened _ r s.now)

theorem linksMove_frameArrived (f : Frame) : s.LinksMove (s.frameArrived f) := by
  unfold State.frameArrived
  split
  · exact linksMove_mli (.arrived f ‹_›)
  · exact linksMove_mli (.overrun _)

theorem linksMove_judgeFrame (len : Nat) (body got : List Byte) : s.LinksMove (s.judgeFrame len body got) := by
  unfold State.judgeFrame
  dsimp only
  split
  · exact (linksMove_setReceiver s _).trans (linksMove_frameArrived _ _)
  · exact (linksMove_setReceiver s _).trans (linksMove_frameError _)

theorem linksMove_linkByte (b : Byte) : s.LinksMove (s.linkByte b) := by
  unfold State.linkByte
  split
  · split
    · exact linksMove_setReceiver s _
    · exact .refl s
  · split
    · exact linksMove_setReceiver s _
    · split
      · exact linksMove_setReceiver s _
      · exact (linksMove_setReceiver s _).trans (linksMove_frameError _)
  · split <;> exact linksMove_setReceiver s _
  · split
    · exact linksMove_setReceiver s _
    · exact linksMove_judgeFrame s _ _ _

theorem linksMove_discardFrame : s.LinksMove s.discardFrame :=
  .trans (t := { s with mli := { s.mli with receiver := .hunt } }) (linksMove_mli (.listened _ .hunt s.mli.rxAt))
    (linksMove_frameError _)

theorem linksMove_recordLeaves : s.LinksMove s.recordLeaves := by
  unfold State.recordLeaves
  split
  · exact .refl s
  · rename_i r rest htx
    dsimp only
    split
    · exact linksMove_mli (.freed htx ‹_›)
    · exact linksMove_mli (.left htx ‹_›)

/-- READY is placed below 48 records (R178). -/
theorem linksMove_placeReady (h : s.readyDue = true) : s.LinksMove s.placeReady := by
  have hroom : s.mli.tx.length < 48 := by
    simp only [State.readyDue, Bool.and_eq_true, decide_eq_true_eq] at h
    exact h.2
  unfold State.placeReady
  split
  · exact .refl s
  · split
    · exact .refl s
    · exact .trans (t := { s with mli := { s.mli with startup := none, receiver := .hunt } })
        (linksMove_mli (.started _ _ _)) (linksMove_mli (.placed rfl (Nat.lt_trans hroom (by decide))))

theorem ready_answersNext : AnswersNext s (execReady s) := by
  refine answersNext_next ?_
  split
  · exact linksMove_placeReady s ‹_›
  · exact .refl s

theorem linksMove_noteSent : s.LinksMove s.noteSent := linksMove_amc (.requested s.amc s.amc.fifo _ s.amc.link)

/-! ## The moments of the lanes (chapters 2 and 3) -/

theorem linksMove_loopUpExpires (e : Nat) : s.LinksMove (s.loopUpExpires e) := by
  unfold State.loopUpExpires
  split
  · exact linksMove_of_same (by simp [State.links])
  · have hwritten : (s.writeOutcome e .noLoop).links = s.links := by simp [State.links]
    have hcourtesy (t : State) : (t.startCourtesy e).links = t.links := by simp [State.links]
    exact ((linksMove_reportNoLoop _ _).after_same hwritten).then_same (hcourtesy _)

theorem links_settleEnds (e : Nat) : (s.settleEnds e).links = s.links := by
  unfold State.settleEnds
  split
  · rfl
  · split
    · simp [State.links]
    · simp [State.links]
    · split <;> simp [State.links]
    · simp [State.links]

theorem links_aisEnds (l : Nat) : (s.aisEnds l).links = s.links := by
  unfold State.aisEnds State.endSoak
  split <;> simp [State.links]

theorem linksMove_syncGained (e l : Nat) : s.LinksMove (s.syncGained e l) := by
  unfold State.syncGained
  split
  · split
    · exact linksMove_of_same (by simp [State.links, State.accumulate])
    · exact .refl s
  · split
    · exact linksMove_releaseAttemptFailed s l
    · exact .refl s
  · split
    · exact linksMove_of_same (by simp [State.links])
    · exact .refl s
  · exact .refl s

theorem linksMove_wordFound (e : Nat) : s.LinksMove (s.wordFound e) := by
  unfold State.wordFound
  split
  · exact .refl s
  · dsimp only
    split
    · exact (linksMove_startDisconnect _ e).after_same rfl
    · exact linksMove_of_same rfl

theorem linksMove_wordLost (e : Nat) : s.LinksMove (s.wordLost e) := by
  unfold State.wordLost
  dsimp only
  split
  · exact (linksMove_startDisconnect _ e).after_same rfl
  · exact linksMove_of_same rfl

end

/-! ## Every instruction -/

theorem exec_answersNext (i : Instr) (s : State) : AnswersNext s (exec i s) := by
  cases i with
  | circuitDefine tag p => exact answersNext_command (fun c t room => linksMove_circuitDefineBody room c p)
  | circuitReport tag p =>
    exact answersNext_command (fun c t room => linksMove_fixedLength room c (linksMove_rangeCommand room c
      (carryOut := carryReport c _ _) (linksMove_reply room c _ _ _)))
  | circuitRetire tag p => exact answersNext_command (fun c t room => linksMove_rangeBody room c linksMove_retireOne)
  | circuitSuspend tag p => exact answersNext_command (fun c t room => linksMove_rangeBody room c linksMove_suspendOne)
  | circuitResume tag p =>
    exact answersNext_command (fun c t room =>
      linksMove_rangeBody room c (one := State.resumeOne) (fun _ _ => linksMove_of_same rfl))
  | circuitBaselineClear tag p =>
    exact answersNext_command (fun c t room =>
      linksMove_rangeBody room c (one := State.clearBaselines) (fun _ _ => linksMove_of_same rfl))
  | engineEnable tag p =>
    exact answersNext_engine _ (fun c e t room => (linksMove_reply room c .ok [] false).trans (linksMove_enable _ e))
  | engineDisable tag p =>
    exact answersNext_engine _ (fun c e t room => (linksMove_reply room c .ok [] false).trans (linksMove_disable _ e))
  | engineCalibrate tag p =>
    exact answersNext_engine _ (fun c e _ room => linksMove_engineCalibrateBody room c e)
  | engineReport tag p =>
    exact answersNext_engine _ (fun c e t room => linksMove_reply room c .ok (t.engineReport e) false)
  | campaignStart tag p => exact answersNext_command (fun c t room => linksMove_campaignStartBody room c p)
  | campaignAdd tag p => exact answersNext_command (fun c t room => linksMove_campaignAddBody room c p)
  | campaignPause tag p =>
    exact answersNext_command (fun c t room => linksMove_campaignCommand room c
      (body := campaignPauseBody c) (linksMove_replied room c rfl))
  | campaignResume tag p =>
    exact answersNext_command (fun c t room => linksMove_campaignCommand room c (linksMove_campaignResumeBody room c))
  | campaignCancel tag p =>
    exact answersNext_command (fun c t room => linksMove_campaignCommand room c (linksMove_campaignCancelBody room c))
  | campaignAbort tag p =>
    exact answersNext_command (fun c t room => linksMove_campaignCommand room c (linksMove_campaignAbortBody room c))
  | campaignReport tag p => exact answersNext_report State.campaignReport
  | pointReport tag p => exact answersNext_report State.pointReport
  | nodeReport tag p => exact answersNext_report State.nodeReport
  | openLoopReport tag p => exact answersNext_report State.openLoopReport
  | deviceStatus tag p => exact answersNext_report State.deviceStatus
  | classSet tag p =>
    exact answersNext_command (fun c t room => linksMove_fixedLength room c (linksMove_classSetBody room c p))
  | probeCircuit tag p =>
    exact answersNext_command (fun c t room => linksMove_fixedLength room c (linksMove_probeCircuitBody room c p))
  | pointSet tag p =>
    exact answersNext_command (fun c t room => linksMove_fixedLength room c (linksMove_pointSetBody room c p))
  | nodeSet tag p =>
    exact answersNext_command (fun c t room => linksMove_fixedLength room c (linksMove_nodeSetBody room c p))
  | nodeHold tag p =>
    exact answersNext_command (fun c t room => linksMove_nodeCommand room c (linksMove_nodeHoldBody room c))
  | nodeRelease tag p =>
    exact answersNext_command (fun c t room => linksMove_nodeCommand room c (body := nodeReleaseBody c)
      (fun n => linksMove_replied room c rfl))
  | releaseRetry tag p =>
    exact answersNext_command (fun c t room => linksMove_fixedLength room c (linksMove_releaseRetryBody room c p))
  | openLoopClear tag p =>
    exact answersNext_command (fun c t room => linksMove_fixedLength room c (linksMove_openLoopClearBody room c p))
  | matrixSet tag p =>
    exact answersNext_command (fun c t room => linksMove_fixedLength room c (linksMove_matrixSetBody room c p))
  | matrixResync tag p =>
    exact answersNext_command (fun c t room => linksMove_fixedLength room c (linksMove_matrixResyncBody room c))
  | deviceReset tag p =>
    exact answersNext_command (fun c t room => linksMove_fixedLength room c (linksMove_deviceResetBody room c p))
  | unknownCommand kind code tag p => exact unknownCommand_answersNext s kind code tag p
  | coldReset a b => exact answersNext_next (linksMove_coldFrom a b s)
  | frameReceived bytes => exact answersNext_event (linksMove_foldl _ linksMove_linkByte bytes)
  | lineError | frameGap => exact answersNext_event linksMove_discardFrame
  | recordSent => exact answersNext_event linksMove_recordLeaves
  | ready => exact ready_answersNext s
  | timeBaseTick lanes => exact answersNext_next (linksMove_of_same rfl)
  | arbiterRun => exact answersNext_event linksMove_runArbiter
  | requestSent => exact answersNext_event linksMove_noteSent
  | matrixAnswer bytes => exact answersNext_next (linksMove_foldl _ linksMove_answerByte bytes s)
  | matrixAnswerGap => exact answersNext_event linksMove_dropAnswer
  | matrixTimeout => exact answersNext_event linksMove_timeOut
  | settleEnd ev =>
    exact answersNext_still (fun t => (links_settleEnds (t.moveTo ev.moment) ev.engine.val).trans rfl)
  | loopConfirmed e =>
    exact answersNext_still (f := fun t => (t.reportConfirmed (s.engine e.val).farNode).startSoak e.val)
      (fun t => by simp [State.links])
  | loopUpTimeout e => exact answersNext_event (fun t => linksMove_loopUpExpires t e.val)
  | retrySpacingEnd e => exact answersNext_still (f := fun t => t.startLoopUp e.val) (fun t => by simp [State.links])
  | aisRaised e => exact answersNext_still (fun t => links_aisEnds t (s.leadOf e.val))
  | signalDropout e =>
    exact answersNext_still (f := fun t => (t.writeOutcome (s.leadOf e.val) .signalDropout).endSoak (s.leadOf e.val))
      (fun t => by simp [State.links, State.endSoak])
  | checkerSyncGain e rx m =>
    exact answersNext_event (f := fun t => ((t.hear e.val rx m).takeGain e.val).syncGained e.val (s.leadOf e.val))
      (fun t => (linksMove_syncGained ((t.hear e.val rx m).takeGain e.val) _ _).after_same rfl)
  | syncLoss ev rx => exact answersNext_still (f := fun t => t.hear ev.engine.val rx ev.moment) (fun _ => rfl)
  | marker e => exact answersNext_still (f := fun t => t.placeMarker e.val) (fun t => by simp [State.links, State.placeMarker])
  | delayWordFound e rx m =>
    exact answersNext_event (f := fun t => (t.hear e.val rx m).wordFound e.val)
      (fun t => (linksMove_wordFound (t.hear e.val rx m) _).after_same rfl)
  | delayWordTimeout ev =>
    exact answersNext_event (f := fun t => (t.moveTo ev.moment).wordLost ev.engine.val)
      (fun t => (linksMove_wordLost (t.moveTo ev.moment) _).after_same rfl)
  | calibrationLimit e => exact answersNext_event (fun t => linksMove_startDisconnect t e.val)
  | soakTimeEnd e => exact answersNext_still (f := fun t => t.endSoak e.val) (fun t => by simp [State.links, State.endSoak])
  | releaseHoldEnd e => exact answersNext_still (f := fun t => t.startCheck e.val) (fun t => by simp [State.links])
  | releaseCheckEnd e => exact answersNext_event (fun t => linksMove_releaseProven t e.val)
  | courtesyHoldEnd e => exact answersNext_event (fun t => linksMove_releaseEnd t e.val)
  | creditAccrual k =>
    exact answersNext_still (f := fun t => t.accrue k.val) (fun t => by simp [State.links, State.accrue])
  | deadlineExpiry => exact answersNext_event (fun t => linksMove_drained t .deadline .deadline)
  | nextEligibleReached n =>
    exact answersNext_still (f := fun t => (t.setNode n.val { t.node n.val with waitPending := false }).startRun)
      (fun _ => rfl)

/-- A step moves the links by the rules, and takes its own command off the queue of steps. -/
theorem step_linksMove {s t : State} (h : step s = .next t) :
    Relation.ReflTransGen Mli.Move s.mli t.mli ∧ Relation.ReflTransGen Amc.Move s.amc t.amc := by
  unfold step at h
  split at h
  · cases h; exact ⟨.refl, .refl⟩
  · rename_i c rest _
    obtain ⟨u, hu, hmoves⟩ := exec_answersNext c { s with pending := rest }
    rw [hu] at h
    cases h
    exact ⟨hmoves.mli, hmoves.amc⟩

/-- Settles O5: a step is made of moves of the rules, and each of them keeps the ranges. -/
theorem linksStayInRange : Obligations.LinksStayInRange := fun s t hs h => by
  obtain ⟨hmli, hamc⟩ := step_linksMove h
  rw [linksInRange_iff] at hs ⊢
  exact hs.imp (kept_of_moves (P := Mli.CountsInRange) Mli.Move.countsInRange hmli)
    (kept_of_moves (P := Amc.InRange) Amc.Move.inRange hamc)

/-- Settles O9: a move places a record below 56 records or as the reply of a slot of its own, and there are eight slots. -/
theorem transmitQueueStaysInRange : Obligations.TransmitQueueStaysInRange :=
  ⟨fun _ _ hs h => kept_of_moves (P := Mli.QueueInRange) Mli.Move.queueInRange (step_linksMove h).1 hs,
    fun s hs => length_tx_le (m := s.mli) hs⟩

/-- Settles O2: every arm answers a next state, and its moves leave the queue of steps. -/
theorem everyCommandAnswersNext : Obligations.EveryCommandAnswersNext := by
  refine ⟨fun c s => ?_, fun s h => ?_⟩
  · obtain ⟨t, ht, hmoves⟩ := exec_answersNext c s
    exact ⟨t, ht, hmoves.pending⟩
  · simp only [step, h]

end Sys2Proof.Machine
end


section
/-! SUPPORT. O47: a frame arrives byte by byte (R168 to R170). -/

namespace Sys2Proof.Machine

/-! ## One byte (R168) -/

section
variable (s : State)

theorem setReceiver_setReceiver (r q : Receiver) : (s.setReceiver r).setReceiver q = s.setReceiver q := rfl

theorem judgeFrame_setReceiver (r : Receiver) (len : Nat) (body got : List Byte) :
    (s.setReceiver r).judgeFrame len body got = s.judgeFrame len body got := rfl

theorem linkByte_sync {s : State} (h : s.mli.receiver = .hunt) : s.linkByte 0xA5 = s.setReceiver (.length []) := by
  simp [State.linkByte, h]

/-- In HUNT a byte that is no sync byte is discarded without count (R168). -/
theorem linkByte_discarded {s : State} (h : s.mli.receiver = .hunt) {b : Byte} (hb : b ≠ 0xA5) : s.linkByte b = s := by
  rw [State.linkByte, h]
  exact if_neg hb

theorem linkByte_high (high : Byte) :
    (s.setReceiver (.length [])).linkByte high = s.setReceiver (.length [high]) := rfl

/-- The second length byte decides whether a body begins (R168, R169). -/
theorem linkByte_low (high low : Byte) :
    (s.setReceiver (.length [high])).linkByte low =
      if 10 ≤ rd16 [high, low] 0 ∧ rd16 [high, low] 0 ≤ 1024 then s.setReceiver (.body (rd16 [high, low] 0) [])
      else (s.setReceiver .hunt).frameError := rfl

theorem linkByte_body (len : Nat) (got : List Byte) (b : Byte) :
    (s.setReceiver (.body len got)).linkByte b =
      if (got ++ [b]).length < len - 5 then s.setReceiver (.body len (got ++ [b]))
      else s.setReceiver (.check len (got ++ [b]) []) := rfl

theorem linkByte_check (len : Nat) (body : List Byte) (a b : Byte) :
    [a, b].foldl State.linkByte (s.setReceiver (.check len body [])) = s.judgeFrame len body [a, b] := rfl

/-! ## A whole frame -/

/-- The bytes of a body are taken until as many have come as the length states. -/
theorem foldl_linkByte_body {len : Nat} (more got : List Byte) (hmore : more ≠ [])
    (h : got.length + more.length + 5 = len) :
    more.foldl State.linkByte (s.setReceiver (.body len got)) = s.setReceiver (.check len (got ++ more) []) := by
  induction more generalizing got with
  | nil => exact absurd rfl hmore
  | cons b rest ih =>
    rw [List.foldl_cons, linkByte_body, List.length_append, List.length_singleton]
    rw [List.length_cons] at h
    cases rest with
    | nil => rw [if_neg (by simp at h; omega), List.foldl_nil]
    | cons b' rest' =>
      rw [if_pos (by rw [List.length_cons] at h; omega), ih _ (List.cons_ne_nil _ _)
        (by rw [List.length_append, List.length_singleton]; omega), List.append_assoc, List.singleton_append]

theorem rd16_be16 {n : Nat} (h : n < 65536) (l : List Byte) : rd16 (be16 n ++ l) 0 = n := by
  simp only [rd16, rd8, be16, List.cons_append, List.nil_append, List.getD_cons_zero, List.getD_cons_succ,
    BitVec.toNat_ofNat]
  omega

/-- A receiver in HUNT takes a frame with a length in range up to its second CRC byte. -/
theorem foldl_linkByte_frame {s : State} (h : s.mli.receiver = .hunt) {len : Nat} {body crc : List Byte} (hlow : 10 ≤ len)
    (hhigh : len ≤ 1024) (hbody : body.length + 5 = len) (hcrc : crc.length = 2) :
    (0xA5 :: be16 len ++ body ++ crc).foldl State.linkByte s = s.judgeFrame len body crc := by
  obtain ⟨a, b, rfl⟩ := List.length_eq_two.1 hcrc
  have hlen : rd16 (be16 len) 0 = len := by simpa using rd16_be16 (n := len) (by omega) []
  have hlength : (0xA5 :: be16 len).foldl State.linkByte s = s.setReceiver (.body len []) := by
    rw [List.foldl_cons, linkByte_sync h]
    change (((s.setReceiver (.length [])).linkByte (BitVec.ofNat 8 (len / 256))).linkByte (BitVec.ofNat 8 len)) = _
    rw [linkByte_high, linkByte_low]
    change (if 10 ≤ rd16 (be16 len) 0 ∧ rd16 (be16 len) 0 ≤ 1024 then s.setReceiver (.body (rd16 (be16 len) 0) [])
      else (s.setReceiver .hunt).frameError) = _
    rw [hlen, if_pos ⟨hlow, hhigh⟩]
  have hne : body ≠ [] := by
    rintro rfl
    simp at hbody
    omega
  rw [List.foldl_append, List.foldl_append, hlength,
    foldl_linkByte_body s body [] hne (by simpa using hbody), List.nil_append, linkByte_check]

/-- A length out of its range is a frame error behind its second byte, and the receiver hunts (R169). -/
theorem foldl_linkByte_badLength {s : State} (h : s.mli.receiver = .hunt) {high low : Byte}
    (hbad : 256 * high.toNat + low.toNat < 10 ∨ 1024 < 256 * high.toNat + low.toNat) :
    [0xA5, high, low].foldl State.linkByte s = (s.setReceiver .hunt).frameError := by
  have hlen : rd16 [high, low] 0 = 256 * high.toNat + low.toNat := by simp [rd16, rd8, Nat.mul_comm]
  change ((s.linkByte 0xA5).linkByte high).linkByte low = _
  rw [linkByte_sync h, linkByte_high, linkByte_low, hlen, if_neg (by omega)]

end

/-! ## The command frame (R168, R180) -/

/-- The body that carries a command, its status and flag bytes as given. -/
def Frame.body (f : Frame) (status flags : Byte) : List Byte :=
  [f.kind, f.code] ++ be16 f.tag.toNat ++ [status, flags] ++ f.payload

theorem length_body (f : Frame) (status flags : Byte) : (f.body status flags).length = f.payload.length + 6 := by
  simp [Frame.body]
  omega

/-- The status and flag bytes are spare (R180). -/
theorem frameOfBody_body (f : Frame) (status flags : Byte) : frameOfBody (f.body status flags) = f := by
  have htag : rd16 (f.body status flags) 2 = f.tag.toNat := by
    have hlt := f.tag.isLt
    have hskip : rd16 (f.body status flags) 2 = rd16 (be16 f.tag.toNat ++ ([status, flags] ++ f.payload)) 0 := by
      simp [Frame.body, rd16, rd8, be16]
    rw [hskip, rd16_be16 hlt]
  unfold frameOfBody
  rw [htag]
  simp [Frame.body, be16]

theorem bytes_eq (f : Frame) : f.bytes = 0xA5 :: be16 (f.payload.length + 11) ++ f.body 0 0 ++
    crcBytes (be16 (f.payload.length + 11) ++ f.body 0 0) := by
  have hlen := length_body f 0 0
  have hbytes : f.bytes = 0xA5 :: (be16 ((f.body 0 0).length + 5) ++ f.body 0 0) ++
      crcBytes (be16 ((f.body 0 0).length + 5) ++ f.body 0 0) := rfl
  rw [hbytes, hlen]
  rfl

/-! ## What the frame does (R169, R170) -/

theorem exec_frameReceived {s : State} (h : s.mli.startup = none) (bytes : List Byte) :
    exec (.frameReceived bytes) s = .next (bytes.foldl State.linkByte s) := by
  have hup : (!s.inStartup) = true := by simp [State.inStartup, h]
  exact event_true (!s.inStartup) s (fun t => bytes.foldl State.linkByte t) hup

theorem setReceiver_hunt {s : State} (h : s.mli.receiver = .hunt) :
    s.setReceiver .hunt = { s with mli := { s.mli with rxAt := s.now } } := by
  rw [State.setReceiver, ← h]

theorem judgeFrame_error (s : State) {len : Nat} {body got : List Byte}
    (h : got ≠ crcBytes (be16 len ++ body) ∨ body.length < 6) :
    s.judgeFrame len body got = (s.setReceiver .hunt).frameError := by
  refine if_neg ?_
  rintro ⟨hcrc, hlen⟩
  rcases h with h | h
  · exact h hcrc
  · omega

section
variable {s : State} (hup : s.mli.startup = none) (hhunt : s.mli.receiver = .hunt)
include hup hhunt

/-- The bytes that carry a command, with the CRC behind them. -/
theorem exec_command {f : Frame} (hf : f.payload.length ≤ 1013) (status flags : Byte) {crc : List Byte} (hcrc : crc.length = 2) :
    exec (.frameReceived (0xA5 :: be16 (f.payload.length + 11) ++ f.body status flags ++ crc)) s =
      .next (s.judgeFrame (f.payload.length + 11) (f.body status flags) crc) := by
  have hbody := length_body f status flags
  rw [exec_frameReceived hup, foldl_linkByte_frame hhunt (by omega) (by omega) (by omega) hcrc]

theorem exec_frameError {len : Nat} {body crc : List Byte} (hlow : 10 ≤ len) (hhigh : len ≤ 1024)
    (hbody : body.length + 5 = len) (hcrc : crc.length = 2) (h : crc ≠ crcBytes (be16 len ++ body) ∨ body.length < 6) :
    exec (.frameReceived (0xA5 :: be16 len ++ body ++ crc)) s = .next
      { s with mli := { s.mli with rxAt := s.now, frameErrors := min (s.mli.frameErrors + 1) 65535 } } := by
  rw [exec_frameReceived hup, foldl_linkByte_frame hhunt hlow hhigh hbody hcrc, judgeFrame_error s h,
    setReceiver_hunt hhunt]
  rfl

/-- A command with its CRC arrives whatever its status and flag bytes are (R170, R180). -/
theorem exec_arrived {f : Frame} (hf : f.payload.length ≤ 1013) (status flags : Byte) :
    exec (.frameReceived (0xA5 :: be16 (f.payload.length + 11) ++ f.body status flags ++
      crcBytes (be16 (f.payload.length + 11) ++ f.body status flags))) s =
      .next ((s.setReceiver .hunt).frameArrived f) := by
  have hbody := length_body f status flags
  rw [exec_command hup hhunt hf status flags rfl, State.judgeFrame, frameOfBody_body]
  exact congrArg _ (if_pos ⟨rfl, by omega⟩)

end

/-- Settles O47: each clause follows the receiver through the bytes, up to the byte at which it judges the frame. -/
theorem framesJoinTheBuffer : Obligations.FramesJoinTheBuffer := by
  intro f s hf
  refine ⟨fun hup hhunt => ⟨fun hroom => ?joins, fun hfull => ?overrun, fun status flags => ?spare, fun a b hcrc => ?badCrc,
    fun high low behind hbad => ?badLength, fun body crc hbody hcrc => ?short, fun b behind hb => ?discarded⟩,
    fun hstart bytes => ?startUp⟩
  case joins =>
    rw [bytes_eq, exec_arrived hup hhunt hf, setReceiver_hunt hhunt]
    exact congrArg _ (if_pos hroom)
  case overrun =>
    rw [bytes_eq, exec_arrived hup hhunt hf, setReceiver_hunt hhunt]
    exact congrArg _ (if_neg (Nat.not_lt.2 hfull))
  case spare =>
    have hcovered : be16 (f.payload.length + 11) ++ [f.kind, f.code] ++ be16 f.tag.toNat ++ [status, flags] ++ f.payload =
        be16 (f.payload.length + 11) ++ f.body status flags := by simp [Frame.body]
    dsimp only
    rw [hcovered, bytes_eq, exec_arrived hup hhunt hf]
    exact exec_arrived hup hhunt hf status flags
  case badCrc =>
    let front := 0xA5 :: be16 (f.payload.length + 11) ++ f.body 0 0
    have hlen : f.bytes.length - 2 = front.length := by
      rw [bytes_eq, List.length_append]
      rfl
    have hbody := length_body f 0 0
    rw [hlen, bytes_eq, List.drop_left] at hcrc
    rw [hlen, bytes_eq, List.take_left]
    exact exec_frameError hup hhunt (by omega) (by omega) (by omega) rfl (.inl (Ne.symm hcrc))
  case badLength =>
    have hbytes := foldl_linkByte_badLength hhunt hbad
    rw [setReceiver_hunt hhunt] at hbytes
    rw [exec_frameReceived hup, List.foldl_append, hbytes]
    exact (exec_frameReceived (s := State.frameError { s with mli := { s.mli with rxAt := s.now } }) hup behind).symm
  case short =>
    exact exec_frameError hup hhunt (len := 10) (by decide) (by decide) (by omega) hcrc (.inr (by omega))
  case discarded =>
    rw [exec_frameReceived hup, exec_frameReceived hup, List.foldl_cons, linkByte_discarded hhunt hb]
  case startUp =>
    have hin : s.inStartup = true := Option.isSome_iff_ne_none.2 hstart
    change event (!s.inStartup) s (fun t => bytes.foldl State.linkByte t) = .next s
    rw [hin]
    rfl

end Sys2Proof.Machine
end


section
/-! SUPPORT. O48 and O49: the small events of the two links, and the row that takes a frame (R159, R169, R171, R173, R174, R178,
R183). -/

namespace Sys2Proof.Machine

/-! ## The rows of the command handler (R171) -/

/-- Where the keys differ, looking a key up finds its own entry. -/
theorem find?_of_nodup_keys {α β : Type} [BEq α] [LawfulBEq α] {l : List (α × β)} (hkeys : (l.map Prod.fst).Nodup)
    {r : α × β} (hr : r ∈ l) : l.find? (fun q => q.1 == r.1) = some r := by
  induction l with
  | nil => nomatch hr
  | cons q rest ih =>
    obtain ⟨hnew, hrest⟩ := List.nodup_cons.1 hkeys
    rcases List.mem_cons.1 hr with rfl | hmem
    · exact List.find?_cons_of_pos (by simp)
    · have hne : q.1 ≠ r.1 := fun heq => hnew (heq ▸ List.mem_map_of_mem hmem)
      rw [List.find?_cons_of_neg (by simpa using hne), ih hrest hmem]

theorem commandRows_nodup : (commandRows.map Prod.fst).Nodup := by decide

/-- A command whose code stands in the table is taken by its row. -/
theorem taking_of_row {f : Frame} {r : Byte × (Tag → List Byte → Instr)} (hr : r ∈ commandRows) (hkind : f.kind = kindCommand)
    (hcode : f.code = r.1) : f.taking = r.2 f.tag f.payload := by
  have hfind : commandRows.find? (fun q => decide (f.kind = kindCommand) && q.1 == f.code) = some r := by
    simpa [hkind, hcode] using find?_of_nodup_keys commandRows_nodup hr
  simp only [Frame.taking, hfind]

/-- The taking that is due where a frame can be taken. -/
theorem headDue_head {s : State} {f : Frame} {rest : List Frame} (hup : s.mli.startup = none) (hroom : s.mli.tx.length < 56)
    (hbuffer : s.mli.rxBuffer = f :: rest) : s.headDue = some f.taking :=
  (headDue_eq_some s _).2 ⟨hup, hroom, f, rest, hbuffer, rfl⟩

theorem exec_unknownCommand {s t : State} {kind code : Byte} {tag : Tag} {payload : List Byte}
    (h : s.takeFrame ⟨kind, code, tag, payload⟩ = some t) : exec (.unknownCommand kind code tag payload) s =
      if kind ≠ kindCommand then .next t.frameError
      else if knownCode code then .next s
      else .next (t.refuse ⟨code, tag⟩ .badCode) := by
  change execUnknownCommand kind code tag payload s = _
  simp only [execUnknownCommand, h]

/-- Settles O49: the rows by their codes, and UNKNOWN_COMMAND for every other frame. -/
theorem unknownFramesAreRefused : Obligations.UnknownFramesAreRefused := by
  refine ⟨fun tag payload x hx => ?_, fun kind code tag payload rest s hup hroom hbuffer => ?_⟩
  · have hrows : x ∈ commandRows.map (fun r => (r.1, r.2 tag payload)) := by
      simpa only [commandRows, List.map_append, List.map_cons, List.map_nil, List.append_assoc, List.cons_append,
        List.nil_append] using hx
    obtain ⟨r, hr, rfl⟩ := List.mem_map.1 hrows
    exact taking_of_row hr rfl rfl
  have htaking := taking_unknown ⟨kind, code, tag, payload⟩
  have htaken := takeFrame_head s ⟨kind, code, tag, payload⟩ rest hup hroom hbuffer
  have hdue := headDue_head hup hroom hbuffer
  refine ⟨fun hkind => ⟨?_, ?_⟩, fun hkind hunknown => ⟨?_, ?_⟩⟩
  · rw [hdue, htaking (.inl hkind)]
  · rw [exec_unknownCommand htaken]
    exact if_pos hkind
  · rw [hdue, htaking (.inr hunknown)]
  · have hcommand : ¬kind ≠ kindCommand := not_not.2 hkind
    rw [exec_unknownCommand htaken, if_neg hcommand, hunknown]
    rfl

/-! ## Small events -/

section
variable {s : State}

/-- A line error or a gap inside a frame (R169). -/
theorem discardFrame_eq (s : State) : s.discardFrame =
    { s with mli := { s.mli with receiver := .hunt, frameErrors := min (s.mli.frameErrors + 1) 65535 } } := rfl

theorem insideFrame_iff (s : State) : s.insideFrame = true ↔ s.mli.startup = none ∧ s.mli.receiver ≠ .hunt := by
  simp [State.insideFrame, State.inStartup]

theorem frameGapDue_iff (s : State) :
    s.frameGapDue = true ↔ (s.mli.startup = none ∧ s.mli.receiver ≠ .hunt) ∧ s.mli.rxAt + 10 ≤ s.now := by
  rw [State.frameGapDue, Bool.and_eq_true, insideFrame_iff, decide_eq_true_eq]

theorem answerGapDue_iff (s : State) : s.answerGapDue = true ↔ s.amc.rx ≠ [] ∧ s.amc.rxAt + 10 ≤ s.now := by
  simp [State.answerGapDue]

/-- The head record leaves, and its slot is free again (R173, R174). -/
theorem recordLeaves_cons {r : TxRecord} {more : List TxRecord} (h : s.mli.tx = r :: more) :
    s.recordLeaves = { s with mli := { s.mli with
      tx := more
      slots := match r.slot with
        | some i => s.mli.slots.setIfInBounds i none
        | none => s.mli.slots } } := by
  unfold State.recordLeaves
  simp only [h]
  cases r.slot <;> rfl

theorem exec_recordSent {r : TxRecord} {more : List TxRecord} (h : s.mli.tx = r :: more) :
    exec .recordSent s = .next s.recordLeaves := by
  have hsends : (!s.mli.tx.isEmpty) = true := by rw [h]; rfl
  exact event_true _ s State.recordLeaves hsends

/-- In a timely run only a moment that has come goes before the taking of a frame (R171). -/
theorem mem_due_of_timely {c : Instr} {later : List Instr} {i : Instr} (hdue : s.headDue = some i)
    (h : timely (c :: later) s) : c ∈ s.due := by
  obtain ⟨⟨-, hnone | hmem, -⟩, -⟩ := h
  · rw [hdue] at hnone
    cases hnone
  · exact hmem

/-- A record that leaves 55 behind it makes the taking of the head frame due (R171). -/
theorem headDue_recordLeaves {r : TxRecord} {more : List TxRecord} {f : Frame} {behind : List Frame}
    (hup : s.mli.startup = none) (htx : s.mli.tx = r :: more) (hmore : more.length = 55)
    (hbuffer : s.mli.rxBuffer = f :: behind) : s.headDue = none ∧ s.recordLeaves.headDue = some f.taking := by
  constructor
  · refine (headDue_eq_none s).2 (.inl ?_)
    rintro ⟨-, hroom⟩
    rw [htx, List.length_cons] at hroom
    omega
  · rw [recordLeaves_cons htx]
    exact headDue_head hup (Nat.lt_of_le_of_lt hmore.le (by decide)) hbuffer

/-- READY goes out as the notice of section 11.6, and start-up ends (R178). -/
theorem placeReady_eq {kind : ResetKind} {loops : Nat} {link : LinkState}
    (h : s.mli.startup = some ⟨kind, loops, some link⟩) : s.placeReady = { s with mli := { s.mli with
      startup := none
      receiver := .hunt
      tx := s.mli.tx ++ [⟨.notice, 0x80, 0, .ok, false, false,
        [if kind = .cold then 0 else 1, 16, if link = .synced then 1 else 0, BitVec.ofNat 8 loops], none⟩] } } := by
  have hpayload : readyPayload ⟨kind, loops, some link⟩ link =
      [if kind = .cold then 0 else 1, 16, if link = .synced then 1 else 0, BitVec.ofNat 8 loops] := by
    cases kind <;> cases link <;> rfl
  simp only [State.placeReady, h, hpayload]
  rfl

end

/-- Settles O48: each event's condition holds, and its effect is the one written out. -/
theorem linkEventsDoOneThing : Obligations.LinkEventsDoOneThing := by
  intro s
  refine ⟨fun hup hin => ?lineError, fun hup hout => ?outside, fun hup hin hgap => ?frameGap, fun hrx hgap => ?answerGap,
    fun q hq hunsent => ?requestSent, fun r more htx => ?recordSent, fun r more f behind hup htx hmore hbuffer => ?handler,
    fun b hrx hgap => ?answerByte, fun kind loops link hstart hroom => ?ready⟩
  case lineError => exact event_true _ s State.discardFrame ((insideFrame_iff s).2 ⟨hup, hin⟩)
  case outside =>
    have houtside : s.insideFrame = false := Bool.eq_false_iff.2 (fun h => ((insideFrame_iff s).1 h).2 hout)
    change event s.insideFrame s State.discardFrame = .next s
    rw [houtside]
    rfl
  case frameGap => exact event_true _ s State.discardFrame ((frameGapDue_iff s).2 ⟨⟨hup, hin⟩, hgap⟩)
  case answerGap => exact event_true _ s State.dropAnswer ((answerGapDue_iff s).2 ⟨hrx, hgap⟩)
  case requestSent =>
    have hdue : s.requestUnsent = true := by simp [State.requestUnsent, hq, hunsent]
    refine (event_true _ s State.noteSent hdue).trans ?_
    simp only [State.noteSent, hq]
    rfl
  case recordSent => exact (exec_recordSent htx).trans (congrArg _ (recordLeaves_cons htx))
  case handler =>
    obtain ⟨hbefore, hafter⟩ := headDue_recordLeaves hup htx hmore hbuffer
    exact ⟨hbefore, s.recordLeaves, exec_recordSent htx, hafter, fun c later htimely => mem_due_of_timely hafter htimely⟩
  case answerByte =>
    change Host.Outcome.next (s.answerByte b) = _
    rw [answerByte_late s b ((answerGapDue_iff s).2 ⟨hrx, hgap⟩)]
    split <;> rfl
  case ready =>
    have hdue : s.readyDue = true := by simp [State.readyDue, hstart, hroom]
    rw [← placeReady_eq hstart]
    exact event_true _ s State.placeReady hdue

end Sys2Proof.Machine
end


section
/-! SUPPORT. O50: DEVICE_RESET, its checks, the abandoned replies and the soft reset of every block (R176 to R178). -/

namespace Sys2Proof.Machine

/-! ## The slots not yet answered (R173, R177) -/

section
variable (s : State)

theorem mem_unanswered {i : Nat} {d : DeferredSlot} :
    (d, i) ∈ s.unanswered ↔ s.slot i = some d ∧ d.placed = false := by
  have hentry (x : Option DeferredSlot) (k : Nat) : (x, k) ∈ s.mli.slots.toList.zipIdx ↔ s.mli.slots[k]? = some x := by
    rw [List.mem_zipIdx_iff_getElem?, Vector.getElem?_toList]
  have hslot : s.slot i = some d ↔ s.mli.slots[i]? = some (some d) := by
    rw [State.slot, Option.getD_eq_iff]
    simp
  rw [State.unanswered, List.mem_insertionSort, List.mem_filter, List.mem_filterMap, hslot, Bool.not_eq_true']
  refine and_congr_left fun _ => ⟨?_, fun h => ⟨(some d, i), (hentry _ _).2 h, rfl⟩⟩
  rintro ⟨⟨x, k⟩, hmem, hx⟩
  obtain ⟨e, rfl, he⟩ := Option.map_eq_some_iff.1 hx
  obtain ⟨rfl, rfl⟩ := Prod.mk.inj he
  exact (hentry _ _).1 hmem

/-- Each slot stands in the list once. -/
theorem nodup_unanswered : (s.unanswered.map Prod.snd).Nodup := by
  have hplaces : s.mli.slots.toList.zipIdx.Pairwise (fun a b => a.2 ≠ b.2) := by
    rw [← List.pairwise_map (f := Prod.snd), List.zipIdx_map_snd]
    exact List.nodup_range'
  have hheld : (s.mli.slots.toList.zipIdx.filterMap (fun p => p.1.map (fun d => (d, p.2)))).Pairwise
      (fun a b => a.2 ≠ b.2) := by
    refine List.pairwise_filterMap.2 (hplaces.imp ?_)
    intro a b hne x hx y hy
    obtain ⟨_, -, rfl⟩ := Option.map_eq_some_iff.1 hx
    obtain ⟨_, -, rfl⟩ := Option.map_eq_some_iff.1 hy
    exact hne
  have hsorted : (s.unanswered.map Prod.snd).Perm _ := (List.perm_insertionSort _ _).map Prod.snd
  exact hsorted.nodup_iff.2 (List.pairwise_map.2 (hheld.filter _))

/-- The list stands in the order of acceptance. -/
theorem unanswered_ordered : s.unanswered.Pairwise (fun a b => a.1.order ≤ b.1.order) := by
  have : Std.Total (fun a b : DeferredSlot × Nat => a.1.order ≤ b.1.order) := ⟨fun _ _ => Nat.le_total _ _⟩
  have : IsTrans (DeferredSlot × Nat) (fun a b => a.1.order ≤ b.1.order) := ⟨fun _ _ _ => Nat.le_trans⟩
  exact List.pairwise_insertionSort _ _

end

/-! ## The abandoned replies (R177) -/

/-- The slot with its reply placed. -/
def DeferredSlot.answered (d : DeferredSlot) : DeferredSlot := { d with placed := true }

/-- Nothing but the transmit queue and the slot table may differ. -/
def State.OnlyAnswers (s t : State) : Prop :=
  t = { s with mli := { s.mli with tx := t.mli.tx, slots := t.mli.slots } }

theorem State.OnlyAnswers.trans {s t u : State} (h : s.OnlyAnswers t) (k : t.OnlyAnswers u) : s.OnlyAnswers u := by
  unfold State.OnlyAnswers at *
  rw [h] at k
  exact k

theorem onlyAnswers_answer (s : State) (i : Nat) (st : Status) (b : Bool) (p : List Byte) :
    s.OnlyAnswers (s.answer i st b p) := by
  unfold State.OnlyAnswers State.answer
  repeat' split
  all_goals rfl

theorem stateAfterReset_eq (g : Engine) : g.stateAfterReset =
    if g.disablePending = true ∨ g.state = .offline then .offline else .idle := by
  simp [Engine.stateAfterReset]

/-- A reset answers a slot with its abandoned reply. -/
theorem abandon_eq_answer (s : State) (d : DeferredSlot) (i : Nat) : ∃ st p,
    s.abandon d i = s.answer i st true p ∧ abandonedReply s i d = ⟨.reply, d.code, d.tag, st, false, true, p, some i⟩ := by
  unfold State.abandon abandonedReply
  cases d.op with
  | spotProbe c => exact ⟨_, _, rfl, rfl⟩
  | calibration e => exact ⟨_, _, rfl, by rw [calibrationPayload_none, stateAfterReset_eq]⟩
  | resync => exact ⟨_, _, rfl, rfl⟩

/-- An abandoned reply reads the engines alone. -/
theorem abandonedReply_congr {s t : State} (h : t.engines = s.engines) (i : Nat) (d : DeferredSlot) :
    abandonedReply t i d = abandonedReply s i d := by
  have hengine (e : Nat) : t.engine e = s.engine e := by rw [State.engine, State.engine, h]
  simp only [abandonedReply, hengine]

section
variable (s : State) {d : DeferredSlot} {i : Nat}

theorem onlyAnswers_abandon (d : DeferredSlot) (i : Nat) : s.OnlyAnswers (s.abandon d i) := by
  obtain ⟨st, p, habandon, -⟩ := abandon_eq_answer s d i
  rw [habandon]
  exact onlyAnswers_answer s i st true p

theorem slot_abandon_ne {j : Nat} (h : i ≠ j) : (s.abandon d i).slot j = s.slot j := by
  obtain ⟨st, p, habandon, -⟩ := abandon_eq_answer s d i
  rw [habandon]
  exact slot_answer_ne s st true p h

theorem slot_abandon_self (hd : s.slot i = some d) (hp : d.placed = false) :
    (s.abandon d i).slot i = some d.answered := by
  obtain ⟨st, p, habandon, -⟩ := abandon_eq_answer s d i
  rw [habandon]
  exact slot_answer_self st true p hd hp

theorem tx_abandon (hd : s.slot i = some d) (hp : d.placed = false) :
    (s.abandon d i).mli.tx = s.mli.tx ++ [abandonedReply s i d] := by
  obtain ⟨st, p, habandon, hreply⟩ := abandon_eq_answer s d i
  rw [habandon, hreply]
  exact answer_tx_held s i st true p d hd hp

end

/-- The listed slots' replies placed one after the other. -/
def State.abandonList (s : State) (l : List (DeferredSlot × Nat)) : State := l.foldl (fun t q => t.abandon q.1 q.2) s

theorem abandonAll_eq (s : State) : s.abandonAll = s.abandonList s.unanswered := rfl

theorem onlyAnswers_abandonList (s : State) (l : List (DeferredSlot × Nat)) : s.OnlyAnswers (s.abandonList l) :=
  foldl_inv _ s.OnlyAnswers (fun t q h => h.trans (onlyAnswers_abandon t q.1 q.2)) l s rfl

theorem onlyAnswers_abandonAll (s : State) : s.OnlyAnswers s.abandonAll := onlyAnswers_abandonList s s.unanswered

/-- The slots that no entry names stay. -/
theorem slot_abandonList_of_notMem {l : List (DeferredSlot × Nat)} {i : Nat} (hi : i ∉ l.map Prod.snd) (s : State) :
    (s.abandonList l).slot i = s.slot i := by
  induction l generalizing s with
  | nil => rfl
  | cons q more ih =>
    obtain ⟨hne, hmore⟩ := not_or.1 (mt List.mem_cons.2 hi)
    exact (ih hmore (s.abandon q.1 q.2)).trans (slot_abandon_ne s (Ne.symm hne))

/-- Distinct slots that all wait are answered in the order of the list. -/
theorem abandonList_waiting {l : List (DeferredSlot × Nat)} (hn : (l.map Prod.snd).Nodup) (s : State)
    (hwait : ∀ q ∈ l, s.slot q.2 = some q.1 ∧ q.1.placed = false) :
    (s.abandonList l).mli.tx = s.mli.tx ++ l.map (fun q => abandonedReply s q.2 q.1) ∧
      ∀ q ∈ l, (s.abandonList l).slot q.2 = some q.1.answered := by
  induction l generalizing s with
  | nil => exact ⟨(List.append_nil _).symm, fun q hq => nomatch hq⟩
  | cons q more ih =>
    obtain ⟨hfresh, hmore⟩ := List.nodup_cons.1 hn
    obtain ⟨hd, hp⟩ := hwait q List.mem_cons_self
    have hwaitMore (x : DeferredSlot × Nat) (hx : x ∈ more) :
        (s.abandon q.1 q.2).slot x.2 = some x.1 ∧ x.1.placed = false := by
      have hne : q.2 ≠ x.2 := fun heq => hfresh (heq ▸ List.mem_map_of_mem hx)
      rw [slot_abandon_ne s hne]
      exact hwait x (List.mem_cons_of_mem _ hx)
    obtain ⟨htx, hslots⟩ := ih hmore (s.abandon q.1 q.2) hwaitMore
    have hengines : (s.abandon q.1 q.2).engines = s.engines := by rw [onlyAnswers_abandon s q.1 q.2]
    constructor
    · calc (s.abandonList (q :: more)).mli.tx
          = (s.abandon q.1 q.2).mli.tx ++ more.map (fun x => abandonedReply (s.abandon q.1 q.2) x.2 x.1) := htx
        _ = (s.mli.tx ++ [abandonedReply s q.2 q.1]) ++ more.map (fun x => abandonedReply s x.2 x.1) := by
          rw [tx_abandon s hd hp, List.map_congr_left (fun x _ => abandonedReply_congr hengines x.2 x.1)]
        _ = s.mli.tx ++ (q :: more).map (fun x => abandonedReply s x.2 x.1) := by simp
    · intro x hx
      rcases List.mem_cons.1 hx with rfl | hmem
      · exact (slot_abandonList_of_notMem hfresh (s.abandon x.1 x.2)).trans (slot_abandon_self s hd hp)
      · exact hslots x hmem

theorem tx_abandonAll (s : State) :
    s.abandonAll.mli.tx = s.mli.tx ++ s.unanswered.map (fun q => abandonedReply s q.2 q.1) :=
  (abandonList_waiting (nodup_unanswered s) s (fun _ hq => (mem_unanswered s).1 hq)).1

/-- Every held slot has its reply placed. -/
theorem slot_abandonAll (s : State) (i : Nat) : s.abandonAll.slot i = (s.slot i).map DeferredSlot.answered := by
  rw [abandonAll_eq]
  by_cases hlisted : i ∈ s.unanswered.map Prod.snd
  · obtain ⟨⟨d, j⟩, hmem, rfl⟩ := List.mem_map.1 hlisted
    obtain ⟨hd, -⟩ := (mem_unanswered s).1 hmem
    rw [hd]
    exact (abandonList_waiting (nodup_unanswered s) s (fun _ hq => (mem_unanswered s).1 hq)).2 (d, j) hmem
  · rw [slot_abandonList_of_notMem hlisted]
    cases hd : s.slot i with
    | none => rfl
    | some d =>
      have hp : d.placed = true := by
        by_contra hp
        exact hlisted (List.mem_map_of_mem (f := Prod.snd) ((mem_unanswered s).2 ⟨hd, Bool.eq_false_iff.2 hp⟩))
      rw [Option.map_some, DeferredSlot.answered, ← hp]

/-! ## The soft reset of every block (R177) -/

section
variable (s : State) (loops : Nat)

theorem point_emptied (p : Nat) : (s.emptied loops).point p = (s.point p).softReset := by
  by_cases hp : p < 256
  · simp [State.point, State.emptied, hp]
  · simp [State.point, State.emptied, hp, Point.softReset, Point.reset]

theorem node_emptied {n : Nat} (hn : n < 64) : (s.emptied loops).node n = (s.node n).softReset := by
  simp [State.node, State.emptied, hn]

theorem cls_emptied {k : Nat} (hk : k < 4) : (s.emptied loops).cls k = (s.cls k).softReset := by
  simp [State.cls, State.emptied, hk]

/-- The fields of a reset engine (R44). -/
theorem engine_emptied_fields {e : Nat} (he : e < 16) :
    ((s.emptied loops).engine e).state =
        (if (s.engine e).disablePending = true ∨ (s.engine e).state = .offline then .offline else .idle) ∧
      ((s.emptied loops).engine e).disablePending = false ∧
      ((s.emptied loops).engine e).localOffset = (s.engine e).localOffset ∧
      ((s.emptied loops).engine e).context = none ∧ ((s.emptied loops).engine e).meas = Measurement.zero := by
  rw [engine_emptied s loops he, ← stateAfterReset_eq]
  exact ⟨rfl, rfl, rfl, rfl, rfl⟩

/-- The RESET_ALL finds an empty FIFO, and so it is current at once (R157, R166). -/
theorem softReset_written : s.softReset loops = { s.emptied loops with amc := { s.amc with
    fifo := []
    current := some ⟨Request.ofReset, s.amc.nextSeq, s.amc.timeout, none⟩
    nextSeq := (s.amc.nextSeq + 1) % 256
    link := .unsynced
    rx := [] } } := rfl

end

/-! ## DEVICE_RESET (R176) -/

section
variable {s : State} {tag : Tag} {f : Byte} {rest : List Frame}

theorem resetCheck_badField {n : Nat} (h : 1 < n) : resetCheck s n = some .badField := if_pos h

theorem resetCheck_forced : resetCheck s 1 = none := rfl

theorem resetCheck_enginesActive (h : s.anyActive = true) : resetCheck s 0 = some .enginesActive := by
  simp [resetCheck, h]

theorem resetCheck_circuitBusy (hquiet : s.anyActive = false) (hloops : s.openLoops ≠ []) :
    resetCheck s 0 = some .circuitBusy := by
  simp [resetCheck, hquiet, hloops]

theorem resetCheck_none (hquiet : s.anyActive = false) (hloops : s.openLoops = []) : resetCheck s 0 = none := by
  simp [resetCheck, hquiet, hloops]

theorem anyActive_eq_false_iff (s : State) : s.anyActive = false ↔ ∀ e, e < 16 → (s.engine e).state.active = false := by
  rw [Bool.eq_false_iff, ne_eq, anyActive_iff]
  simp

theorem exec_deviceReset (h : s.Takes 0x71 tag [f] rest) :
    exec (.deviceReset tag [f]) s = .next (deviceResetBody [f] ⟨0x71, tag⟩ (s.taken rest)) :=
  (hostCommand_takes h (fun c => fixedLength 1 [f] c (deviceResetBody [f] c))).trans
    (congrArg _ (fixedLength_of_eq rfl _ _ _))

theorem exec_deviceReset_refused (h : s.Takes 0x71 tag [f] rest) {st : Status}
    (hcheck : resetCheck s f.toNat = some st) :
    exec (.deviceReset tag [f]) s = .next (s.answered rest (replyTo 0x71 tag st false [])) := by
  have hcheck' : resetCheck (s.taken rest) (rd8 [f] 0) = some st := hcheck
  rw [exec_deviceReset h, deviceResetBody, hcheck']
  rfl

theorem exec_deviceReset_accepted (h : s.Takes 0x71 tag [f] rest) (hcheck : resetCheck s f.toNat = none) :
    exec (.deviceReset tag [f]) s =
      .next ((s.answered rest (replyTo 0x71 tag .ok false [f])).abandonAll.softReset s.loopsStanding) := by
  have hcheck' : resetCheck (s.taken rest) (rd8 [f] 0) = none := hcheck
  have hecho : be8 (rd8 [f] 0) = [f] := by
    change be8 f.toNat = [f]
    simp [be8]
  rw [exec_deviceReset h, deviceResetBody, hcheck', hecho]
  rfl

end

/-- Settles O50: the checks in order, the waiting slots answered in the order of acceptance, every block by its soft reset. -/
theorem deviceResetIsTakenWhole : Obligations.DeviceResetIsTakenWhole := by
  intro tag f rest s htakes refused quiet
  have hquiet : quiet ↔ s.anyActive = false := (anyActive_eq_false_iff s).symm
  refine ⟨fun hf => exec_deviceReset_refused htakes (resetCheck_badField hf), ?enginesActive, ?circuitBusy,
    fun hok => ?accepted⟩
  case enginesActive =>
    rintro rfl hactive
    exact exec_deviceReset_refused htakes (resetCheck_enginesActive (by simpa [hquiet] using hactive))
  case circuitBusy =>
    rintro rfl hq hloops
    exact exec_deviceReset_refused htakes (resetCheck_circuitBusy (hquiet.1 hq) hloops)
  case accepted =>
    have hcheck : resetCheck s f.toNat = none := by
      rcases hok with rfl | ⟨rfl, hq, hloops⟩
      · exact resetCheck_forced
      · exact resetCheck_none (hquiet.1 hq) hloops
    have hexec := exec_deviceReset_accepted htakes hcheck
    have hwaiting (i : Nat) (d : DeferredSlot) :
        (i, d) ∈ s.unanswered.map Prod.swap ↔ s.slot i = some d ∧ d.placed = false := by
      rw [← mem_unanswered]
      simp
    have hqueue := tx_abandonAll (s.answered rest (replyTo 0x71 tag .ok false [f]))
    have hslots := slot_abandonAll (s.answered rest (replyTo 0x71 tag .ok false [f]))
    have hframe := onlyAnswers_abandonAll (s.answered rest (replyTo 0x71 tag .ok false [f]))
    rw [softReset_written] at hexec
    -- From here the state after the replies is `s` but for its buffer, its transmit queue and its slot table.
    generalize (s.answered rest (replyTo 0x71 tag .ok false [f])).abandonAll = a at hexec hqueue hslots hframe
    obtain ⟨tx, slots, rfl⟩ : ∃ tx slots, a =
      { s with mli := { s.mli with rxBuffer := rest, tx := tx, slots := slots } } := ⟨_, _, hframe⟩
    refine ⟨_, hexec, circuit_emptied _ s.loopsStanding, fun e he => engine_emptied_fields _ s.loopsStanding he, rfl, rfl,
      point_emptied _ s.loopsStanding, fun n hn => node_emptied _ s.loopsStanding hn,
      rfl, rfl, rfl, rfl, rfl, rfl, rfl, rfl, rfl, rfl, fun k hk => cls_emptied _ s.loopsStanding hk,
      rfl, rfl, rfl, rfl, rfl, rfl, rfl, rfl, rfl, rfl, rfl, rfl, rfl, rfl,
      ⟨s.unanswered.map Prod.swap, hwaiting, ?once, ?ordered, ?queue⟩, hslots, rfl, rfl, rfl⟩
    case once =>
      rw [List.map_map]
      exact nodup_unanswered s
    case ordered => exact List.pairwise_map.2 (unanswered_ordered s)
    case queue =>
      rw [List.map_map]
      exact hqueue.trans (List.append_assoc _ _ _)

end Sys2Proof.Machine
end
